-- ==== Sys2Proof/Word.lean ====
section
/-! DEFINITION. The plain shapes the manual counts with: link bytes, string positions 1 to 8,
the two Equalise Channels, fixed families of eight and of two, and bounded counters. -/

namespace Sys2Proof

/-- One byte of the message link (chapter 11). -/
abbrev Byte := BitVec 8

/-- A string position 1..8 (3.1 of the overview). -/
inductive Pos where
  | p1 | p2 | p3 | p4 | p5 | p6 | p7 | p8
  deriving DecidableEq, Repr

/-- The position's number, 1..8. -/
def Pos.num : Pos → Nat
  | .p1 => 1 | .p2 => 2 | .p3 => 3 | .p4 => 4 | .p5 => 5 | .p6 => 6 | .p7 => 7 | .p8 => 8

/-- The position with a given number, absent outside 1..8. -/
def Pos.ofNum : Nat → Option Pos
  | 1 => some .p1 | 2 => some .p2 | 3 => some .p3 | 4 => some .p4
  | 5 => some .p5 | 6 => some .p6 | 7 => some .p7 | 8 => some .p8
  | _ => none

/-- The positions in position order. -/
def Pos.all : List Pos := [.p1, .p2, .p3, .p4, .p5, .p6, .p7, .p8]

/-- The position after this one in the scan cycle, position 1 after position 8. -/
def Pos.next : Pos → Pos
  | .p1 => .p2 | .p2 => .p3 | .p3 => .p4 | .p4 => .p5
  | .p5 => .p6 | .p6 => .p7 | .p7 => .p8 | .p8 => .p1

/-- One value for each string position. -/
structure Eight (α : Type) where
  p1 : α
  p2 : α
  p3 : α
  p4 : α
  p5 : α
  p6 : α
  p7 : α
  p8 : α
  deriving DecidableEq, Repr

/-- The same value at every position. -/
def Eight.const {α : Type} (v : α) : Eight α := ⟨v, v, v, v, v, v, v, v⟩

/-- The value at a position. -/
def Eight.get {α : Type} (e : Eight α) : Pos → α
  | .p1 => e.p1 | .p2 => e.p2 | .p3 => e.p3 | .p4 => e.p4
  | .p5 => e.p5 | .p6 => e.p6 | .p7 => e.p7 | .p8 => e.p8

/-- The family with one position's value replaced. -/
def Eight.set {α : Type} (e : Eight α) (p : Pos) (v : α) : Eight α :=
  match p with
  | .p1 => { e with p1 := v } | .p2 => { e with p2 := v }
  | .p3 => { e with p3 := v } | .p4 => { e with p4 := v }
  | .p5 => { e with p5 := v } | .p6 => { e with p6 := v }
  | .p7 => { e with p7 := v } | .p8 => { e with p8 := v }

/-- A family built from a value for each position. -/
def Eight.of {α : Type} (f : Pos → α) : Eight α :=
  ⟨f .p1, f .p2, f .p3, f .p4, f .p5, f .p6, f .p7, f .p8⟩

/-- One of the two Equalise Channels. -/
inductive Ch where
  | a | b
  deriving DecidableEq, Repr

/-- One value for each Equalise Channel. -/
structure Two (α : Type) where
  a : α
  b : α
  deriving DecidableEq, Repr

/-- The value of a channel. -/
def Two.get {α : Type} (t : Two α) : Ch → α
  | .a => t.a
  | .b => t.b

/-- The pair with one channel's value replaced. -/
def Two.set {α : Type} (t : Two α) (c : Ch) (v : α) : Two α :=
  match c with
  | .a => { t with a := v }
  | .b => { t with b := v }

/-- The other channel. -/
def Ch.other : Ch → Ch
  | .a => .b
  | .b => .a

/-- A count that saturates at `top`. -/
def satAdd (top x y : Nat) : Nat := min top (x + y)

/-- The integer nearest to `x` within `lo..hi`. -/
def clampInt (lo hi x : Int) : Int := max lo (min hi x)

/-- The number nearest to `x` within `lo..hi`. -/
def clampNat (lo hi x : Nat) : Nat := max lo (min hi x)

end Sys2Proof
end

