-- ==== Sys2Proof/Syntax.lean ====
section
/-! DEFINITION. The commands of the part: one constructor for each row of spec/opcode_table.json.
A row's operands are what its event brings from outside the part (input levels, measured values,
counts, a received byte) or which of several like units it concerns (a channel, a position).
A request of the host carries no operand of its own: it is the taking of the frame that stands at
the head of the Inbound Queue, and its fields are that frame's TAG and body (R181, R182). -/

namespace Sys2Proof

/-- The commands, in the table's order. -/
inductive Instr where
  /-- POWER_ON (R6). -/
  | powerOn
  /-- RESET_N (R6): the line is asserted. -/
  | resetN
  /-- RESET_RELEASE (R189). -/
  | resetRelease
  /-- READY (R189). -/
  | ready
  /-- SAMPLE_INSTANT (R11): bit `k - 1` is the electrical level of input `k` of R8, 1 for HIGH. -/
  | sampleInstant (levels : BitVec 35)
  /-- SLOT_START (R18). -/
  | slotStart
  /-- SCAN_COMPLETION (R20): the slot's 24 cell measurements in mV, cell 1 first. -/
  | scanCompletion (cells : List Nat)
  /-- CURRENT_SAMPLE (R23): the eight measured currents in 0.1 A. It is the second of the timer base. -/
  | currentSample (amps : Eight Int)
  /-- CONVERSION_COMPLETION (R26): the cycles of the two gates, before the counter's stop at 1,048,575. -/
  | conversionCompletion (gateTh gateRef : Nat)
  /-- FLOW_PULSE (R30). -/
  | flowPulse
  /-- FLOW_REST (R30). -/
  | flowRest
  /-- TACH_EDGE (R32): a rising edge at the given microsecond since release. -/
  | tachEdge (atMicros : Nat)
  /-- TACH_TIMEOUT (R33). -/
  | tachTimeout
  /-- HOUR_ROLLOVER (R55). -/
  | hourRollover (p : Pos)
  /-- GRANT_COUNTDOWN (R79). -/
  | grantCountdown
  /-- MINUTE_EVALUATION (R80). -/
  | minuteEvaluation
  /-- TRANSFER_OUT_TIMEOUT (R96). -/
  | transferOutTimeout (c : Ch)
  /-- TRANSFER_BACK_TIMEOUT (R115). -/
  | transferBackTimeout (c : Ch)
  /-- RAMP_STEP (R98). -/
  | rampStep (c : Ch)
  /-- HOLD_MINUTE (R99). -/
  | holdMinute (c : Ch)
  /-- SETTLE_END (R109). -/
  | settleEnd (c : Ch)
  /-- GIVE_UP (R112). -/
  | giveUp (c : Ch)
  /-- AGE_MINUTE (R131): a minute of the context that names the position. -/
  | ageMinute (p : Pos)
  /-- RUN_ON_EXPIRY (R121). -/
  | runOnExpiry
  /-- LOW_SPEED_EXPIRY (R122). -/
  | lowSpeedExpiry
  /-- RECOVERY_EXPIRY (R123). -/
  | recoveryExpiry
  /-- PURGE_END (R125). -/
  | purgeEnd
  /-- GRACE_EXPIRY (R126). -/
  | graceExpiry
  /-- PRIMING_END (R139). -/
  | primingEnd
  /-- PRIME_TIMEOUT (R141). -/
  | primeTimeout
  /-- FLOW_STOP (R141). -/
  | flowStop
  /-- PAUSE_END (R142). -/
  | pauseEnd
  /-- CLOSING_END (R147). -/
  | closingEnd
  /-- MANUAL_DOSE_END (R152). -/
  | manualDoseEnd
  /-- NOTICE (R172). -/
  | notice
  /-- LOG_RECORD (R165). -/
  | logRecord
  /-- LOG_END (R165). -/
  | logEnd
  /-- MESSAGE_SENT (R181). -/
  | messageSent
  /-- FRAME_RECEIVED (R180): the byte that completes a frame. -/
  | frameReceived (byte : Byte)
  /-- UNKNOWN_KIND (R182). -/
  | unknownKind
  /-- IDENTIFY (R188). -/
  | identify
  /-- READ_STATUS (R188). -/
  | readStatus
  /-- SET_CLOCK (R187). -/
  | setClock
  /-- READ_STRING (R68). -/
  | readString
  /-- READ_CELLS (R34). -/
  | readCells
  /-- READ_TEMPERATURES (R35). -/
  | readTemperatures
  /-- READ_TEMPERATURE_DETAIL (R36). -/
  | readTemperatureDetail
  /-- READ_PLANT (R7). -/
  | readPlant
  /-- SET_SETTING (R185). -/
  | setSetting
  /-- STORE_WRITE_END (R185). -/
  | storeWriteEnd
  /-- READ_SETTING (R185). -/
  | readSetting
  /-- SUBMIT_ROUND (R74). -/
  | submitRound
  /-- CANCEL_ROUND (R76). -/
  | cancelRound
  /-- READ_QUEUE (R77). -/
  | readQueue
  /-- READ_HELD (R134). -/
  | readHeld
  /-- READ_HELD_DETAIL (R135). -/
  | readHeldDetail
  /-- SUPPLY_GRANT (R79). -/
  | supplyGrant
  /-- CLAIM_LINE (R149). -/
  | claimLine
  /-- RELEASE_LINE (R150). -/
  | releaseLine
  /-- MANUAL_DOSE (R151). -/
  | manualDose
  /-- REFILL (R155). -/
  | refill
  /-- READ_WEAK (R168). -/
  | readWeak
  /-- CLEAR_WEAK (R169). -/
  | clearWeak
  /-- RELEASE_LOCK (R65). -/
  | releaseLock
  /-- SET_NOTICE_MASTER (R173). -/
  | setNoticeMaster
  /-- READ_CONDITIONS (R176). -/
  | readConditions
  /-- CLEAR_CONDITIONS (R174). -/
  | clearConditions
  /-- READ_LOG (R164). -/
  | readLog
  /-- STOP_LOG (R166). -/
  | stopLog
  /-- RESTART (R190). -/
  | restart
  /-- FINAL_STEP (R190). -/
  | finalStep
  /-- RECEIVED_BYTE (R180). -/
  | receivedByte (byte : Byte)
  deriving DecidableEq, Repr

end Sys2Proof
end

