-- ==== Sys2Proof/Decode.lean ====
section
/-! DEFINITION. Reading a command from a table word. No row of spec/opcode_table.json gives bits (the
part's commands are events and frames, not words), so no word spells a command. The link's own
encoding, bytes to frames and frames to requests, is chapter 11's and stands in Machine/Link.lean. -/

namespace Sys2Proof

/-- The command a table word spells: none, since the table gives no row any bits. -/
def decodeTableWord (_nbits _w : Nat) : Option Instr := none

end Sys2Proof
end

