-- ==== Sys2Proof/Config.lean ====
section
/-! DEFINITION. What is fixed for every part this manual describes, and the free values: constants with no
body that stand for what the manual leaves open, so that nothing can be proved of their value. -/

namespace Sys2Proof.Config

/-- Capacity of the Round Queue (R71). -/
def queueCap : Nat := 12
/-- Capacity of the Held Rounds List (R130). -/
def heldCap : Nat := 4
/-- Capacity of the Weak Cell List (R167). -/
def weakCap : Nat := 32
/-- Records held by the Round Record Log's ring (R161). -/
def ringCap : Nat := 64
/-- Capacity of the Inbound Queue in frames (R181). -/
def inboundCap : Nat := 4
/-- Capacity of the Outbound Queue in messages (R181). -/
def outboundCap : Nat := 8
/-- Largest value of a 32-bit count. -/
def max32 : Nat := 4294967295
/-- Largest value of a 16-bit count. -/
def max16 : Nat := 65535
/-- The gate counter's stop (R25). -/
def gateStop : Nat := 1048575

/-- The thermistor breakpoints (T in whole degrees, Q), coldest first (R38). -/
def breakpoints : List (Int × Nat) :=
  [(-20, 7938), (-15, 6104), (-10, 4740), (-5, 3716), (0, 2939), (5, 2345), (10, 1885), (15, 1527),
   (20, 1246), (25, 1024), (30, 847), (35, 705), (40, 590), (45, 496), (50, 420), (55, 357), (60, 305)]

/-- FREE VALUE (assumption 5). Whether a settings write that an assertion of RESET_N finds in progress is
lost, so that the checksum fails at the initialisation. R186 names only the loss of power. The argument is
the state's counter of free values drawn. -/
opaque writeLostAtResetN : Nat → Bool

/-- FREE VALUE (assumption 7). The doses count after a 256th DOSING entry of one watering: R136 gives the
field the range 0..255 and no rule says what a count past it becomes. The argument is the state's counter of
free values drawn. -/
opaque dosesPastMax : Nat → BitVec 8

/-- FREE VALUE (assumption 6). The lower end of the range that Read Setting reports for a setting whose
value is a set of bits; R184 gives such a setting no numeric range. The argument is the setting's id. -/
opaque setRangeLow : Nat → Nat

/-- FREE VALUE (assumption 6). The upper end of that range. -/
opaque setRangeHigh : Nat → Nat

end Sys2Proof.Config
end

