-- ==== Sys2Proof/Machine/Settings.lean ====
section
/-! DEFINITION. The forty-two settings of R184: their ids, ranges and defaults, and a family of values for
them. A value travels and is held as one number; FITTED, NOTICE_ENABLES and POLARITY are read bit by bit. -/

namespace Sys2Proof.Machine

/-- The settings of R184, in id order. -/
inductive SettingId where
  | fitted
  | reserve
  | eqCellMv
  | floatCellMv
  | tcomp
  | compLo
  | compHi
  | eqIlimit
  | rampStepMv
  | rampStepMin
  | flatWindowMin
  | flatDelta
  | flatCount
  | eqMaxHoldMin
  | eqMaxAh
  | settleMin
  | tempStartMax
  | tempAbort
  | runawayDt
  | cellMaxMv
  | weakMv
  | suspendMax
  | roundSpanH
  | supplyGraceMin
  | purgeMin
  | ventMaxGassing
  | fanMinRpm
  | contactorMs
  | flowMlPerPulse
  | doseMl
  | dosePauseS
  | primeS
  | flowStopS
  | waterMaxMl
  | pumpWaitMin
  | reservoirCapMl
  | reservoirLowMl
  | dueDays
  | dueAh
  | autoQueue
  | noticeEnables
  | polarity
  deriving DecidableEq, Repr

/-- One value for each setting (R184, R185). The fields carry the manual's names. -/
structure Settings where
  fitted : Nat
  reserve : Nat
  eqCellMv : Nat
  floatCellMv : Nat
  tcomp : Nat
  compLo : Nat
  compHi : Nat
  eqIlimit : Nat
  rampStepMv : Nat
  rampStepMin : Nat
  flatWindowMin : Nat
  flatDelta : Nat
  flatCount : Nat
  eqMaxHoldMin : Nat
  eqMaxAh : Nat
  settleMin : Nat
  tempStartMax : Nat
  tempAbort : Nat
  runawayDt : Nat
  cellMaxMv : Nat
  weakMv : Nat
  suspendMax : Nat
  roundSpanH : Nat
  supplyGraceMin : Nat
  purgeMin : Nat
  ventMaxGassing : Nat
  fanMinRpm : Nat
  contactorMs : Nat
  flowMlPerPulse : Nat
  doseMl : Nat
  dosePauseS : Nat
  primeS : Nat
  flowStopS : Nat
  waterMaxMl : Nat
  pumpWaitMin : Nat
  reservoirCapMl : Nat
  reservoirLowMl : Nat
  dueDays : Nat
  dueAh : Nat
  autoQueue : Nat
  noticeEnables : Nat
  polarity : Nat
  deriving DecidableEq, Repr

/-- The defaults of R184. -/
def Settings.default : Settings where
  fitted := 15
  reserve := 2
  eqCellMv := 2400
  floatCellMv := 2230
  tcomp := 30
  compLo := 50
  compHi := 400
  eqIlimit := 250
  rampStepMv := 20
  rampStepMin := 5
  flatWindowMin := 30
  flatDelta := 5
  flatCount := 3
  eqMaxHoldMin := 480
  eqMaxAh := 120
  settleMin := 30
  tempStartMax := 400
  tempAbort := 500
  runawayDt := 20
  cellMaxMv := 2700
  weakMv := 80
  suspendMax := 6
  roundSpanH := 72
  supplyGraceMin := 5
  purgeMin := 30
  ventMaxGassing := 2
  fanMinRpm := 900
  contactorMs := 800
  flowMlPerPulse := 5
  doseMl := 500
  dosePauseS := 15
  primeS := 30
  flowStopS := 60
  waterMaxMl := 8000
  pumpWaitMin := 60
  reservoirCapMl := 100000
  reservoirLowMl := 15000
  dueDays := 30
  dueAh := 400
  autoQueue := 1
  noticeEnables := 65528
  polarity := 0

/-- The settings in id order: the setting of id `n` is the `n`-th. -/
def SettingId.all : List SettingId :=
  [.fitted, .reserve, .eqCellMv, .floatCellMv, .tcomp, .compLo,
   .compHi, .eqIlimit, .rampStepMv, .rampStepMin, .flatWindowMin, .flatDelta,
   .flatCount, .eqMaxHoldMin, .eqMaxAh, .settleMin, .tempStartMax, .tempAbort,
   .runawayDt, .cellMaxMv, .weakMv, .suspendMax, .roundSpanH, .supplyGraceMin,
   .purgeMin, .ventMaxGassing, .fanMinRpm, .contactorMs, .flowMlPerPulse, .doseMl,
   .dosePauseS, .primeS, .flowStopS, .waterMaxMl, .pumpWaitMin, .reservoirCapMl,
   .reservoirLowMl, .dueDays, .dueAh, .autoQueue, .noticeEnables, .polarity]

/-- The setting an id names, absent outside 1..42 (R184). -/
def SettingId.ofId (n : Nat) : Option SettingId :=
  if n = 0 then none else SettingId.all[n - 1]?

/-- The setting's id (R184). -/
def SettingId.id : SettingId → Nat
  | .fitted => 1
  | .reserve => 2
  | .eqCellMv => 3
  | .floatCellMv => 4
  | .tcomp => 5
  | .compLo => 6
  | .compHi => 7
  | .eqIlimit => 8
  | .rampStepMv => 9
  | .rampStepMin => 10
  | .flatWindowMin => 11
  | .flatDelta => 12
  | .flatCount => 13
  | .eqMaxHoldMin => 14
  | .eqMaxAh => 15
  | .settleMin => 16
  | .tempStartMax => 17
  | .tempAbort => 18
  | .runawayDt => 19
  | .cellMaxMv => 20
  | .weakMv => 21
  | .suspendMax => 22
  | .roundSpanH => 23
  | .supplyGraceMin => 24
  | .purgeMin => 25
  | .ventMaxGassing => 26
  | .fanMinRpm => 27
  | .contactorMs => 28
  | .flowMlPerPulse => 29
  | .doseMl => 30
  | .dosePauseS => 31
  | .primeS => 32
  | .flowStopS => 33
  | .waterMaxMl => 34
  | .pumpWaitMin => 35
  | .reservoirCapMl => 36
  | .reservoirLowMl => 37
  | .dueDays => 38
  | .dueAh => 39
  | .autoQueue => 40
  | .noticeEnables => 41
  | .polarity => 42

/-- The value of a setting. -/
def Settings.get (t : Settings) : SettingId → Nat
  | .fitted => t.fitted
  | .reserve => t.reserve
  | .eqCellMv => t.eqCellMv
  | .floatCellMv => t.floatCellMv
  | .tcomp => t.tcomp
  | .compLo => t.compLo
  | .compHi => t.compHi
  | .eqIlimit => t.eqIlimit
  | .rampStepMv => t.rampStepMv
  | .rampStepMin => t.rampStepMin
  | .flatWindowMin => t.flatWindowMin
  | .flatDelta => t.flatDelta
  | .flatCount => t.flatCount
  | .eqMaxHoldMin => t.eqMaxHoldMin
  | .eqMaxAh => t.eqMaxAh
  | .settleMin => t.settleMin
  | .tempStartMax => t.tempStartMax
  | .tempAbort => t.tempAbort
  | .runawayDt => t.runawayDt
  | .cellMaxMv => t.cellMaxMv
  | .weakMv => t.weakMv
  | .suspendMax => t.suspendMax
  | .roundSpanH => t.roundSpanH
  | .supplyGraceMin => t.supplyGraceMin
  | .purgeMin => t.purgeMin
  | .ventMaxGassing => t.ventMaxGassing
  | .fanMinRpm => t.fanMinRpm
  | .contactorMs => t.contactorMs
  | .flowMlPerPulse => t.flowMlPerPulse
  | .doseMl => t.doseMl
  | .dosePauseS => t.dosePauseS
  | .primeS => t.primeS
  | .flowStopS => t.flowStopS
  | .waterMaxMl => t.waterMaxMl
  | .pumpWaitMin => t.pumpWaitMin
  | .reservoirCapMl => t.reservoirCapMl
  | .reservoirLowMl => t.reservoirLowMl
  | .dueDays => t.dueDays
  | .dueAh => t.dueAh
  | .autoQueue => t.autoQueue
  | .noticeEnables => t.noticeEnables
  | .polarity => t.polarity

/-- The settings with one value replaced. -/
def Settings.set (t : Settings) (i : SettingId) (v : Nat) : Settings :=
  match i with
  | .fitted => { t with fitted := v }
  | .reserve => { t with reserve := v }
  | .eqCellMv => { t with eqCellMv := v }
  | .floatCellMv => { t with floatCellMv := v }
  | .tcomp => { t with tcomp := v }
  | .compLo => { t with compLo := v }
  | .compHi => { t with compHi := v }
  | .eqIlimit => { t with eqIlimit := v }
  | .rampStepMv => { t with rampStepMv := v }
  | .rampStepMin => { t with rampStepMin := v }
  | .flatWindowMin => { t with flatWindowMin := v }
  | .flatDelta => { t with flatDelta := v }
  | .flatCount => { t with flatCount := v }
  | .eqMaxHoldMin => { t with eqMaxHoldMin := v }
  | .eqMaxAh => { t with eqMaxAh := v }
  | .settleMin => { t with settleMin := v }
  | .tempStartMax => { t with tempStartMax := v }
  | .tempAbort => { t with tempAbort := v }
  | .runawayDt => { t with runawayDt := v }
  | .cellMaxMv => { t with cellMaxMv := v }
  | .weakMv => { t with weakMv := v }
  | .suspendMax => { t with suspendMax := v }
  | .roundSpanH => { t with roundSpanH := v }
  | .supplyGraceMin => { t with supplyGraceMin := v }
  | .purgeMin => { t with purgeMin := v }
  | .ventMaxGassing => { t with ventMaxGassing := v }
  | .fanMinRpm => { t with fanMinRpm := v }
  | .contactorMs => { t with contactorMs := v }
  | .flowMlPerPulse => { t with flowMlPerPulse := v }
  | .doseMl => { t with doseMl := v }
  | .dosePauseS => { t with dosePauseS := v }
  | .primeS => { t with primeS := v }
  | .flowStopS => { t with flowStopS := v }
  | .waterMaxMl => { t with waterMaxMl := v }
  | .pumpWaitMin => { t with pumpWaitMin := v }
  | .reservoirCapMl => { t with reservoirCapMl := v }
  | .reservoirLowMl => { t with reservoirLowMl := v }
  | .dueDays => { t with dueDays := v }
  | .dueAh => { t with dueAh := v }
  | .autoQueue => { t with autoQueue := v }
  | .noticeEnables => { t with noticeEnables := v }
  | .polarity => { t with polarity := v }

/-- The lower end of a setting's range (R184); for a setting that is a set of bits, the least legal value. -/
def SettingId.low : SettingId → Nat
  | .fitted => 1
  | .reserve => 1
  | .eqCellMv => 2300
  | .floatCellMv => 2180
  | .tcomp => 0
  | .compLo => 0
  | .compHi => 300
  | .eqIlimit => 10
  | .rampStepMv => 5
  | .rampStepMin => 1
  | .flatWindowMin => 15
  | .flatDelta => 1
  | .flatCount => 2
  | .eqMaxHoldMin => 60
  | .eqMaxAh => 10
  | .settleMin => 10
  | .tempStartMax => 300
  | .tempAbort => 400
  | .runawayDt => 5
  | .cellMaxMv => 2550
  | .weakMv => 20
  | .suspendMax => 1
  | .roundSpanH => 12
  | .supplyGraceMin => 0
  | .purgeMin => 10
  | .ventMaxGassing => 1
  | .fanMinRpm => 300
  | .contactorMs => 400
  | .flowMlPerPulse => 1
  | .doseMl => 100
  | .dosePauseS => 5
  | .primeS => 5
  | .flowStopS => 10
  | .waterMaxMl => 1000
  | .pumpWaitMin => 5
  | .reservoirCapMl => 10000
  | .reservoirLowMl => 0
  | .dueDays => 7
  | .dueAh => 50
  | .autoQueue => 0
  | .noticeEnables => 0
  | .polarity => 0

/-- The upper end of a setting's range (R184); for a setting that is a set of bits, all its defined bits. -/
def SettingId.high : SettingId → Nat
  | .fitted => 255
  | .reserve => 7
  | .eqCellMv => 2500
  | .floatCellMv => 2300
  | .tcomp => 50
  | .compLo => 250
  | .compHi => 500
  | .eqIlimit => 1000
  | .rampStepMv => 50
  | .rampStepMin => 30
  | .flatWindowMin => 120
  | .flatDelta => 50
  | .flatCount => 6
  | .eqMaxHoldMin => 1440
  | .eqMaxAh => 500
  | .settleMin => 120
  | .tempStartMax => 500
  | .tempAbort => 600
  | .runawayDt => 50
  | .cellMaxMv => 2800
  | .weakMv => 200
  | .suspendMax => 8
  | .roundSpanH => 168
  | .supplyGraceMin => 30
  | .purgeMin => 120
  | .ventMaxGassing => 2
  | .fanMinRpm => 3000
  | .contactorMs => 3000
  | .flowMlPerPulse => 50
  | .doseMl => 2000
  | .dosePauseS => 60
  | .primeS => 120
  | .flowStopS => 300
  | .waterMaxMl => 40000
  | .pumpWaitMin => 120
  | .reservoirCapMl => 500000
  | .reservoirLowMl => 100000
  | .dueDays => 180
  | .dueAh => 2000
  | .autoQueue => 1
  | .noticeEnables => 65528
  | .polarity => 127

/-- The settings whose value is a set of bits (R184, R185): ids 1, 41 and 42. -/
def SettingId.isSet : SettingId → Bool
  | .fitted | .noticeEnables | .polarity => true
  | _ => false

end Sys2Proof.Machine
end

