-- ==== Sys2Proof/Machine/State.lean ====
section
/-! DEFINITION. Everything the part holds, as plain data: one structure per block of section 1.2 of the
overview, and the state from the instant of a reset. -/

namespace Sys2Proof.Machine

/-! ### Contact inputs (chapter 1) -/

/-- The electrical level of a contact input. -/
inductive Level where
  | low | high
  deriving DecidableEq, Repr

/-- What the consumers of an input see (R10). -/
inductive Presented where
  | active | inactive | unknown
  deriving DecidableEq, Repr

/-- The polarity of a group (R9). -/
inductive Polarity where
  | activeHigh | activeLow
  deriving DecidableEq, Repr

/-- The kind of a delivery (R12). -/
inductive DeliveryKind where
  | edge | reacquired
  deriving DecidableEq, Repr

/-- The filter record of one input (R10). An accepted level of `none` is UNKNOWN. -/
structure Filter where
  history : List Level
  accepted : Option Level
  presented : Presented
  captured : Option Level
  polarity : Polarity
  reacquiring : Bool
  deriving DecidableEq, Repr

/-- The thirty-five inputs of R8, by group. -/
inductive InputId where
  | kf (p : Pos) | ke (p : Pos) | ks (p : Pos) | level (p : Pos) | genRun | h2Alarm | resLow
  deriving DecidableEq, Repr

/-- The filter records of the Input Conditioner (R8, R10). -/
structure Inputs where
  kf : Eight Filter
  ke : Eight Filter
  ks : Eight Filter
  level : Eight Filter
  genRun : Filter
  h2Alarm : Filter
  resLow : Filter
  deriving DecidableEq, Repr

/-! ### Plant outputs (chapter 1) -/

/-- The position of a main contact, a valve or a contactor feedback. -/
inductive Contact where
  | closed | opened
  deriving DecidableEq, Repr

/-- The three contactors of a string (R1). -/
inductive Contactor where
  | ks | kf | ke
  deriving DecidableEq, Repr

/-- The three outputs to one charger (R3). -/
structure Charger where
  enable : Bool
  demand : Nat
  limit : Nat
  deriving DecidableEq, Repr

/-- The forty-one outputs of section 1.1, with the float demand's computed flag (R4). KS is held as the
channel whose bus it selects. -/
structure Outputs where
  kf : Eight Contact
  ke : Eight Contact
  ks : Eight Ch
  charger : Two Charger
  floatDemand : Nat
  floatComputed : Bool
  pump : Bool
  valve : Eight Contact
  fan : Bool
  deriving DecidableEq, Repr

/-! ### Readings (chapter 2) -/

/-- One entry of the Cell Reading Table (R19). -/
structure CellEntry where
  mv : Nat
  isOver : Bool
  isOpen : Bool
  deriving DecidableEq, Repr

/-- The statistics of a string's last scan (section 2.2). -/
structure Stats where
  sum : Nat
  mean : Nat
  minMv : Nat
  minCell : Nat
  maxMv : Nat
  maxCell : Nat
  anyOpen : Bool
  anyOver : Bool
  deriving DecidableEq, Repr

/-- A string's part of the Cell Reading Table: no statistics while present is clear (R22). -/
structure Scan where
  stats : Option Stats
  cells : List CellEntry
  scanNo : Nat
  deriving DecidableEq, Repr

/-- A string's current record (R23). -/
structure CurrentRec where
  amps : Int
  clamped : Bool
  deriving DecidableEq, Repr

/-- The Cell Scanner: the slot that starts next, the string its working set is for, the readings. -/
structure Scanner where
  nextSlot : Pos
  measuring : Option Pos
  strings : Eight Scan
  currents : Eight (Option CurrentRec)
  deriving DecidableEq, Repr

/-- A temperature channel (R25): a pilot T1..T8 or the ambient TA. -/
inductive TempCh where
  | pilot (p : Pos) | ambient
  deriving DecidableEq, Repr

/-- The state of a temperature channel (R26). -/
inductive TempState where
  | pending | valid | opened | shorted
  deriving DecidableEq, Repr

/-- The clamp flag (R39). -/
inductive ClampFlag where
  | none | low | high
  deriving DecidableEq, Repr

/-- A temperature channel's record (section 2.5). -/
structure TempRec where
  nTh : Option Nat
  nRef : Option Nat
  state : TempState
  temp : Option Int
  clamp : ClampFlag
  convNo : Nat
  deriving DecidableEq, Repr

/-- The Temperature Converter: the channel under conversion, whether a cycle has ended since the
reset (the first-cycle mark of R28 is set while it has not), and the nine records. -/
structure Converter where
  next : TempCh
  cycleEnded : Bool
  pilots : Eight TempRec
  ambient : TempRec
  deriving DecidableEq, Repr

/-- The Flow Counter (R30, R31). -/
structure FlowCounter where
  pulse : Bool
  total : Nat
  lastPulse : Option Nat
  deriving DecidableEq, Repr

/-- The Fan Tach (R32): times in microseconds since release. -/
structure FanTach where
  reference : Option Nat
  period : Option Nat
  speed : Nat
  deriving DecidableEq, Repr

/-! ### Setpoints (chapter 3) -/

/-- Where a compensation temperature came from (R40). -/
inductive TempSource where
  | pilot | ambient | default
  deriving DecidableEq, Repr

/-- A string's compensation record (R40). -/
structure CompRec where
  source : TempSource
  tc10 : Int
  eqMv : Nat
  floatMv : Nat
  deriving DecidableEq, Repr

/-- A channel's present demand record (R47). -/
structure PresentDemand where
  code : Nat
  cell : Option Nat
  deriving DecidableEq, Repr

/-! ### Rounds (chapters 4 to 9) -/

/-- A Site Clock value with the clock-valid flag as it stood then. -/
structure Stamp where
  time : Nat
  valid : Bool
  deriving DecidableEq, Repr

/-- The three round kinds (1.1 of the overview). -/
inductive Kind where
  | equalise | water | equaliseThenWater
  deriving DecidableEq, Repr

/-- The class of a queue entry (R70). -/
inductive RoundClass where
  | urgent | routine
  deriving DecidableEq, Repr

/-- Who placed an entry (R70). -/
inductive Origin where
  | request | autoDue | autoLevel | deferred
  deriving DecidableEq, Repr

/-- Round, water and manual outcomes, in the order of their codes (R178). -/
inductive Outcome where
  | complete | timeLimit | ahLimit | overtemp | sense | runaway | contactor | cancelled | expired
  | heldFull | interrupted | filled | alreadyFull | blocked | reservoirEmpty | overvolume | halted
  | delivered | stopped
  deriving DecidableEq, Repr

/-- The role states of a string (R54). -/
inductive Role where
  | absent | float | equalising | watering | held | isolated
  deriving DecidableEq, Repr

/-- The isolation reasons (R62). -/
inductive Isolation where
  | kfStuck | keStuck
  deriving DecidableEq, Repr

/-- What a string is assigned to (R54). -/
inductive Assigned where
  | channel (c : Ch) | line
  deriving DecidableEq, Repr

/-- The cell part of the SENSE fault (R54). -/
inductive SenseCell where
  | none | pending | opened
  deriving DecidableEq, Repr

/-- The pilot part of the SENSE fault (R54). -/
inductive SensePilot where
  | none | pending | opened | shorted
  deriving DecidableEq, Repr

/-- Reasons of EQ_LOCK (R53). -/
inductive EqLockReason where
  | runaway | contactor
  deriving DecidableEq, Repr

/-- The reason of WATER_LOCK (R53). -/
inductive WaterLockReason where
  | overvolume
  deriving DecidableEq, Repr

/-- The round-open marker (R66). -/
structure RoundOpen where
  kind : Kind
  first : Stamp
  deriving DecidableEq, Repr

/-- The non-volatile part of a string record (R53). -/
structure StringHistory where
  hours : Nat
  throughput : Nat
  lastEq : Option Stamp
  eqLock : Option EqLockReason
  waterLock : Option WaterLockReason
  roundOpen : Option RoundOpen
  deriving DecidableEq, Repr

/-- The volatile part of a string record (R54). -/
structure StringSituation where
  role : Role
  isolation : Option Isolation
  assigned : Option Assigned
  senseCell : SenseCell
  sensePilot : SensePilot
  due : Bool
  levelLow : Bool
  hourSec : Nat
  onBus : Bool
  deriving DecidableEq, Repr

/-- A Round Queue entry (R70). The blocked reason is computed at each report (R87). -/
structure Entry where
  tag : Byte
  kind : Kind
  string : Pos
  cls : RoundClass
  origin : Origin
  submit : Stamp
  notBefore : Option Nat
  holdOverride : Option Nat
  ahOverride : Option Nat
  deriving DecidableEq, Repr

/-- The Round Queue (R71, R72). -/
structure RoundQueue where
  entries : List Entry
  gen : Nat
  deriving DecidableEq, Repr

/-- The supply state (R78). -/
structure Supply where
  grantMin : Nat
  grantSec : Nat
  surplus : Bool
  deriving DecidableEq, Repr

/-- The stages of an Equalise Channel (R91). -/
inductive Stage where
  | idle | transferOut | ramp | hold | settle | water | transferBack
  deriving DecidableEq, Repr

/-- The suspending causes (R108). -/
inductive Cause where
  | supply | h2 | vent | reserve
  deriving DecidableEq, Repr

/-- The exit reason of a channel in TRANSFER_BACK (R92). -/
inductive Exit where
  | finished | suspended (c : Cause) | aborted (o : Outcome)
  deriving DecidableEq, Repr

/-- What the Watering Line hands back (R113). -/
structure WaterResult where
  ml : Nat
  doses : Nat
  outcome : Outcome
  deriving DecidableEq, Repr

/-- The level-0 context of a round (R92). `ageSec` and `holdSec` count the seconds toward the next age
minute and the next HOLD minute. -/
structure Context where
  string : Pos
  kind : Kind
  tag : Byte
  origin : Origin
  first : Stamp
  ageMin : Nat
  ageSec : Nat
  holdLimit : Nat
  ahLimit : Nat
  k : Nat
  stageTimer : Nat
  holdMin : Nat
  holdSec : Nat
  winMin : Nat
  winSum : Nat
  winCount : Nat
  winTemp : Option Int
  prevAvg : Option Nat
  lastAvg : Option Nat
  flat : Nat
  charge : Nat
  ceiling : Option Nat
  finalCell : Option Nat
  peak : Int
  susp : Nat
  weakFound : Nat
  outcome : Option Outcome
  settleCut : Bool
  waterDeferred : Bool
  waterDropped : Bool
  water : Option WaterResult
  exit : Option Exit
  deriving DecidableEq, Repr

/-- The level-1 nested watering call (R93). `cut` and `contactor` say what has been taken while the call is
SERVING, so that later causes in that wait change nothing more (R97, R110); `stopAsked` that the line has
been asked to stop. -/
structure Call where
  serving : Bool
  waitSec : Nat
  cut : Bool
  contactor : Bool
  stopAsked : Bool
  deriving DecidableEq, Repr

/-- A waiting step (R95): the contactor it waits for, the millisecond of its start and its limit. -/
structure Wait where
  contactor : Contactor
  start : Nat
  limit : Nat
  deriving DecidableEq, Repr

/-- An Equalise Channel (R91): its stage, its two-level stack, its waiting step and its transfer-out start. -/
structure Channel where
  stage : Stage
  ctx : Option Context
  call : Option Call
  wait : Option Wait
  toStart : Option Nat
  deriving DecidableEq, Repr

/-- A held context (R129, R130). -/
structure Held where
  ctx : Context
  cause : Cause
  since : Stamp
  deriving DecidableEq, Repr

/-- The Held Rounds List (R130). -/
structure HeldList where
  entries : List Held
  gen : Nat
  deriving DecidableEq, Repr

/-- Site Permissions (R120). A timer is absent while stopped, and otherwise holds its elapsed seconds. -/
structure Permissions where
  h2Active : Bool
  purge : Option Nat
  gassing : Nat
  runOn : Option Nat
  fan : Bool
  speed : Nat
  ventFailed : Bool
  lowSpeed : Option Nat
  recovery : Option Nat
  grace : Option Nat
  breach : Bool
  deriving DecidableEq, Repr

/-- The stages of the Watering Line (R136). -/
inductive LineStage where
  | free | manual | priming | dosing | pause | closing
  deriving DecidableEq, Repr

/-- Whose work the line is doing (R136). -/
inductive Owner where
  | round | call (c : Ch) | host
  deriving DecidableEq, Repr

/-- The identity of a standalone round on the line (R136). -/
structure RoundIdentity where
  tag : Byte
  origin : Origin
  first : Stamp
  deriving DecidableEq, Repr

/-- A manual dose on the line (R136). -/
structure ManualDose where
  tag : Byte
  target : Nat
  deriving DecidableEq, Repr

/-- A Manual Dose End message's fields (R152). -/
structure DoseEnd where
  tag : Byte
  string : Pos
  target : Nat
  ml : Nat
  pulses : Nat
  outcome : Outcome
  deriving DecidableEq, Repr

/-- The line record (R136). -/
structure Line where
  stage : LineStage
  owner : Option Owner
  string : Option Pos
  identity : Option RoundIdentity
  dose : Option ManualDose
  ml : Nat
  pulses : Nat
  doses : Nat
  doseMl : Nat
  outcome : Option Outcome
  timer : Nat
  flowRef : Option Nat
  waiting : List Ch
  pendingEnd : Option DoseEnd
  claimEnded : Bool
  deriving DecidableEq, Repr

/-- The Reservoir Account (R153) and the result of the last low test (R154). -/
structure Reservoir where
  account : Nat
  low : Bool
  deriving DecidableEq, Repr

/-- The equalise group of a record (R159). -/
structure EqGroup where
  holdMin : Nat
  ah : Nat
  lastAvg : Option Nat
  peak : Int
  finalCell : Option Nat
  weakFound : Nat
  settleCut : Bool
  waterDeferred : Bool
  waterDropped : Bool
  deriving DecidableEq, Repr

/-- A round record (R158). Tag and origin are present together. -/
structure Record where
  seq : Nat
  string : Pos
  kind : Kind
  recovered : Bool
  tagOrigin : Option (Byte × Origin)
  outcome : Outcome
  first : Stamp
  endTime : Option Stamp
  susp : Option Nat
  eq : Option EqGroup
  water : Option WaterResult
  deriving DecidableEq, Repr

/-- A log transfer (section 9.4). -/
structure Transfer where
  tag : Byte
  n : Nat
  next : Nat
  left : Nat
  sent : Nat
  deriving DecidableEq, Repr

/-- The Round Record Log (R161) and its transfer engine. -/
structure Log where
  ring : List Record
  nextSeq : Nat
  transfer : Option Transfer
  deriving DecidableEq, Repr

/-- A Weak Cell List entry (R167). -/
structure WeakEntry where
  string : Pos
  cell : Nat
  first : Stamp
  deficit : Nat
  windows : Nat
  deriving DecidableEq, Repr

/-- The Weak Cell List (R167). -/
structure WeakList where
  entries : List WeakEntry
  gen : Nat
  deriving DecidableEq, Repr

/-! ### Conditions (chapter 10) -/

/-- The sixteen conditions, in priority order (R170). -/
inductive Condition where
  | h2Alarm | stringIsolated | runaway | ventFail | contactorFault | overtemp | overvolume | senseFault
  | reserveBreach | reservoirEmpty | reservoirLow | roundEnded | roundExpired | weakCell | stringDue
  | linkError
  deriving DecidableEq, Repr

/-- What a set latch holds (R170). -/
structure LatchDetail where
  string : Nat
  value : Nat
  captured : Option Level
  time : Stamp
  again : Nat
  pending : Bool
  deriving DecidableEq, Repr

/-- The sixteen latches; a clear latch holds nothing (R170). -/
structure Latches where
  h2Alarm : Option LatchDetail
  stringIsolated : Option LatchDetail
  runaway : Option LatchDetail
  ventFail : Option LatchDetail
  contactorFault : Option LatchDetail
  overtemp : Option LatchDetail
  overvolume : Option LatchDetail
  senseFault : Option LatchDetail
  reserveBreach : Option LatchDetail
  reservoirEmpty : Option LatchDetail
  reservoirLow : Option LatchDetail
  roundEnded : Option LatchDetail
  roundExpired : Option LatchDetail
  weakCell : Option LatchDetail
  stringDue : Option LatchDetail
  linkError : Option LatchDetail
  deriving DecidableEq, Repr

/-! ### Link, store, clock and start-up (chapter 11) -/

/-- The states of the receive framer (R180). -/
inductive FramerState where
  | hunt | length | body | check
  deriving DecidableEq, Repr

/-- The receive framer (R180): the LEN taken and the bytes collected since it, oldest first. -/
structure Framer where
  state : FramerState
  len : Nat
  bytes : List Byte
  deriving DecidableEq, Repr

/-- A frame between LEN and CRC, of either direction (R178). -/
structure Frame where
  tag : Byte
  kind : Byte
  body : List Byte
  deriving DecidableEq, Repr

/-- The Link Port's framer and queues (R180, R181). -/
structure Link where
  framer : Framer
  inbound : List Frame
  outbound : List Frame
  deriving DecidableEq, Repr

/-- The Settings Store and the working values (R185, R186). The checksum is held as whether it matches. -/
structure Store where
  working : Settings
  stored : Settings
  checksumOk : Bool
  writeBusy : Bool
  defaulted : Bool
  deriving DecidableEq, Repr

/-- The Site Clock (R187). -/
structure SiteClock where
  count : Nat
  valid : Bool
  deriving DecidableEq, Repr

/-- The timer base: its running second count, the seconds toward the next minute evaluation (R80), its
millisecond count since release, and the milliseconds at which the next sample instant, slot boundary and
conversion completion are due (R11, R18, R25). `atSecond` holds the working settings as they stood at the last
second: a timer that counts seconds compares itself with its setting's working value at that second (R98, R109,
R112, R120, R141, R142). -/
structure TimerBase where
  runSec : Nat
  minuteSec : Nat
  ms : Nat
  sampleAt : Nat
  slotAt : Nat
  convAt : Nat
  atSecond : Settings
  deriving DecidableEq, Repr

/-- Where the part stands between a reset and the ready point (R189). -/
inductive Phase where
  | held | initialising | ready
  deriving DecidableEq, Repr

/-- The MODEL's own: deliveries of the step in progress that wait for its settling, the reserve test of
R127 and the evaluation of R80. Both are clear between steps. -/
structure Due where
  reserve : Bool
  admission : Bool
  deriving DecidableEq, Repr

/-- Why the part stops: never. No rule of the manual stops the part, so no fault is defined. -/
inductive Fault where
  deriving DecidableEq, Repr

/-- Why the model gives a command no meaning. -/
inductive Refusal where
  /-- Raised by `exec` for a command that has no meaning yet; safe. Every command has one. -/
  | notModelled (mnemonic : String)
  deriving DecidableEq, Repr

/-- The whole part, and the queue of commands that wait. -/
structure State where
  phase : Phase
  restartAt : Option Nat
  base : TimerBase
  clock : SiteClock
  out : Outputs
  inp : Inputs
  scan : Scanner
  temps : Converter
  flow : FlowCounter
  tach : FanTach
  comp : Eight CompRec
  present : Two PresentDemand
  hist : Eight StringHistory
  sit : Eight StringSituation
  queue : RoundQueue
  supply : Supply
  chan : Two Channel
  perm : Permissions
  held : HeldList
  line : Line
  reservoir : Reservoir
  weak : WeakList
  log : Log
  latches : Latches
  master : Bool
  store : Store
  link : Link
  due : Due
  freeDrawn : Nat
  pending : List Instr
  deriving DecidableEq, Repr

/-! ### After a reset -/

/-- A filter record after a reset, with its group's polarity (R10). -/
def Filter.reset (p : Polarity) : Filter :=
  { history := [], accepted := none, presented := .unknown, captured := none, polarity := p,
    reacquiring := false }

/-- A temperature record after a reset (R29). -/
def TempRec.reset : TempRec :=
  { nTh := none, nRef := none, state := .pending, temp := none, clamp := .none, convNo := 0 }

/-- A position of the Cell Reading Table after a reset or while unfitted (R22). -/
def Scan.reset : Scan := { stats := none, cells := [], scanNo := 0 }

/-- A string's history at manufacture (R53). -/
def StringHistory.reset : StringHistory :=
  { hours := 0, throughput := 0, lastEq := none, eqLock := none, waterLock := none, roundOpen := none }

/-- A string's situation after a reset, by whether it is fitted (R54). -/
def StringSituation.reset (fitted : Bool) : StringSituation :=
  { role := if fitted then .float else .absent, isolation := none, assigned := none,
    senseCell := if fitted then .pending else .none, sensePilot := if fitted then .pending else .none,
    due := false, levelLow := false, hourSec := 0, onBus := false }

/-- A channel after a reset (R91). -/
def Channel.reset : Channel := { stage := .idle, ctx := none, call := none, wait := none, toStart := none }

/-- The line record after a reset (R136). -/
def Line.reset : Line :=
  { stage := .free, owner := none, string := none, identity := none, dose := none, ml := 0, pulses := 0,
    doses := 0, doseMl := 0, outcome := none, timer := 0, flowRef := none, waiting := [],
    pendingEnd := none, claimEnded := false }

/-- Site Permissions after a reset (R120). -/
def Permissions.reset : Permissions :=
  { h2Active := false, purge := none, gassing := 0, runOn := none, fan := false, speed := 0,
    ventFailed := false, lowSpeed := none, recovery := none, grace := none, breach := false }

/-- Every latch clear (R170). -/
def Latches.reset : Latches :=
  { h2Alarm := none, stringIsolated := none, runaway := none, ventFail := none, contactorFault := none,
    overtemp := none, overvolume := none, senseFault := none, reserveBreach := none,
    reservoirEmpty := none, reservoirLow := none, roundEnded := none, roundExpired := none,
    weakCell := none, stringDue := none, linkError := none }

/-- Every output at its safe value (R6). -/
def Outputs.safe : Outputs :=
  { kf := .const .closed, ke := .const .opened, ks := .const .a,
    charger := ⟨⟨false, 0, 0⟩, ⟨false, 0, 0⟩⟩, floatDemand := 0, floatComputed := false, pump := false,
    valve := .const .closed, fan := false }

/-- The part from the instant of a first power-on, held until RESET_RELEASE: outputs safe (R6), volatile
state at its after-reset values, non-volatile state as at manufacture (R53, R153, R161, R167, R186). The
working settings before their load are the defaults (assumption 4). -/
def State.reset : State :=
  { phase := .held, restartAt := none,
    base := { runSec := 0, minuteSec := 0, ms := 0, sampleAt := 100, slotAt := 0, convAt := 400, atSecond := .default },
    clock := { count := 0, valid := false }, out := Outputs.safe,
    inp :=
      { kf := .const (.reset .activeHigh), ke := .const (.reset .activeHigh),
        ks := .const (.reset .activeHigh), level := .const (.reset .activeHigh),
        genRun := .reset .activeHigh, h2Alarm := .reset .activeHigh, resLow := .reset .activeHigh },
    scan :=
      { nextSlot := .p1, measuring := none, strings := .const .reset, currents := .const none },
    temps := { next := .pilot .p1, cycleEnded := false, pilots := .const .reset, ambient := .reset },
    flow := { pulse := false, total := 0, lastPulse := none },
    tach := { reference := none, period := none, speed := 0 },
    comp := .const { source := .default, tc10 := 250, eqMv := 2400, floatMv := 2230 },
    present := ⟨⟨0, none⟩, ⟨0, none⟩⟩,
    hist := .const .reset,
    sit :=
      { p1 := .reset true, p2 := .reset true, p3 := .reset true, p4 := .reset true,
        p5 := .reset false, p6 := .reset false, p7 := .reset false, p8 := .reset false },
    queue := { entries := [], gen := 0 }, supply := { grantMin := 0, grantSec := 0, surplus := false },
    chan := ⟨.reset, .reset⟩, perm := .reset, held := { entries := [], gen := 0 }, line := .reset,
    reservoir := { account := 0, low := false }, weak := { entries := [], gen := 0 },
    log := { ring := [], nextSeq := 0, transfer := none }, latches := .reset, master := false,
    store :=
      { working := .default, stored := .default, checksumOk := false, writeBusy := false,
        defaulted := false },
    link := { framer := { state := .hunt, len := 0, bytes := [] }, inbound := [], outbound := [] },
    due := { reserve := false, admission := false }, freeDrawn := 0, pending := [] }

end Sys2Proof.Machine
end

