-- ==== Sys2Proof/Machine/Flags.lean ====
section
/-! DEFINITION. What the manual derives from the state without storing it: contactor feedback, on bus,
SENSE fault, the two gassing counts, the on-bus counts, surplus, the fan's reasons, the condition causes
and which latches are sendable. -/

namespace Sys2Proof.Machine

/-- The working settings (3.1 of the overview). -/
abbrev State.cfg (s : State) : Settings := s.store.working

/-- The Site Clock's present value with its valid flag, as stamps take it (R187). -/
def State.stamp (s : State) : Stamp := { time := s.clock.count, valid := s.clock.valid }

/-- A position is named in the working value of FITTED (R184). -/
def fitted (s : State) (p : Pos) : Bool := s.cfg.fitted.testBit (p.num - 1)

/-- The filter record of an input (R8). -/
def Inputs.get (i : Inputs) : InputId → Filter
  | .kf p => i.kf.get p
  | .ke p => i.ke.get p
  | .ks p => i.ks.get p
  | .level p => i.level.get p
  | .genRun => i.genRun
  | .h2Alarm => i.h2Alarm
  | .resLow => i.resLow

/-- The filter records with one input's replaced. -/
def Inputs.set (i : Inputs) (n : InputId) (f : Filter) : Inputs :=
  match n with
  | .kf p => { i with kf := i.kf.set p f }
  | .ke p => { i with ke := i.ke.set p f }
  | .ks p => { i with ks := i.ks.set p f }
  | .level p => { i with level := i.level.set p f }
  | .genRun => { i with genRun := f }
  | .h2Alarm => { i with h2Alarm := f }
  | .resLow => { i with resLow := f }

/-- The inputs in the order of R8, which is the order of Read Plant. -/
def InputId.all : List InputId :=
  Pos.all.map .kf ++ Pos.all.map .ke ++ Pos.all.map .ks ++ Pos.all.map .level
    ++ [.genRun, .h2Alarm, .resLow]

/-- The place of an input's group in the order of R8, its bit of POLARITY (R184). -/
def InputId.group : InputId → Nat
  | .kf _ => 0
  | .ke _ => 1
  | .ks _ => 2
  | .level _ => 3
  | .genRun => 4
  | .h2Alarm => 5
  | .resLow => 6

/-- The polarity a POLARITY value gives a group: bit set for ACTIVE_LOW (R184). -/
def polarityOf (value group : Nat) : Polarity :=
  if value.testBit group then .activeLow else .activeHigh

/-- An input's presented state (R15). -/
def presents (s : State) (i : InputId) : Presented := (s.inp.get i).presented

/-- A KF or KE feedback state from a presented state, absent for UNKNOWN (R2). -/
def contactShown : Presented → Option Contact
  | .active => some .closed
  | .inactive => some .opened
  | .unknown => none

/-- A KS feedback state from a presented state, absent for UNKNOWN (R2). -/
def busShown : Presented → Option Ch
  | .active => some .b
  | .inactive => some .a
  | .unknown => none

/-- On bus: fitted, KF commanded CLOSED and its feedback CLOSED (R60). -/
def onBusNow (s : State) (p : Pos) : Bool :=
  fitted s p && (s.out.kf.get p == .closed) && (presents s (.kf p) == .active)

/-- The on-bus count (R60). -/
def onBusCount (s : State) : Nat := (Pos.all.filter fun p => (s.sit.get p).onBus).length

/-- The free on-bus count: on bus and not EQUALISING (R84). -/
def freeOnBusCount (s : State) : Nat :=
  (Pos.all.filter fun p => (s.sit.get p).onBus && ((s.sit.get p).role != .equalising)).length

/-- A reading fault: cell part OPEN, or pilot part OPEN or SHORT (R54). -/
def readingFault (t : StringSituation) : Bool :=
  (t.senseCell == .opened) || (t.sensePilot == .opened) || (t.sensePilot == .shorted)

/-- A SENSE fault: either part other than NONE (R54). -/
def senseFault (t : StringSituation) : Bool := (t.senseCell != .none) || (t.sensePilot != .none)

/-- The cell part as the statistics stand (R59). -/
def senseCellNow (s : State) (p : Pos) : SenseCell :=
  match (s.scan.strings.get p).stats with
  | none => .pending
  | some t => if t.anyOpen then .opened else .none

/-- The pilot part as the pilot channel stands (R59). -/
def sensePilotNow (s : State) (p : Pos) : SensePilot :=
  match (s.temps.pilots.get p).state with
  | .pending => .pending
  | .valid => .none
  | .opened => .opened
  | .shorted => .shorted

/-- The lowest-numbered cell with OPEN, or 0 when the cell part is not OPEN (R59). -/
def lowestOpenCell (s : State) (p : Pos) : Nat :=
  if (s.sit.get p).senseCell == .opened then
    match (s.scan.strings.get p).cells.findIdx? (·.isOpen) with
    | some i => i + 1
    | none => 0
  else 0

/-- The stages counted in the gassing count (R91). -/
def Stage.gasses : Stage → Bool
  | .ramp | .hold | .settle => true
  | .idle | .transferOut | .water | .transferBack => false

/-- The stages counted in the committed gassing count (R83). -/
def Stage.committed : Stage → Bool
  | .transferOut | .ramp | .hold | .settle => true
  | .idle | .water | .transferBack => false

/-- The stages that a loss of surplus concerns (R126). -/
def Stage.needsSupply : Stage → Bool
  | .transferOut | .ramp | .hold => true
  | .idle | .settle | .water | .transferBack => false

/-- The number of channels whose stage has a property. -/
def stageCount (s : State) (f : Stage → Bool) : Nat :=
  (if f s.chan.a.stage then 1 else 0) + (if f s.chan.b.stage then 1 else 0)

/-- The committed gassing count (R83). -/
def committedGassing (s : State) : Nat := stageCount s Stage.committed

/-- A channel is IDLE. -/
def isIdle (s : State) (c : Ch) : Bool := (s.chan.get c).stage == .idle

/-- The channel whose context names a string, channel A looked at first (R69). -/
def holder (s : State) (p : Pos) : Option Ch :=
  let holds := fun (c : Ch) =>
    !(isIdle s c) && ((s.chan.get c).ctx.map (·.string) == some p)
  if holds .a then some .a else if holds .b then some .b else none

/-- Where a string's outstanding round stands (R69). -/
inductive Place where
  | queued | held | activeChannel | activeLine
  deriving DecidableEq, Repr

/-- The place of a string's outstanding round, absent when it has none (R69). -/
def place (s : State) (p : Pos) : Option Place :=
  if s.queue.entries.any (·.string == p) then some .queued
  else if s.held.entries.any (·.ctx.string == p) then some .held
  else if (holder s p).isSome then some .activeChannel
  else if (s.line.owner == some .round) && (s.line.string == some p) then some .activeLine
  else none

/-- The kind includes equalising (1.1 of the overview). -/
def Kind.equalises : Kind → Bool
  | .equalise | .equaliseThenWater => true
  | .water => false

/-- The kind includes watering (1.1 of the overview). -/
def Kind.waters : Kind → Bool
  | .water | .equaliseThenWater => true
  | .equalise => false

/-- A lock of the string bars rounds of the kind (R64, R74). -/
def lockedFor (s : State) (p : Pos) (k : Kind) : Bool :=
  (k.equalises && (s.hist.get p).eqLock.isSome) || (k.waters && (s.hist.get p).waterLock.isSome)

/-- Surplus is present (R78). -/
def surplusNow (s : State) : Bool :=
  (presents s .genRun == .active) || decide (0 < s.supply.grantMin)

/-- The hydrogen state is clear: the alarm presents INACTIVE, no purge runs and H2 active is clear (R83,
R149, R151). H2 active set with the alarm presenting INACTIVE does not arise. -/
def h2Clear (s : State) : Bool :=
  !s.perm.h2Active && s.perm.purge.isNone && (presents s .h2Alarm == .inactive)

/-- The four reasons for which the fan runs (R121). -/
def fanWanted (s : State) : Bool :=
  decide (0 < s.perm.gassing) || s.perm.h2Active || s.perm.purge.isSome || s.perm.runOn.isSome

/-- The line is claimed: owner HOST with the claim-ended mark clear (R136). -/
def lineClaimed (s : State) : Bool := (s.line.owner == some .host) && !s.line.claimEnded

/-- The account is low (R154). -/
def accountLow (s : State) : Bool := decide (s.reservoir.account < s.cfg.reservoirLowMl)

/-- Free places of the Outbound Queue (R181). -/
def freePlaces (s : State) : Nat := Config.outboundCap - s.link.outbound.length

/-- The conditions in priority order (R170). -/
def Condition.all : List Condition :=
  [.h2Alarm, .stringIsolated, .runaway, .ventFail, .contactorFault, .overtemp, .overvolume, .senseFault,
   .reserveBreach, .reservoirEmpty, .reservoirLow, .roundEnded, .roundExpired, .weakCell, .stringDue,
   .linkError]

/-- A condition's number, which is its priority (R170). -/
def Condition.num : Condition → Nat
  | .h2Alarm => 1 | .stringIsolated => 2 | .runaway => 3 | .ventFail => 4 | .contactorFault => 5
  | .overtemp => 6 | .overvolume => 7 | .senseFault => 8 | .reserveBreach => 9 | .reservoirEmpty => 10
  | .reservoirLow => 11 | .roundEnded => 12 | .roundExpired => 13 | .weakCell => 14 | .stringDue => 15
  | .linkError => 16

/-- The non-maskable conditions (R170). -/
def Condition.nonMaskable : Condition → Bool
  | .h2Alarm | .stringIsolated | .runaway => true
  | _ => false

/-- The enable of a condition, set for the non-maskable ones (R170, R176). A maskable condition's enable is
the working value's bit of NOTICE_ENABLES. -/
def enabled (s : State) (c : Condition) : Bool :=
  c.nonMaskable || s.cfg.noticeEnables.testBit (c.num - 1)

/-- The latch of a condition. -/
def Latches.get (l : Latches) : Condition → Option LatchDetail
  | .h2Alarm => l.h2Alarm | .stringIsolated => l.stringIsolated | .runaway => l.runaway
  | .ventFail => l.ventFail | .contactorFault => l.contactorFault | .overtemp => l.overtemp
  | .overvolume => l.overvolume | .senseFault => l.senseFault | .reserveBreach => l.reserveBreach
  | .reservoirEmpty => l.reservoirEmpty | .reservoirLow => l.reservoirLow | .roundEnded => l.roundEnded
  | .roundExpired => l.roundExpired | .weakCell => l.weakCell | .stringDue => l.stringDue
  | .linkError => l.linkError

/-- The latches with one condition's replaced. -/
def Latches.set (l : Latches) (c : Condition) (d : Option LatchDetail) : Latches :=
  match c with
  | .h2Alarm => { l with h2Alarm := d } | .stringIsolated => { l with stringIsolated := d }
  | .runaway => { l with runaway := d } | .ventFail => { l with ventFail := d }
  | .contactorFault => { l with contactorFault := d } | .overtemp => { l with overtemp := d }
  | .overvolume => { l with overvolume := d } | .senseFault => { l with senseFault := d }
  | .reserveBreach => { l with reserveBreach := d } | .reservoirEmpty => { l with reservoirEmpty := d }
  | .reservoirLow => { l with reservoirLow := d } | .roundEnded => { l with roundEnded := d }
  | .roundExpired => { l with roundExpired := d } | .weakCell => { l with weakCell := d }
  | .stringDue => { l with stringDue := d } | .linkError => { l with linkError := d }

/-- A latch whose pending notice may be sent (R172). -/
def sendable (s : State) (c : Condition) : Bool :=
  match s.latches.get c with
  | none => false
  | some d => d.pending && (c.nonMaskable || (s.master && enabled s c))

/-- The sendable condition of highest priority (R172). -/
def nextSendable (s : State) : Option Condition := Condition.all.find? (sendable s)

/-- A level condition's cause persists (section 10.2); false for an edge condition. -/
def causePersists (s : State) : Condition → Bool
  | .h2Alarm => s.perm.h2Active
  | .stringIsolated => Pos.all.any fun p => (s.sit.get p).role == .isolated
  | .ventFail => s.perm.ventFailed
  | .senseFault => Pos.all.any fun p => fitted s p && readingFault (s.sit.get p)
  | .reservoirEmpty => presents s .resLow == .active
  | .reservoirLow => accountLow s
  | _ => false

end Sys2Proof.Machine
end

