-- ==== Sys2Proof/Machine/Ops.lean ====
section
/-! DEFINITION. The named operations the blocks share: field updates, output commands, condition events,
the Round Queue and its offers, round records, stage changes with what Site Permissions and the
Setpoint Unit do at them, and the line's stage entries. -/

namespace Sys2Proof.Machine

/-! ### Updates of one unit's part of the state -/

/-- Change one string's situation. -/
def State.modSit (s : State) (p : Pos) (f : StringSituation → StringSituation) : State :=
  { s with sit := s.sit.set p (f (s.sit.get p)) }

/-- Change one string's history. -/
def State.modHist (s : State) (p : Pos) (f : StringHistory → StringHistory) : State :=
  { s with hist := s.hist.set p (f (s.hist.get p)) }

/-- Change one channel. -/
def State.modChan (s : State) (c : Ch) (f : Channel → Channel) : State :=
  { s with chan := s.chan.set c (f (s.chan.get c)) }

/-- Change one channel's context, if it holds one. -/
def State.modCtx (s : State) (c : Ch) (f : Context → Context) : State :=
  s.modChan c fun ch => { ch with ctx := ch.ctx.map f }

/-- Change one channel's nested call, if it holds one. -/
def State.modCall (s : State) (c : Ch) (f : Call → Call) : State :=
  s.modChan c fun ch => { ch with call := ch.call.map f }

/-- Change Site Permissions. -/
def State.modPerm (s : State) (f : Permissions → Permissions) : State := { s with perm := f s.perm }

/-- Change the line record. -/
def State.modLine (s : State) (f : Line → Line) : State := { s with line := f s.line }

/-- Make the reserve test due within this step (R127). -/
def State.wantReserve (s : State) : State := { s with due := { s.due with reserve := true } }

/-- Make an admission evaluation due within this step (R80). -/
def State.wantAdmission (s : State) : State := { s with due := { s.due with admission := true } }

/-! ### Plant outputs -/

/-- Turn a charger's enable ON or OFF (R3). -/
def setEnable (s : State) (c : Ch) (on : Bool) : State :=
  { s with out := { s.out with charger := s.out.charger.set c { s.out.charger.get c with enable := on } } }

/-- Write a charger's current-limit code (R3). -/
def setLimit (s : State) (c : Ch) (code : Nat) : State :=
  { s with out := { s.out with charger := s.out.charger.set c { s.out.charger.get c with limit := code } } }

/-- Write a channel's present demand record, and with it the demand output, which always carries the
present code (R47). -/
def writeDemand (s : State) (c : Ch) (code : Nat) (cell : Option Nat) : State :=
  { s with
    present := s.present.set c { code := code, cell := cell }
    out := { s.out with charger := s.out.charger.set c { s.out.charger.get c with demand := code } } }

/-- Recompute a position's on-bus flag; a change of the count is delivered to Site Permissions and to
Round Admission (R60). -/
def recomputeOnBus (s : State) (p : Pos) : State :=
  let now := onBusNow s p
  if now = (s.sit.get p).onBus then s
  else ((s.modSit p fun t => { t with onBus := now }).wantReserve).wantAdmission

/-- Command KF (R1), which recomputes the on-bus flag (R60). -/
def commandKf (s : State) (p : Pos) (c : Contact) : State :=
  recomputeOnBus { s with out := { s.out with kf := s.out.kf.set p c } } p

/-- Command KE (R1). -/
def commandKe (s : State) (p : Pos) (c : Contact) : State :=
  { s with out := { s.out with ke := s.out.ke.set p c } }

/-- Command KS (R1). -/
def commandKs (s : State) (p : Pos) (c : Ch) : State :=
  { s with out := { s.out with ks := s.out.ks.set p c } }

/-- Command the pump (R5). -/
def setPump (s : State) (on : Bool) : State := { s with out := { s.out with pump := on } }

/-- Command a string valve (R5). -/
def setValve (s : State) (p : Pos) (c : Contact) : State :=
  { s with out := { s.out with valve := s.out.valve.set p c } }

/-! ### Condition events -/

/-- A condition event (R171): a clear latch is set with its detail and a pending notice; a set latch
counts again. -/
def State.event (s : State) (c : Condition) (string value : Nat) (captured : Option Level) : State :=
  let now : LatchDetail := match s.latches.get c with
    | none =>
      { string := string, value := value, captured := captured, time := s.stamp, again := 0, pending := true }
    | some d => { d with again := satAdd 255 d.again 1 }
  { s with latches := s.latches.set c (some now) }

/-! ### The vent monitor, the fan, the gassing count (R121 to R123) -/

/-- Start a timer that is to run while a condition holds, or stop it. -/
def runWhile (cond : Bool) (t : Option Nat) : Option Nat :=
  if cond then some (t.getD 0) else none

/-- The vent monitor: in OK the low-speed timer runs while the fan is commanded ON and turns slowly
(R122); in FAILED the fan's OFF command makes the state OK, and otherwise the recovery timer runs while
the fan turns fast enough (R123). -/
def ventMonitor (s : State) : State :=
  let low := decide (s.perm.speed < s.cfg.fanMinRpm)
  if s.perm.ventFailed then
    if s.perm.fan then
      s.modPerm fun p => { p with recovery := runWhile (!low) p.recovery }
    else
      (s.modPerm fun p =>
        { p with ventFailed := false, recovery := none, lowSpeed := none }).wantAdmission
  else
    s.modPerm fun p => { p with lowSpeed := runWhile (p.fan && low) p.lowSpeed }

/-- Recompute the fan command; a change is written to the fan output and taken by the vent monitor (R121). -/
def recomputeFan (s : State) : State :=
  let on := fanWanted s
  if on = s.perm.fan then s
  else
    ventMonitor { s with
      perm := { s.perm with fan := on }
      out := { s.out with fan := on } }

/-- What Site Permissions does at a stage-change delivery: the gassing count with its run-on timer and the
fan (R121), the stop of the grace timer when no channel needs supply (R126), and the reserve test when a
channel has become IDLE (R127). -/
def stageDelivered (s : State) (new : Stage) : State :=
  let count := stageCount s Stage.gasses
  let old := s.perm.gassing
  let s := s.modPerm fun p =>
    { p with
      gassing := count
      runOn := if 0 < old ∧ count = 0 then some 0 else if old = 0 ∧ 0 < count then none else p.runOn
      grace := if stageCount s Stage.needsSupply = 0 then none else p.grace }
  let s := recomputeFan s
  if new = .idle then (s.wantReserve).wantAdmission else s

/-! ### Demand codes and stage changes (R44, R45, R47) -/

/-- The demand code of a string voltage in mV (R44). -/
def demandCode (mv : Nat) : Nat := min 4095 ((mv + 8) / 16)

/-- The demand code of a cell voltage in mV (R44). -/
def cellCode (mv : Nat) : Nat := demandCode (24 * mv)

/-- The measured-voltage code of a string: its statistics' sum, clamped to 3825 (R44). -/
def measuredCode (s : State) (p : Pos) : Nat :=
  min 3825 (demandCode (((s.scan.strings.get p).stats.map (·.sum)).getD 0))

/-- The effective target: the equalise setpoint, lowered to the holdback ceiling, not below float (R45). -/
def effectiveTarget (s : State) (x : Context) : Nat :=
  let r := s.comp.get x.string
  let t := match x.ceiling with
    | some h => min r.eqMv h
    | none => r.eqMv
  max t r.floatMv

/-- The ramp's uncapped cell demand: float plus the ramp steps (R45, R98). -/
def rampReach (s : State) (x : Context) : Nat :=
  (s.comp.get x.string).floatMv + x.k * s.cfg.rampStepMv

/-- The cell demand of a stage, absent where R45 gives none. -/
def cellDemand (s : State) (st : Stage) (x : Context) : Option Nat :=
  match st with
  | .ramp => some (min (rampReach s x) (effectiveTarget s x))
  | .hold => some (effectiveTarget s x)
  | .settle | .water => some (s.comp.get x.string).floatMv
  | .transferOut | .transferBack | .idle => none

/-- A direct event: the new code is computed from R45 and R44 and written at once (R47). -/
def writeDirect (s : State) (c : Ch) : State :=
  let ch := s.chan.get c
  match ch.ctx with
  | none => writeDemand s c 0 none
  | some x =>
    match ch.stage with
    | .transferOut => writeDemand s c (measuredCode s x.string) none
    | .idle | .transferBack => writeDemand s c 0 none
    | .ramp | .hold | .settle | .water =>
      match cellDemand s ch.stage x with
      | some v => writeDemand s c (cellCode v) (some v)
      | none => s

/-- A recomputation: in RAMP, HOLD, SETTLE and WATER the new code is written if it differs from the present
code by 2 or more (R47). -/
def writeHysteresis (s : State) (c : Ch) : State :=
  let ch := s.chan.get c
  match ch.ctx with
  | none => s
  | some x =>
    match cellDemand s ch.stage x with
    | none => s
    | some v =>
      let new := cellCode v
      let old := (s.present.get c).code
      if old + 2 ≤ new ∨ new + 2 ≤ old then writeDemand s c new (some v) else s

/-- A stage change: the stage timer starts from 0, the Setpoint Unit writes the stage's demand, and Site
Permissions takes the delivery (R91). -/
def setStage (s : State) (c : Ch) (st : Stage) : State :=
  let s := (s.modChan c fun ch => { ch with stage := st }).modCtx c fun x => { x with stageTimer := 0 }
  stageDelivered (writeDirect s c) st

/-! ### Records (R161) -/

/-- Write a record: it takes the next seq, displaces the oldest of a full ring, clears the string's
round_open marker and makes ROUND_ENDED (R161). -/
def writeRecord (s : State) (r : Record) : State :=
  let r := { r with seq := s.log.nextSeq }
  let s :=
    { s with log :=
        { s.log with
          ring := s.log.ring.drop (s.log.ring.length + 1 - Config.ringCap) ++ [r]
          nextSeq := (s.log.nextSeq + 1) % 65536 } }
  let s := s.modHist r.string fun h => { h with roundOpen := none }
  s.event .roundEnded r.string.num r.seq none

/-- The equalise group of a context (R159). -/
def eqGroup (x : Context) : EqGroup :=
  { holdMin := x.holdMin, ah := x.charge / 3600, lastAvg := x.lastAvg, peak := x.peak,
    finalCell := x.finalCell, weakFound := x.weakFound, settleCut := x.settleCut,
    waterDeferred := x.waterDeferred, waterDropped := x.waterDropped }

/-- The record of a round that ends from a context (R158, R159). -/
def contextRecord (s : State) (x : Context) (o : Outcome) : Record :=
  { seq := 0, string := x.string, kind := x.kind, recovered := false, tagOrigin := some (x.tag, x.origin),
    outcome := o, first := x.first, endTime := some s.stamp, susp := some x.susp, eq := some (eqGroup x),
    water := x.water }

/-- The record of a standalone watering (R147, R158). -/
def waterRecord (s : State) (p : Pos) (i : RoundIdentity) (o : Outcome) (w : WaterResult) : Record :=
  { seq := 0, string := p, kind := .water, recovered := false, tagOrigin := some (i.tag, i.origin),
    outcome := o, first := i.first, endTime := some s.stamp, susp := some 0, eq := none, water := some w }

/-! ### The Round Queue (R71, R75) -/

/-- The queue's entries with one placed by its class (R71). -/
def placeIn (q : List Entry) (e : Entry) : List Entry :=
  match e.cls with
  | .urgent => q.takeWhile (·.cls == .urgent) ++ e :: q.dropWhile (·.cls == .urgent)
  | .routine => q ++ [e]

/-- Place an entry: the generation increases, and an evaluation is due (R71, R72, R80). -/
def placeEntry (s : State) (e : Entry) : State :=
  { s with queue := { entries := placeIn s.queue.entries e, gen := (s.queue.gen + 1) % 256 } }.wantAdmission

/-- Remove every entry naming a position; the generation increases once for each (R71, R72). -/
def removeEntries (s : State) (p : Pos) : State :=
  let kept := s.queue.entries.filter (·.string != p)
  let gone := s.queue.entries.length - kept.length
  { s with queue := { entries := kept, gen := (s.queue.gen + gone) % 256 } }

/-- The result of an offer (R75). -/
inductive OfferResult where
  | queued | autoOff | duplicate | locked | full
  deriving DecidableEq, Repr

/-- The code of an offer's result in the STRING_DUE detail (R178). -/
def OfferResult.code : OfferResult → Nat
  | .queued => 0 | .autoOff => 1 | .duplicate => 2 | .locked => 3 | .full => 4

/-- An offer to the Round Queue (R75). -/
def offer (s : State) (p : Pos) (k : Kind) (o : Origin) (tag : Byte) : State × OfferResult :=
  if (place s p).isSome then (s, .duplicate)
  else if lockedFor s p k then (s, .locked)
  else if Config.queueCap ≤ s.queue.entries.length then (s, .full)
  else
    (placeEntry s
      { tag := tag, kind := k, string := p, cls := .routine, origin := o, submit := s.stamp,
        notBefore := none, holdOverride := none, ahOverride := none }, .queued)

/-! ### The Watering Line's stage entries (R137 to R147) -/

/-- The doses count after one more DOSING entry: one more, and a free value past 255 (R136, R139). -/
def countDose (s : State) : State :=
  if s.line.doses < 255 then s.modLine fun l => { l with doses := l.doses + 1 }
  else
    { s with
      line := { s.line with doses := (Config.dosesPastMax s.freeDrawn).toNat }
      freeDrawn := s.freeDrawn + 1 }

/-- Enter DOSING: the doses count increases, dose mL and the stage timer start from 0, the pump runs (R139). -/
def enterDosing (s : State) : State :=
  setPump ((countDose s).modLine fun l => { l with stage := .dosing, timer := 0, doseMl := 0 }) true

/-- Enter PAUSE: the pump stops, the valve stays open (R137). -/
def enterPause (s : State) : State :=
  setPump (s.modLine fun l => { l with stage := .pause, timer := 0 }) false

/-- End a watering with an outcome: CLOSING, pump OFF, valve CLOSED (R137). -/
def closeLine (s : State) (o : Outcome) : State :=
  let s := s.modLine fun l => { l with stage := .closing, timer := 0, outcome := some o }
  let s := setPump s false
  match s.line.string with
  | some p => setValve s p .closed
  | none => s

/-- A watering is in PRIMING, DOSING or PAUSE. -/
def LineStage.dispensing : LineStage → Bool
  | .priming | .dosing | .pause => true
  | .free | .manual | .closing => false

/-- The line ends the watering RESERVOIR_EMPTY and makes the event (R144). -/
def endReservoirEmpty (s : State) : State :=
  let s := s.event .reservoirEmpty ((s.line.string.map Pos.num).getD 0) s.line.ml s.inp.resLow.captured
  closeLine s .reservoirEmpty

/-- The line takes a watering (R138). -/
def lineTake (s : State) (o : Owner) (p : Pos) (i : Option RoundIdentity) (d : Option ManualDose) : State :=
  let s := s.modLine fun l =>
    { l with
      stage := .priming, owner := some o, string := some p, identity := i, dose := d, ml := 0,
      pulses := 0, doses := 0, doseMl := 0, outcome := none, timer := 0, flowRef := none }
  let s := setValve s p .opened
  if presents s .resLow = .active then endReservoirEmpty s else s

/-- The line takes a channel's nested call, whose state becomes SERVING (R138, R148). -/
def lineTakeCall (s : State) (c : Ch) : State :=
  match (s.chan.get c).ctx with
  | none => s
  | some x =>
    let s := s.modLine fun l => { l with waiting := l.waiting.filter (· != c) }
    let s := s.modCall c fun k => { k with serving := true }
    lineTake s (.call c) x.string none none

/-- The line serves the next requester: the oldest waiting call, or FREE (R147 step 4). -/
def lineNext (s : State) : State :=
  let s := s.modLine fun l =>
    { l with owner := none, string := none, identity := none, dose := none, claimEnded := false }
  match s.line.waiting with
  | c :: _ => lineTakeCall s c
  | [] => (s.modLine fun l => { l with stage := .free, timer := 0 }).wantAdmission

/-- A stop asked by a Cancel Round or a channel (R146). -/
def lineStop (s : State) : State :=
  if s.line.stage.dispensing then closeLine s .cancelled else s

/-- The water result of the watering that ends (R147). -/
def lineResult (s : State) : WaterResult :=
  { ml := s.line.ml, doses := s.line.doses, outcome := s.line.outcome.getD .cancelled }

/-- A context whose nested call the line serves, with the water result as it stands on the line: what the record
of a round that ends before the line's return carries (R159, R163). -/
def withServed (s : State) (c : Ch) (x : Context) : Context :=
  match (s.chan.get c).call with
  | some k => if k.serving then { x with water := some (lineResult s) } else x
  | none => x

/-- Withdraw a channel's call from the waiting order and pop it (R148). -/
def withdrawCall (s : State) (c : Ch) : State :=
  (s.modLine fun l => { l with waiting := l.waiting.filter (· != c) }).modChan c fun ch =>
    { ch with call := none }

/-! ### The timer base -/

/-- Bring the timer base's milliseconds to at least an instant. -/
def atLeastMs (s : State) (t : Nat) : State := { s with base := { s.base with ms := max s.base.ms t } }

/-- The measuring blocks and the timer base run: from the release of a reset (R11, section 2.0, R189). -/
def running (s : State) : Bool := s.phase != .held

/-- The part is restarting (R190). -/
def restarting (s : State) : Bool := s.restartAt.isSome

end Sys2Proof.Machine
end

