-- ==== Sys2Proof/Machine/Setpoint.lean ====
section
/-! DEFINITION. The Setpoint Unit (chapter 3): counts to temperature, compensation, the cell setpoints, and
the float rectifier demand. Codes and hysteresis stand in Machine/Ops.lean. -/

namespace Sys2Proof.Machine

/-- The ratio Q of a VALID pair of counts (R37). -/
def ratioQ (nTh nRef : Nat) : Nat := (nRef * 1024 + nTh / 2) / nTh

/-- Linear interpolation in the first segment that holds Q, counting from the cold end (R38). -/
def interpolate : List (Int × Nat) → Nat → Int
  | (t, q₁) :: (t', q₂) :: rest, q =>
    if q ≤ q₁ ∧ q₂ ≤ q then
      10 * t + (((50 * (q₁ - q) + (q₁ - q₂) / 2) / (q₁ - q₂) : Nat) : Int)
    else interpolate ((t', q₂) :: rest) q
  | _, _ => 600

/-- Temperature in 0.1 °C and clamp flag of a ratio (R38, R39). -/
def temperatureOf (q : Nat) : Int × ClampFlag :=
  if 7938 < q then (-200, .low)
  else if q < 305 then (600, .high)
  else (interpolate Config.breakpoints q, .none)

/-- The state a pair of counts is classified as (R26). -/
def classify (nTh nRef : Nat) : TempState :=
  if nRef < 20000 ∨ 80000 < nRef then .opened
  else if nTh < 800 then .opened
  else if 120000 < nTh then .shorted
  else .valid

/-- A channel's record after a completed conversion (R26). -/
def convert (old : TempRec) (nTh nRef : Nat) : TempRec :=
  let st := classify nTh nRef
  let v := temperatureOf (ratioQ nTh nRef)
  { nTh := some nTh, nRef := some nRef, state := st,
    temp := if st = .valid then some v.1 else none,
    clamp := if st = .valid then v.2 else .none,
    convNo := (old.convNo + 1) % 256 }

/-- The temperature of a VALID record. -/
def TempRec.reading (r : TempRec) : Option Int := if r.state = .valid then r.temp else none

/-- The temperature chosen for a string (R40). -/
def chooseTemp (s : State) (p : Pos) : Int × TempSource :=
  match (s.temps.pilots.get p).reading with
  | some t => (t, .pilot)
  | none =>
    match s.temps.ambient.reading with
    | some t => (t, .ambient)
    | none => (250, .default)

/-- The compensation offset in mV of a Tc10: halves rounded away from zero (R42). -/
def compOffset (tcomp : Nat) (tc10 : Int) : Int :=
  let p := (tcomp : Int) * (tc10 - 250)
  let mag : Int := (((p.natAbs + 50) / 100 : Nat) : Int)
  if p < 0 then -mag else mag

/-- A cell setpoint: the base less the offset, clamped to its window (R43). -/
def cellSetpoint (base : Nat) (offset : Int) (lo hi : Int) : Nat :=
  (clampInt lo hi ((base : Int) - offset)).toNat

/-- The chosen temperature within COMP_LO..COMP_HI (R40). -/
def clampTc10 (s : State) (t : Int) : Int := clampInt s.cfg.compLo s.cfg.compHi t

/-- A string's compensation record (R40, R42, R43). -/
def compRecord (s : State) (p : Pos) : CompRec :=
  let c := chooseTemp s p
  let tc := clampTc10 s c.1
  let off := compOffset s.cfg.tcomp tc
  { source := c.2, tc10 := tc, eqMv := cellSetpoint s.cfg.eqCellMv off 2250 2550,
    floatMv := cellSetpoint s.cfg.floatCellMv off 2150 2350 }

/-- A compensation record after a reset (R43). -/
def compReset (t : Settings) : CompRec :=
  { source := .default, tc10 := 250, eqMv := t.eqCellMv, floatMv := t.floatCellMv }

/-- The highest temperature among the VALID pilots of on-bus strings (R41). -/
def hottestOnBus (s : State) : Option Int :=
  (Pos.all.filterMap fun p =>
    if (s.sit.get p).onBus then (s.temps.pilots.get p).reading else none).foldl
      (fun m t => match m with | none => some t | some u => some (max u t)) none

/-- The plant temperature of the float rectifier demand (R41). -/
def plantTemp (s : State) : Int :=
  match hottestOnBus s with
  | some t => t
  | none => (s.temps.ambient.reading).getD 250

/-- The float rectifier demand code (R41 to R44, R48). -/
def floatCode (s : State) : Nat :=
  cellCode (cellSetpoint s.cfg.floatCellMv (compOffset s.cfg.tcomp (clampTc10 s (plantTemp s))) 2150 2350)

/-- Write the float rectifier demand and set its computed flag (R4). -/
def writeFloat (s : State) (code : Nat) : State :=
  { s with out := { s.out with floatDemand := code, floatComputed := true } }

/-- The computation of the float rectifier demand: written directly the first time after a reset, and
through the hysteresis test later (R48). -/
def computeFloat (s : State) : State :=
  let new := floatCode s
  let old := s.out.floatDemand
  if s.out.floatComputed then
    if old + 2 ≤ new ∨ new + 2 ≤ old then writeFloat s new else s
  else writeFloat s new

end Sys2Proof.Machine
end

