-- ==== Sys2Proof/Machine/Operands.lean ====
section
/-! DEFINITION. Fields of bodies: integers and their bytes, optional fields, the codes of the named values
(R178, R182, R183), and the fields a request's body carries. -/

namespace Sys2Proof.Machine

/-! ### Integers in bytes, high byte first (R178) -/

/-- One byte. -/
def u8 (n : Nat) : List Byte := [BitVec.ofNat 8 n]

/-- Two bytes, high byte first. -/
def u16 (n : Nat) : List Byte := [BitVec.ofNat 8 (n / 256), BitVec.ofNat 8 n]

/-- Four bytes, high byte first. -/
def u32 (n : Nat) : List Byte :=
  [BitVec.ofNat 8 (n / 16777216), BitVec.ofNat 8 (n / 65536), BitVec.ofNat 8 (n / 256), BitVec.ofNat 8 n]

/-- A signed integer in two bytes, two's complement. -/
def i16 (n : Int) : List Byte := u16 (n % 65536).toNat

/-- A flag in one byte. -/
def flag (b : Bool) : List Byte := u8 (if b then 1 else 0)

/-- A flag as a bit of a byte of flags. -/
def bit (b : Bool) (k : Nat) : Nat := if b then 2 ^ k else 0

/-- Bytes of zero, for an absent field (R183, assumption 14). -/
def zeros (n : Nat) : List Byte := List.replicate n 0

/-- An optional field of `width` bytes: a presence byte, then the field, 0 while absent (R182,
assumption 14). -/
def opt {α : Type} (width : Nat) (enc : α → List Byte) : Option α → List Byte
  | some v => 1 :: enc v
  | none => 0 :: zeros width

/-- The number the bytes spell, high byte first. -/
def ofBytes (l : List Byte) : Nat := l.foldl (fun n b => 256 * n + b.toNat) 0

/-- The number spelled by `n` bytes of a body from an offset. -/
def field (body : List Byte) (start n : Nat) : Nat := ofBytes ((body.drop start).take n)

/-! ### Codes (R178, R182) -/

/-- Status codes (R178). -/
inductive Status where
  | ok | clamped | busy | full | duplicate | notFound | refused | badForm | unknown | ending | noClock
  | storeBusy
  deriving DecidableEq, Repr

/-- A status's code (R178). -/
def Status.code : Status → Nat
  | .ok => 0 | .clamped => 1 | .busy => 2 | .full => 3 | .duplicate => 4 | .notFound => 5 | .refused => 6
  | .badForm => 7 | .unknown => 8 | .ending => 9 | .noClock => 10 | .storeBusy => 11

/-- Reasons for REFUSED (R178). -/
inductive Reason where
  | range | locked | engaged | h2 | notOwner
  deriving DecidableEq, Repr

/-- A reason's code (R178). -/
def Reason.code : Reason → Nat
  | .range => 1 | .locked => 2 | .engaged => 3 | .h2 => 4 | .notOwner => 5

/-- A place's code (R178). -/
def Place.code : Place → Nat
  | .queued => 1 | .held => 2 | .activeChannel => 3 | .activeLine => 4

/-- An outcome's code (R178). -/
def Outcome.code : Outcome → Nat
  | .complete => 0 | .timeLimit => 1 | .ahLimit => 2 | .overtemp => 3 | .sense => 4 | .runaway => 5
  | .contactor => 6 | .cancelled => 7 | .expired => 8 | .heldFull => 9 | .interrupted => 10 | .filled => 11
  | .alreadyFull => 12 | .blocked => 13 | .reservoirEmpty => 14 | .overvolume => 15 | .halted => 16
  | .delivered => 17 | .stopped => 18

/-- A suspension cause's code (R178). -/
def Cause.code : Cause → Nat
  | .supply => 0 | .h2 => 1 | .vent => 2 | .reserve => 3

/-- The two bytes of an exit reason (R178). -/
def Exit.bytes : Exit → List Byte
  | .finished => u8 0 ++ u8 0
  | .suspended c => u8 1 ++ u8 c.code
  | .aborted o => u8 2 ++ u8 o.code

/-- A contactor as a named detail value (R178). -/
def Contactor.detail : Contactor → Nat
  | .ks => 1 | .kf => 2 | .ke => 3

/-- A framer fault's named detail value (R178). -/
inductive LinkFault where
  | length | crc | overrun
  deriving DecidableEq, Repr

/-- Its code (R178). -/
def LinkFault.detail : LinkFault → Nat
  | .length => 1 | .crc => 2 | .overrun => 3

/-- The ROUND_EXPIRED details (R178). -/
inductive Expiry where
  | suspensions | age
  deriving DecidableEq, Repr

/-- Their codes (R178). -/
def Expiry.detail : Expiry → Nat
  | .suspensions => 1 | .age => 2

/-- A round kind's code (R183). -/
def Kind.code : Kind → Nat
  | .equalise => 0 | .water => 1 | .equaliseThenWater => 2

/-- The kind a code names. -/
def Kind.ofCode : Nat → Option Kind
  | 0 => some .equalise | 1 => some .water | 2 => some .equaliseThenWater | _ => none

/-- A class's code (R183). -/
def RoundClass.code : RoundClass → Nat
  | .urgent => 0 | .routine => 1

/-- The class a code names. -/
def RoundClass.ofCode : Nat → Option RoundClass
  | 0 => some .urgent | 1 => some .routine | _ => none

/-- An origin's code (R183). -/
def Origin.code : Origin → Nat
  | .request => 0 | .autoDue => 1 | .autoLevel => 2 | .deferred => 3

/-- A role state's code, in the order of R54. -/
def Role.code : Role → Nat
  | .absent => 0 | .float => 1 | .equalising => 2 | .watering => 3 | .held => 4 | .isolated => 5

/-- An isolation reason's code, in the order of R54. -/
def Isolation.code : Isolation → Nat
  | .kfStuck => 0 | .keStuck => 1

/-- An assignment's code, in the order of R54. -/
def Assigned.code : Assigned → Nat
  | .channel .a => 0 | .channel .b => 1 | .line => 2

/-- The cell part's code, in the order of R54. -/
def SenseCell.code : SenseCell → Nat
  | .none => 0 | .pending => 1 | .opened => 2

/-- The pilot part's code, in the order of R54. -/
def SensePilot.code : SensePilot → Nat
  | .none => 0 | .pending => 1 | .opened => 2 | .shorted => 3

/-- An EQ_LOCK reason's code, in the order of R53. -/
def EqLockReason.code : EqLockReason → Nat
  | .runaway => 0 | .contactor => 1

/-- A WATER_LOCK reason's code. -/
def WaterLockReason.code : WaterLockReason → Nat
  | .overvolume => 0

/-- A temperature source's code, in the order of R40. -/
def TempSource.code : TempSource → Nat
  | .pilot => 0 | .ambient => 1 | .default => 2

/-- A temperature channel state's code (R183). -/
def TempState.code : TempState → Nat
  | .pending => 0 | .valid => 1 | .opened => 2 | .shorted => 3

/-- A clamp flag's code (R183). -/
def ClampFlag.code : ClampFlag → Nat
  | .none => 0 | .low => 1 | .high => 2

/-- A presented state's code (R183). -/
def Presented.code : Presented → Nat
  | .active => 0 | .inactive => 1 | .unknown => 2

/-- An electrical level's code (R183). -/
def Level.code : Level → Nat
  | .low => 0 | .high => 1

/-- A channel stage's code, in the order in which the manual first lists the stages, the table of R45 (R182). -/
def Stage.code : Stage → Nat
  | .transferOut => 0 | .ramp => 1 | .hold => 2 | .settle => 3 | .water => 4 | .transferBack => 5 | .idle => 6

/-- A line stage's code, in the order of R136. -/
def LineStage.code : LineStage → Nat
  | .free => 0 | .manual => 1 | .priming => 2 | .dosing => 3 | .pause => 4 | .closing => 5

/-- A line owner's code, in the order of R136. -/
def Owner.code : Owner → Nat
  | .round => 0 | .call .a => 1 | .call .b => 2 | .host => 3

/-- A channel's code. -/
def chCode : Ch → Nat
  | .a => 0 | .b => 1

/-- A string position's byte. -/
def posByte (p : Pos) : List Byte := u8 p.num

/-! ### Unsolicited messages (R178) -/

/-- A Notice for a latch as it stands (R172, R178). -/
def noticeFrame (c : Condition) (d : LatchDetail) : Frame :=
  { tag := 0, kind := 0xE0,
    body :=
      u8 c.num ++ u8 d.string ++ u16 d.value
        ++ u8 (bit d.captured.isSome 0 + bit (d.captured == some .high) 1 + bit d.time.valid 2)
        ++ u32 d.time.time ++ u8 d.again }

/-- A Manual Dose End message (R152, R178). -/
def doseEndFrame (d : DoseEnd) : Frame :=
  { tag := 0, kind := 0xE1,
    body := [d.tag] ++ posByte d.string ++ u16 d.target ++ u16 d.ml ++ u16 d.pulses ++ u8 d.outcome.code }

/-- The 33 bytes of a round record (R178). -/
def recordBytes (r : Record) : List Byte :=
  u16 r.seq ++ posByte r.string ++ u8 r.kind.code
    ++ u8 (bit r.recovered 0 + bit r.tagOrigin.isSome 1 + bit r.endTime.isSome 2 + bit r.susp.isSome 3
        + bit r.eq.isSome 4 + bit r.water.isSome 5 + bit ((r.eq.bind (·.lastAvg)).isSome) 6
        + bit ((r.eq.bind (·.finalCell)).isSome) 7)
    ++ [(r.tagOrigin.map (·.1)).getD 0] ++ u8 ((r.tagOrigin.map (·.2.code)).getD 0) ++ u8 r.outcome.code
    ++ u8 (bit r.first.valid 0 + bit ((r.endTime.map (·.valid)).getD false) 1
        + bit ((r.eq.map (·.settleCut)).getD false) 2 + bit ((r.eq.map (·.waterDeferred)).getD false) 3
        + bit ((r.eq.map (·.waterDropped)).getD false) 4)
    ++ u32 r.first.time ++ u32 ((r.endTime.map (·.time)).getD 0) ++ u8 (r.susp.getD 0)
    ++ u16 ((r.eq.map (·.holdMin)).getD 0) ++ u16 ((r.eq.map (·.ah)).getD 0)
    ++ u16 ((r.eq.bind (·.lastAvg)).getD 0) ++ i16 ((r.eq.map (·.peak)).getD 0)
    ++ u16 ((r.eq.bind (·.finalCell)).getD 0) ++ u8 ((r.eq.map (·.weakFound)).getD 0)
    ++ u16 ((r.water.map (·.ml)).getD 0) ++ u8 ((r.water.map (·.doses)).getD 0)
    ++ u8 ((r.water.map (·.outcome.code)).getD 0)

/-- A Log Record message (R165). -/
def logRecordFrame (r : Record) : Frame := { tag := 0, kind := 0xE2, body := recordBytes r }

/-- A Log End message (R165, R178). -/
def logEndFrame (t : Transfer) : Frame := { tag := 0, kind := 0xE3, body := [t.tag] ++ u8 t.n ++ u8 t.sent }

/-- Place a message at the end of the Outbound Queue (R181). -/
def placeMessage (s : State) (f : Frame) : State :=
  { s with link := { s.link with outbound := s.link.outbound ++ [f] } }

end Sys2Proof.Machine
end

