-- ==== Sys2Proof/Machine/Log.lean ====
section
/-! DEFINITION. The Round Record Log's transfer engine (section 9.4) and the Weak Cell List's answers to
offers (section 9.5). Writing a record stands in Machine/Ops.lean. -/

namespace Sys2Proof.Machine

/-! ### The Weak Cell List -/

/-- The list's answer to an offer (R118, R167). -/
inductive WeakAnswer where
  | fresh | updated | full
  deriving DecidableEq, Repr

/-- An entry is for a string and cell. -/
def WeakEntry.isFor (e : WeakEntry) (p : Pos) (cell : Nat) : Bool := (e.string == p) && (e.cell == cell)

/-- LIST_FULL as a named detail value (R178). -/
def listFull : Nat := 255

/-- An offer of a weak cell (R167). -/
def weakOffer (s : State) (p : Pos) (cell deficit : Nat) : State × WeakAnswer :=
  if s.weak.entries.any (·.isFor p cell) then
    ({ s with weak :=
        { entries := s.weak.entries.map fun e =>
            if e.isFor p cell then { e with deficit := deficit, windows := satAdd 255 e.windows 1 } else e
          gen := (s.weak.gen + 1) % 256 } }, .updated)
  else if s.weak.entries.length < Config.weakCap then
    (({ s with weak :=
        { entries := s.weak.entries ++
            [{ string := p, cell := cell, first := s.stamp, deficit := deficit, windows := 1 }]
          gen := (s.weak.gen + 1) % 256 } } : State).event .weakCell p.num cell none, .fresh)
  else (s.event .weakCell p.num listFull none, .full)

/-! ### The transfer engine -/

/-- The record of the ring with a seq. -/
def recordOf (s : State) (seq : Nat) : Option Record := s.log.ring.find? (·.seq == seq)

/-- Examine the transfer's next seqs until one is found in the ring or none is left (R165). -/
def examine (s : State) : Nat → Transfer → Transfer × Option Record
  | 0, t => (t, none)
  | n + 1, t =>
    if t.left = 0 then (t, none)
    else
      let t' := { t with next := (t.next + 1) % 65536, left := t.left - 1 }
      match recordOf s t.next with
      | some r => ({ t' with sent := t'.sent + 1 }, some r)
      | none => examine s n t'

/-- LOG_RECORD: with two free places and seqs left, examine and place at most one record (R165). -/
def execLogRecord (s : State) : Host.Outcome State Fault Refusal :=
  match s.log.transfer with
  | none => .next s
  | some t =>
    if freePlaces s < 2 ∨ t.left = 0 then .next s
    else
      let r := examine s t.left t
      let s := { s with log := { s.log with transfer := some r.1 } }
      match r.2 with
      | some rec => .next (placeMessage s (logRecordFrame rec))
      | none => .next s

/-- LOG_END: with two free places and no seqs left, place the Log End and end the transfer (R165). -/
def execLogEnd (s : State) : Host.Outcome State Fault Refusal :=
  match s.log.transfer with
  | none => .next s
  | some t =>
    if freePlaces s < 2 ∨ 0 < t.left then .next s
    else .next (placeMessage { s with log := { s.log with transfer := none } } (logEndFrame t))

end Sys2Proof.Machine
end

