-- ==== Sys2Proof/Machine/Strings.lean ====
section
/-! DEFINITION. The String Table's rules (chapter 4): due-ness, level low, SENSE faults, ISOLATED and its
recovery, the history update of a finished equalise, locks, and a change of the fitted set. -/

namespace Sys2Proof.Machine

/-- The DUE test of a position's history (R57). -/
def isDue (s : State) (p : Pos) : Bool :=
  decide (s.cfg.dueDays * 24 ≤ (s.hist.get p).hours)
    || decide (s.cfg.dueAh * 36000 ≤ (s.hist.get p).throughput)

/-- A rise of DUE: the flag is set, an AUTO_DUE entry is offered if AUTO_QUEUE is ON, and STRING_DUE is made
with the offer's result (R57). -/
def dueRise (s : State) (p : Pos) : State :=
  let s := s.modSit p fun t => { t with due := true }
  let r := if s.cfg.autoQueue = 0 then (s, OfferResult.autoOff) else offer s p .equaliseThenWater .autoDue 0
  r.1.event .stringDue p.num r.2.code none

/-- The DUE evaluation of a position (R57); an unfitted position is never due. -/
def dueEvaluate (s : State) (p : Pos) : State :=
  if fitted s p && isDue s p then
    if (s.sit.get p).due then s else dueRise s p
  else s.modSit p fun t => { t with due := false }

/-- The DUE evaluation of every fitted position (R57). DESIGN CHOICE (assumption 24): in position order. -/
def dueEvaluateAll (s : State) : State :=
  Pos.all.foldl (fun s p => if fitted s p then dueEvaluate s p else s) s

/-- A position's hour seconds have reached an hour (R55). -/
def hourRollover (s : State) (p : Pos) : State :=
  let s := s.modSit p fun t => { t with hourSec := t.hourSec - 3600 }
  dueEvaluate (s.modHist p fun h => { h with hours := satAdd Config.max16 h.hours 1 }) p

/-- A fitted position's negative sample adds its magnitude to the throughput, and DUE is evaluated (R56). -/
def throughputAdd (s : State) (p : Pos) (amps : Int) : State :=
  if fitted s p && decide (amps < 0) then
    dueEvaluate
      (s.modHist p fun h => { h with throughput := satAdd Config.max32 h.throughput amps.natAbs }) p
  else s

/-- A level probe's delivery (R58, R14). -/
def levelDelivered (s : State) (p : Pos) (k : DeliveryKind) : State :=
  if fitted s p then
    match presents s (.level p) with
    | .active =>
      let s := s.modSit p fun t => { t with levelLow := true }
      if (k == .edge) && (s.cfg.autoQueue != 0) then (offer s p .water .autoLevel 0).1 else s
    | .inactive => s.modSit p fun t => { t with levelLow := false }
    | .unknown => s
  else s

/-- Recompute a fitted position's SENSE fault; a rise of its reading fault makes SENSE_FAULT (R59). -/
def recomputeSense (s : State) (p : Pos) : State :=
  if fitted s p then
    let was := readingFault (s.sit.get p)
    let s := s.modSit p fun t => { t with senseCell := senseCellNow s p, sensePilot := sensePilotNow s p }
    if !was && readingFault (s.sit.get p) then s.event .senseFault p.num (lowestOpenCell s p) none else s
  else s

/-- An isolation reason as a named detail value (R178). -/
def Isolation.detail : Isolation → Nat
  | .kfStuck => 1
  | .keStuck => 2

/-- A string enters ISOLATED (R61, R62). -/
def enterIsolated (s : State) (p : Pos) (r : Isolation) : State :=
  let s := s.modSit p fun t => { t with role := .isolated, assigned := none, isolation := some r }
  s.event .stringIsolated p.num r.detail none

/-- A string leaves ISOLATED (R62). -/
def leaveIsolated (s : State) (p : Pos) : State :=
  (commandKs s p .a).modSit p fun t => { t with role := .float, isolation := none }

/-- Leave ISOLATED if the position is ISOLATED for KF_STUCK and its KF presents ACTIVE (R62). -/
def kfStuckTest (s : State) (p : Pos) : State :=
  if ((s.sit.get p).role == .isolated) && ((s.sit.get p).isolation == some .kfStuck)
      && (presents s (.kf p) == .active) then leaveIsolated s p
  else s

/-- What the String Table does at a KF feedback delivery (R60, R62). -/
def stringKf (s : State) (p : Pos) : State := kfStuckTest (recomputeOnBus s p) p

/-- What the String Table does at a KE feedback delivery (R62). -/
def stringKe (s : State) (p : Pos) : State :=
  if ((s.sit.get p).role == .isolated) && ((s.sit.get p).isolation == some .keStuck)
      && (presents s (.ke p) == .inactive) then
    kfStuckTest ((commandKf s p .closed).modSit p fun t => { t with isolation := some .kfStuck }) p
  else s

/-- The history update of a finished equalise (R63). -/
def historyUpdate (s : State) (p : Pos) : State :=
  let now := s.stamp
  let s := s.modHist p fun h => { h with hours := 0, throughput := 0, lastEq := some now }
  s.modSit p fun t => { t with hourSec := 0, due := false }

/-- Set EQ_LOCK (R64). -/
def setEqLock (s : State) (p : Pos) (r : EqLockReason) : State :=
  s.modHist p fun h => { h with eqLock := some r }

/-- Set WATER_LOCK (R64). -/
def setWaterLock (s : State) (p : Pos) : State := s.modHist p fun h => { h with waterLock := some .overvolume }

/-- The round-open marker is set at a first admission (R66). -/
def markRoundOpen (s : State) (p : Pos) (k : Kind) : State :=
  let now := s.stamp
  s.modHist p fun h => { h with roundOpen := some { kind := k, first := now } }

/-- A removal from the working value of FITTED (R67, R18, R22). -/
def removePosition (s : State) (p : Pos) : State :=
  let s := removeEntries s p
  let s :=
    { s with scan :=
        { s.scan with
          strings := s.scan.strings.set p .reset
          measuring := if s.scan.measuring = some p then none else s.scan.measuring } }
  let s := recomputeOnBus s p
  s.modSit p fun _ => .reset false

/-- An addition to the working value of FITTED (R67, R58, R57). -/
def addPosition (s : State) (p : Pos) : State :=
  let s := s.modSit p fun _ => .reset true
  let s := recomputeOnBus s p
  let s := recomputeSense s p
  let s := s.modSit p fun t => { t with levelLow := presents s (.level p) == .active }
  dueEvaluate s p

/-- A bit of a set of positions. -/
def inSet (v : Nat) (p : Pos) : Bool := v.testBit (p.num - 1)

/-- Change the working value of FITTED: the removals, then the additions, in position order (R67). -/
def changeFitted (s : State) (v : Nat) : State :=
  let old := s.cfg.fitted
  let s := { s with store := { s.store with working := { s.store.working with fitted := v } } }
  let s := Pos.all.foldl (fun s p => if inSet old p && !inSet v p then removePosition s p else s) s
  Pos.all.foldl (fun s p => if !inSet old p && inSet v p then addPosition s p else s) s

end Sys2Proof.Machine
end

