-- ==== Sys2Proof/Machine/Channel.lean ====
section
/-! DEFINITION. The Equalise Channels (chapter 6): transfers out and back, ramp, hold, settle, the nested
call, aborts, cuts and suspensions, and the end of a round. -/

namespace Sys2Proof.Machine

/-- The string a channel holds. -/
def heldString (s : State) (c : Ch) : Option Pos := (s.chan.get c).ctx.map (·.string)

/-- A VALID pilot's temperature as it stands (R27). -/
def pilotReading (s : State) (p : Pos) : Option Int := (s.temps.pilots.get p).reading

/-- Stop a channel's waiting step. -/
def stopWait (s : State) (c : Ch) : State := s.modChan c fun ch => { ch with wait := none }

/-- Start a waiting step with CONTACTOR_MS as it stands (R95). -/
def startWait (s : State) (c : Ch) (k : Contactor) : State :=
  s.modChan c fun ch => { ch with wait := some { contactor := k, start := s.base.ms, limit := s.cfg.contactorMs } }

/-! ### Records and rounds that end -/

/-- A round ends on a channel: the order of R116. `failed` is set for a return that failed (R115), which
leaves the role state ISOLATED. -/
def endRound (s : State) (c : Ch) (x : Context) (failed : Bool) : State :=
  let s := s.modChan c fun ch => { Channel.reset with toStart := ch.toStart }
  let s := s.modSit x.string fun t => { t with role := if failed then t.role else .float, assigned := none }
  let r := if x.waterDeferred then offer s x.string .water .deferred x.tag else (s, OfferResult.queued)
  let x := { x with waterDropped := x.waterDropped || (r.2 != .queued) }
  let s := writeRecord r.1 (contextRecord r.1 x (x.outcome.getD .interrupted))
  stageDelivered (writeDirect s c) .idle

/-- What a suspension does to a context (R129). -/
def suspendContext (x : Context) : Context :=
  { x with
    susp := x.susp + 1, winMin := 0, winSum := 0, winCount := 0, winTemp := none, flat := 0,
    prevAvg := none, exit := none }

/-- The suspension mechanics at a completed return with exit SUSPEND (R129, R130). -/
def suspension (s : State) (c : Ch) (x : Context) (cause : Cause) : State :=
  let x := suspendContext x
  if s.cfg.suspendMax < x.susp then
    endRound (s.event .roundExpired x.string.num Expiry.suspensions.detail none) c
      { x with outcome := some .expired } false
  else if Config.heldCap ≤ s.held.entries.length then
    endRound s c { x with outcome := some .heldFull } false
  else
    let now := s.stamp
    let s := s.modChan c fun ch => { Channel.reset with toStart := ch.toStart }
    let s :=
      { s with held :=
          { entries := s.held.entries ++ [({ ctx := x, cause := cause, since := now } : Held)]
            gen := (s.held.gen + 1) % 256 } }
    let s := s.modSit x.string fun t => { t with role := .held, assigned := none }
    (stageDelivered (writeDirect s c) .idle).wantAdmission

/-! ### Returning to the load bus -/

/-- The return is complete (R116); a return whose nested call the line still serves waits for the pop (R113). -/
def backComplete (s : State) (c : Ch) : State :=
  let s := stopWait s c
  let ch := s.chan.get c
  match ch.ctx with
  | none => s
  | some x =>
    if ch.call.isSome then s
    else
      match x.exit with
      | some (.suspended cause) => suspension s c x cause
      | some .finished | some (.aborted _) | none => endRound s c x false

/-- Step 4 of the return (R114). -/
def backStep4 (s : State) (c : Ch) : State :=
  match heldString s c with
  | none => s
  | some p => backComplete (commandKs s p .a) c

/-- Step 3 of the return (R114). -/
def backStep3 (s : State) (c : Ch) : State :=
  match heldString s c with
  | none => s
  | some p =>
    if s.out.kf.get p = .opened then
      let s := commandKf s p .closed
      if presents s (.kf p) = .active then backStep4 s c else startWait s c .kf
    else backStep4 s c

/-- Step 2 of the return (R114). -/
def backStep2 (s : State) (c : Ch) : State :=
  match heldString s c with
  | none => s
  | some p =>
    if s.out.ke.get p = .closed then
      let s := commandKe s p .opened
      if presents s (.ke p) = .inactive then backStep3 s c else startWait s c .ke
    else backStep3 s c

/-- Enter TRANSFER_BACK with an exit reason and make step 1 (R114). -/
def enterBack (s : State) (c : Ch) (e : Exit) : State :=
  let s := setEnable s c false
  let s := (stopWait s c).modCtx c fun x => { x with exit := some e }
  backStep2 (setLimit (setStage s c .transferBack) c 0) c

/-! ### Leaving RAMP and HOLD, aborts, cuts, suspensions -/

/-- The final cell demand is set from the present cell demand in RAMP and HOLD (R103). -/
def keepFinalCell (s : State) (c : Ch) : State :=
  match (s.chan.get c).stage with
  | .ramp | .hold => s.modCtx c fun x => { x with finalCell := (s.present.get c).cell }
  | .idle | .transferOut | .settle | .water | .transferBack => s

/-- An abort (R106). -/
def abortRound (s : State) (c : Ch) (o : Outcome) : State :=
  enterBack ((keepFinalCell s c).modCtx c fun x => { x with outcome := some o }) c (.aborted o)

/-- The channel asks the line to stop its SERVING call, unless it has asked (R97, R146). -/
def askStop (s : State) (c : Ch) : State :=
  if ((s.chan.get c).call.map (·.stopAsked)).getD true then s
  else lineStop (s.modCall c fun k => { k with stopAsked := true })

/-- The flags of a cut (R110). -/
def cutFlags (s : State) (c : Ch) (defer : Bool) : State :=
  s.modCtx c fun x =>
    { x with settleCut := true, waterDeferred := x.waterDeferred || (defer && x.kind.waters) }

/-- A cut, with deferral or without, by a hydrogen alarm or not (R110). -/
def cutRound (s : State) (c : Ch) (defer h2 : Bool) : State :=
  let ch := s.chan.get c
  match ch.stage, ch.call with
  | .settle, _ => enterBack (cutFlags s c defer) c .finished
  | .water, some k =>
    if k.serving then
      if k.cut || k.contactor then s
      else
        let s := (cutFlags s c defer).modCall c fun k => { k with cut := true }
        if h2 then s else askStop s c
    else enterBack (cutFlags (withdrawCall s c) c defer) c .finished
  | _, _ => s

/-- A reading's cause: an abort in TRANSFER_OUT, RAMP and HOLD, a cut without deferral in SETTLE and WATER
(section 6.5). -/
def readingCause (s : State) (c : Ch) (o : Outcome) : State :=
  match (s.chan.get c).stage with
  | .transferOut | .ramp | .hold => abortRound s c o
  | .settle | .water => cutRound s c false false
  | .transferBack | .idle => s

/-- A suspending cause (R108). -/
def suspendingCause (s : State) (c : Ch) (cause : Cause) : State :=
  match (s.chan.get c).stage with
  | .transferOut | .ramp | .hold => enterBack (keepFinalCell s c) c (.suspended cause)
  | .settle | .water => cutRound s c true (cause == .h2)
  | .transferBack | .idle => s

/-- Deliver a suspending cause to each channel whose stage it concerns (R108, R122, R124, R126). DESIGN CHOICE
(assumption 24): channel A takes it before channel B, which the Held Rounds List and the seqs of their records show
when both returns complete at this event. -/
def deliverCause (s : State) (cause : Cause) (concerns : Stage → Bool) : State :=
  [Ch.a, Ch.b].foldl
    (fun s c => if concerns (s.chan.get c).stage then suspendingCause s c cause else s) s

/-! ### Ramp and hold -/

/-- The target is reached (R98). -/
def targetReached (s : State) (x : Context) : Bool := decide (effectiveTarget s x ≤ rampReach s x)

/-- Enter HOLD with a fresh window (R99). -/
def enterHold (s : State) (c : Ch) : State :=
  let s := s.modCtx c fun x =>
    { x with winMin := 0, winSum := 0, winCount := 0, holdSec := 0, winTemp := pilotReading s x.string }
  setStage s c .hold

/-- The target test of a channel in RAMP (R98). -/
def targetTest (s : State) (c : Ch) : State :=
  let ch := s.chan.get c
  match ch.stage, ch.ctx with
  | .ramp, some x => if targetReached s x then enterHold s c else s
  | _, _ => s

/-- Enter RAMP (R98). -/
def enterRamp (s : State) (c : Ch) : State :=
  targetTest (setStage ((stopWait s c).modCtx c fun x => { x with k := 0 }) c .ramp) c

/-- A ramp step (R98). -/
def rampStep (s : State) (c : Ch) : State :=
  targetTest (writeDirect (s.modCtx c fun x => { x with k := satAdd 255 x.k 1, stageTimer := 0 }) c) c

/-- An equalise finishes (R103, R63). -/
def finish (s : State) (c : Ch) (o : Outcome) : State :=
  match heldString s c with
  | none => s
  | some p =>
    let s := (keepFinalCell s c).modCtx c fun x => { x with outcome := some o }
    setStage (historyUpdate s p) c .settle

/-- The weak-cell screening's work for one cell (R118). -/
def screenCell (s : State) (c : Ch) (p : Pos) (mean cell mv : Nat) : State :=
  if mv + s.cfg.weakMv < mean then
    let r := weakOffer s p cell (mean - mv)
    if r.2 = .fresh then r.1.modCtx c fun x => { x with weakFound := satAdd 255 x.weakFound 1 } else r.1
  else s

/-- The weak-cell screening from a cell number on, in cell order (R118). -/
def screenFrom (c : Ch) (p : Pos) (mean : Nat) : Nat → List CellEntry → State → State
  | _, [], s => s
  | n, e :: l, s => screenFrom c p mean (n + 1) l (screenCell s c p mean n e.mv)

/-- The weak-cell screening of the held string (R118). -/
def screenCells (s : State) (c : Ch) (p : Pos) : State :=
  match (s.scan.strings.get p).stats with
  | some t => screenFrom c p t.mean 1 (s.scan.strings.get p).cells s
  | none => s

/-- The runaway test of a window with an average: the pilot's rise when it holds (R51). -/
def runawayRise (s : State) (x : Context) (avg : Nat) : Option Nat :=
  match x.prevAvg, x.winTemp, pilotReading s x.string with
  | some prev, some t₀, some t =>
    if prev + s.cfg.flatDelta < avg ∧ (s.cfg.runawayDt : Int) ≤ t - t₀ then some (t - t₀).toNat else none
  | _, _, _ => none

/-- The flat count after a window (R52). -/
def flatAfter (s : State) (x : Context) (avg : Nat) : Nat :=
  match x.prevAvg with
  | none => x.flat
  | some prev => if avg ≤ prev + s.cfg.flatDelta ∧ prev ≤ avg + s.cfg.flatDelta then x.flat + 1 else 0

/-- The abort of a thermal runaway (R106). -/
def runawayAbort (s : State) (c : Ch) (p : Pos) (rise : Nat) : State :=
  abortRound ((setEqLock s p .runaway).event .runaway p.num rise none) c .runaway

/-- The window-end work (R100). -/
def windowEnd (s : State) (c : Ch) : State :=
  match (s.chan.get c).ctx with
  | none => s
  | some x =>
    if x.winCount = 0 then screenCells s c x.string
    else
      let avg := x.winSum / x.winCount
      let s := s.modCtx c fun x => { x with lastAvg := some avg, winSum := 0, winCount := 0 }
      let s := screenCells s c x.string
      match runawayRise s x avg with
      | some rise => runawayAbort s c x.string rise
      | none =>
        let flat := flatAfter s x avg
        let s := s.modCtx c fun x => { x with flat := flat, prevAvg := some avg }
        if s.cfg.flatCount ≤ flat then finish s c .complete else s

/-- The stage of a channel is HOLD. -/
def inHold (s : State) (c : Ch) : Bool := (s.chan.get c).stage == .hold

/-- The window's part of a HOLD minute (R99). -/
def holdWindow (s : State) (c : Ch) : State :=
  match (s.chan.get c).ctx with
  | none => s
  | some x =>
    if s.cfg.flatWindowMin ≤ x.winMin then
      let s := windowEnd s c
      if inHold s c then
        s.modCtx c fun x => { x with winMin := 0, winTemp := pilotReading s x.string }
      else s
    else s

/-- The hold limit's part of a HOLD minute (R99). -/
def holdLimitTest (s : State) (c : Ch) : State :=
  match (s.chan.get c).ctx with
  | none => s
  | some x => if inHold s c && decide (x.holdLimit ≤ x.holdMin) then finish s c .timeLimit else s

/-- A minute in HOLD (R99). -/
def holdMinute (s : State) (c : Ch) : State :=
  let s := s.modCtx c fun x =>
    { x with holdSec := x.holdSec - 60, holdMin := x.holdMin + 1, winMin := x.winMin + 1 }
  holdLimitTest (holdWindow s c) c

/-- Charge integration at a current sample, and the Ah limit (R101, R49, R50). -/
def chargeSample (s : State) (c : Ch) (amps : Eight Int) : State :=
  let ch := s.chan.get c
  match ch.ctx with
  | none => s
  | some x =>
    if (ch.stage == .ramp) || (ch.stage == .hold) then
      let v := (clampInt 0 1000 (amps.get x.string)).toNat
      let x' := { x with
        charge := satAdd Config.max32 x.charge v
        winSum := if ch.stage == .hold then x.winSum + v else x.winSum
        winCount := if ch.stage == .hold then x.winCount + 1 else x.winCount }
      let s := s.modCtx c fun _ => x'
      if x'.ahLimit * 36000 ≤ x'.charge then finish s c .ahLimit else s
    else s

/-! ### Readings of the held string -/

/-- A holdback (R102). -/
def holdback (s : State) (c : Ch) (x : Context) : State :=
  let low := (s.comp.get x.string).floatMv
  let cand := max low (((s.present.get c).cell.getD low) - s.cfg.rampStepMv)
  let h := match x.ceiling with
    | some old => min old cand
    | none => cand
  targetTest (writeDirect (s.modCtx c fun x => { x with ceiling := some h }) c) c

/-- The channel tests a scan completion of its string (R105, R102). -/
def channelScan (s : State) (p : Pos) : State :=
  match holder s p with
  | none => s
  | some c =>
    match (s.scan.strings.get p).stats, (s.chan.get c).ctx with
    | some t, some x =>
      if t.anyOpen then readingCause s c .sense
      else
        match (s.chan.get c).stage with
        | .ramp | .hold => if s.cfg.cellMaxMv < t.maxMv then holdback s c x else s
        | .idle | .transferOut | .settle | .water | .transferBack => s
    | _, _ => s

/-- The stages in which a channel makes its pilot tests (R104). -/
def Stage.tested : Stage → Bool
  | .transferOut | .ramp | .hold | .settle | .water => true
  | .idle | .transferBack => false

/-- A disagreement has been taken while the call is SERVING, so later causes change nothing (R97). -/
def contactorTaken (s : State) (c : Ch) : Bool := ((s.chan.get c).call.map (·.contactor)).getD false

/-- The channel takes a pilot conversion of its string (R104). -/
def channelPilot (s : State) (p : Pos) : State :=
  match holder s p with
  | none => s
  | some c =>
    match pilotReading s p with
    | some t =>
      let s := s.modCtx c fun x => { x with peak := max x.peak t }
      if (s.chan.get c).stage.tested && decide ((s.cfg.tempAbort : Int) ≤ t) && !contactorTaken s c then
        readingCause (s.event .overtemp p.num t.toNat none) c .overtemp
      else s
    | none => if (s.chan.get c).stage.tested then readingCause s c .sense else s

/-- Recompute a string's compensation record; it reaches the channel holding the string through the
hysteresis test and, in RAMP, the target test (R43, R47, R98). -/
def recomputeComp (s : State) (p : Pos) : State :=
  let s := { s with comp := s.comp.set p (compRecord s p) }
  match holder s p with
  | some c => targetTest (writeHysteresis s c) c
  | none => s

/-! ### Leaving the load bus -/

/-- Step 4 of the transfer out (R94). -/
def outStep4 (s : State) (c : Ch) : State :=
  match heldString s c with
  | none => s
  | some p =>
    let s := commandKe s p .closed
    if presents s (.ke p) = .active then enterRamp s c else startWait s c .ke

/-- Step 3 of the transfer out (R94). -/
def outStep3 (s : State) (c : Ch) : State :=
  match heldString s c with
  | none => s
  | some p =>
    let s := commandKf s p .opened
    if presents s (.kf p) = .inactive then outStep4 s c else startWait s c .kf

/-- Step 2 of the transfer out (R94). -/
def outStep2 (s : State) (c : Ch) : State :=
  match heldString s c with
  | none => s
  | some p =>
    let s := commandKs s p c
    if busShown (presents s (.ks p)) = some c then outStep3 s c else startWait s c .ks

/-- The current-limit code (R46). -/
def limitCode (s : State) : Nat := min 4095 (4 * s.cfg.eqIlimit)

/-- Enter TRANSFER_OUT and make step 1 (R94); the context stands at level 0. -/
def startTransferOut (s : State) (c : Ch) : State :=
  let s := s.modChan c fun ch => { ch with toStart := some s.base.runSec }
  let s := setStage s c .transferOut
  outStep2 (setEnable (setLimit s c (limitCode s)) c true) c

/-! ### Contactor feedback -/

/-- A transfer's first failure (R96, R97): the outcome, the lock and the event. -/
def contactorFault (s : State) (c : Ch) (p : Pos) (k : Contactor) (captured : Option Level) : State :=
  let s := setEnable s c false
  let s := setEqLock s p .contactor
  let s := s.event .contactorFault p.num k.detail captured
  s.modCtx c fun x => { x with outcome := some .contactor }

/-- A contactor disagreement (R97). -/
def disagreement (s : State) (c : Ch) (p : Pos) (k : Contactor) (captured : Option Level) : State :=
  match (s.chan.get c).call with
  | some call =>
    if call.serving then
      if call.contactor then s
      else askStop ((contactorFault s c p k captured).modCall c fun k => { k with contactor := true }) c
    else abortRound (contactorFault (withdrawCall s c) c p k captured) c .contactor
  | none => abortRound (contactorFault s c p k captured) c .contactor

/-- The step that set a contactor in the transfer out has completed (R97). -/
def stepPassed (ch : Channel) (k : Contactor) : Bool :=
  match ch.stage with
  | .transferOut =>
    match ch.wait, k with
    | some w, .ks => w.contactor != .ks
    | some w, .kf => w.contactor == .ke
    | _, _ => false
  | .ramp | .hold | .settle | .water => true
  | .idle | .transferBack => false

/-- The feedback shows the contactor away from where the transfer out put it (R97). -/
def feedbackAway (s : State) (c : Ch) (p : Pos) : Contactor → Bool
  | .ks => busShown (presents s (.ks p)) == some c.other
  | .kf => presents s (.kf p) == .active
  | .ke => presents s (.ke p) == .inactive

/-- The feedback shows the position that the stage's waiting step commanded (R95). -/
def stepShown (s : State) (c : Ch) (p : Pos) (k : Contactor) : Bool :=
  match (s.chan.get c).stage, k with
  | .transferOut, .ks => busShown (presents s (.ks p)) == some c
  | .transferOut, .kf => presents s (.kf p) == .inactive
  | .transferOut, .ke => presents s (.ke p) == .active
  | .transferBack, .ke => presents s (.ke p) == .inactive
  | .transferBack, .kf => presents s (.kf p) == .active
  | _, _ => false

/-- A waiting step completes and the next begins (R95). -/
def nextStep (s : State) (c : Ch) (k : Contactor) : State :=
  let s := stopWait s c
  match (s.chan.get c).stage, k with
  | .transferOut, .ks => outStep3 s c
  | .transferOut, .kf => outStep4 s c
  | .transferOut, .ke => enterRamp s c
  | .transferBack, .ke => backStep3 s c
  | .transferBack, .kf => backStep4 s c
  | _, _ => s

/-- The channel holding a string takes a feedback delivery of one of its contactors (R95, R97). -/
def channelFeedback (s : State) (p : Pos) (k : Contactor) (captured : Option Level) : State :=
  match holder s p with
  | none => s
  | some c =>
    let ch := s.chan.get c
    if (ch.wait.map (·.contactor)) == some k then
      if stepShown s c p k then nextStep s c k else s
    else if stepPassed ch k && feedbackAway s c p k then disagreement s c p k captured
    else s

/-- A TRANSFER_OUT step times out (R96). -/
def outTimeout (s : State) (c : Ch) (k : Contactor) : State :=
  match heldString s c with
  | none => s
  | some p => abortRound (contactorFault s c p k none) c .contactor

/-- A TRANSFER_BACK step times out: the return has failed (R115). During a Restart the outcome stays
INTERRUPTED (R117), and a nested call that the line still serves is dropped, its water result as it stands in the
record's water group (R159, assumption 10). -/
def backTimeout (s : State) (c : Ch) (k : Contactor) : State :=
  match (s.chan.get c).ctx with
  | none => s
  | some x =>
    let s := enterIsolated s x.string (if k = .ke then .keStuck else .kfStuck)
    let s := setEqLock s x.string .contactor
    let o := if restarting s then x.outcome else some .contactor
    endRound s c { withServed s c x with outcome := o } true

/-! ### Settle and water -/

/-- A nested call as it is pushed (R111). -/
def Call.pushed : Call :=
  { serving := false, waitSec := 0, cut := false, contactor := false, stopAsked := false }

/-- Enter WATER, or the return if WATER_LOCK stands (R111). -/
def enterWater (s : State) (c : Ch) : State :=
  match heldString s c with
  | none => s
  | some p =>
    if (s.hist.get p).waterLock.isSome then enterBack s c .finished
    else
      let s := s.modChan c fun ch => { ch with call := some Call.pushed }
      let s := setStage s c .water
      if (s.line.stage == .free) && s.line.waiting.isEmpty then lineTakeCall s c
      else s.modLine fun l => { l with waiting := l.waiting ++ [c] }

/-- The settle ends (R109). -/
def settleEnd (s : State) (c : Ch) : State :=
  match (s.chan.get c).ctx with
  | none => s
  | some x => if x.kind.waters then enterWater s c else enterBack s c .finished

/-- A waiting call gives up (R112). -/
def giveUp (s : State) (c : Ch) : State :=
  enterBack ((withdrawCall s c).modCtx c fun x => { x with waterDeferred := true }) c .finished

/-- The line hands a SERVING call's result back (R113). -/
def lineReturn (s : State) (c : Ch) (w : WaterResult) : State :=
  match (s.chan.get c).call with
  | none => s
  | some k =>
    let halted := w.outcome == .halted
    let s := s.modCtx c fun x =>
      { x with
        water := some w
        settleCut := x.settleCut || halted
        waterDeferred := x.waterDeferred || halted }
    let s := s.modChan c fun ch => { ch with call := none }
    if (s.chan.get c).stage = .transferBack then
      if (s.chan.get c).wait.isNone then backComplete s c else s
    else enterBack s c (if k.contactor then .aborted .contactor else .finished)

/-- A channel's round at a Restart (R117). -/
def restartChannel (s : State) (c : Ch) : State :=
  let ch := s.chan.get c
  match ch.stage with
  | .idle => s
  | .transferBack =>
    s.modCtx c fun x => { x with outcome := some .interrupted, exit := some (.aborted .interrupted) }
  | .transferOut | .ramp | .hold | .settle | .water =>
    let waits := (ch.call.map fun k => !k.serving).getD false
    abortRound (if waits then withdrawCall s c else s) c .interrupted

/-- A channel's minute of its round's age (R92). -/
def ageOn (x : Context) : Context := { x with ageSec := x.ageSec - 60, ageMin := satAdd Config.max16 x.ageMin 1 }

/-! ### The commands of this chapter -/

/-- The step timer of a waiting step has run out by the next sample instant (R95, assumption 1). -/
def stepDue (s : State) (w : Wait) : Bool := decide (w.start + w.limit ≤ max s.base.ms s.base.sampleAt)

/-- A channel's waiting step in a stage whose timer has run out. -/
def dueStep (s : State) (c : Ch) (st : Stage) : Option Wait :=
  if (s.chan.get c).stage = st then
    match (s.chan.get c).wait with
    | some w => if stepDue s w then some w else none
    | none => none
  else none

/-- The seconds a channel has spent in a stage (R92), 0 while it is in another. -/
def stageSeconds (s : State) (c : Ch) (st : Stage) : Nat :=
  if (s.chan.get c).stage = st then ((s.chan.get c).ctx.map (·.stageTimer)).getD 0 else 0

end Sys2Proof.Machine
end

