-- ==== Sys2Proof/Machine/Admission.lean ====
section
/-! DEFINITION. Round Admission (sections 5.8 to 5.10): the tests of each kind, the blocked reason, the
admissions and the evaluation. -/

namespace Sys2Proof.Machine

/-- A blocked reason (R70). -/
inductive Blocked where
  | none | string | waiting | channel | line | supply | h2 | vent | reserve | temp | waterSupply
  deriving DecidableEq, Repr

/-- A blocked reason's code, in the order of R70 (R183). -/
def Blocked.code : Blocked → Nat
  | .none => 0 | .string => 1 | .waiting => 2 | .channel => 3 | .line => 4 | .supply => 5 | .h2 => 6
  | .vent => 7 | .reserve => 8 | .temp => 9 | .waterSupply => 10

/-- The first test that fails, or NONE (R82). -/
def firstFailing : List (Bool × Blocked) → Blocked
  | [] => .none
  | (true, _) :: l => firstFailing l
  | (false, r) :: _ => r

/-- The STRING test of the equalise kinds (R82). -/
def equaliseStringTest (s : State) (p : Pos) (k : Kind) (role : Role) : Bool :=
  ((s.sit.get p).role == role) && (s.sit.get p).onBus && !senseFault (s.sit.get p) && !lockedFor s p k

/-- The WAITING test (R82). -/
def waitingTest (s : State) (notBefore : Option Nat) : Bool :=
  match notBefore with
  | none => true
  | some t => s.clock.valid && decide (t ≤ s.clock.count)

/-- The channel an admission is given: A if IDLE, else B if IDLE (R83). -/
def freeChannel (s : State) : Option Ch :=
  if isIdle s .a then some .a else if isIdle s .b then some .b else none

/-- The H2 test (R83). -/
def h2Test (s : State) : Bool := (presents s .h2Alarm == .inactive) && s.perm.purge.isNone

/-- The VENT test (R83). -/
def ventTest (s : State) : Bool :=
  !s.perm.ventFailed && decide (committedGassing s < s.cfg.ventMaxGassing)

/-- The RESERVE test (R84). -/
def reserveOk (s : State) : Bool := decide (s.cfg.reserve + 1 ≤ freeOnBusCount s)

/-- The TEMP test (R85). -/
def tempTest (s : State) (p : Pos) : Bool :=
  match pilotReading s p with
  | some t => decide (t ≤ (s.cfg.tempStartMax : Int))
  | none => false

/-- The blocked reason of a candidate of an equalise kind (R82 to R85). -/
def equaliseBlocked (s : State) (p : Pos) (k : Kind) (role : Role) (notBefore : Option Nat) : Blocked :=
  firstFailing
    [(equaliseStringTest s p k role, .string), (waitingTest s notBefore, .waiting),
     ((freeChannel s).isSome, .channel), (s.supply.surplus, .supply), (h2Test s, .h2), (ventTest s, .vent),
     (reserveOk s, .reserve), (tempTest s p, .temp)]

/-- The LINE test (R86). -/
def lineTest (s : State) : Bool := (s.line.stage == .free) && s.line.waiting.isEmpty

/-- The WATER_SUPPLY test (R86). -/
def waterSupplyTest (s : State) : Bool :=
  decide (s.cfg.doseMl ≤ s.reservoir.account) && (presents s .resLow == .inactive)

/-- The blocked reason of a candidate of kind WATER (R86). -/
def waterBlocked (s : State) (p : Pos) (notBefore : Option Nat) : Blocked :=
  firstFailing
    [(((s.sit.get p).role == .float) && (s.hist.get p).waterLock.isNone, .string),
     (waitingTest s notBefore, .waiting), (lineTest s, .line), (h2Test s, .h2),
     (waterSupplyTest s, .waterSupply)]

/-- A queue entry's blocked reason (R87). -/
def entryBlocked (s : State) (e : Entry) : Blocked :=
  match e.kind with
  | .water => waterBlocked s e.string e.notBefore
  | .equalise | .equaliseThenWater => equaliseBlocked s e.string e.kind .float e.notBefore

/-- A held context's blocked reason (R134). -/
def heldBlocked (s : State) (h : Held) : Blocked :=
  equaliseBlocked s h.ctx.string h.ctx.kind .held none

/-- The context that the admission of a queued entry creates (R88). -/
def newContext (s : State) (e : Entry) : Context :=
  { string := e.string, kind := e.kind, tag := e.tag, origin := e.origin, first := s.stamp, ageMin := 0,
    ageSec := 0, holdLimit := e.holdOverride.getD s.cfg.eqMaxHoldMin,
    ahLimit := e.ahOverride.getD s.cfg.eqMaxAh, k := 0, stageTimer := 0, holdMin := 0, holdSec := 0,
    winMin := 0, winSum := 0, winCount := 0, winTemp := none, prevAvg := none, lastAvg := none, flat := 0,
    charge := 0, ceiling := none, finalCell := none, peak := (pilotReading s e.string).getD 0, susp := 0,
    weakFound := 0, outcome := none, settleCut := false, waterDeferred := false, waterDropped := false,
    water := none, exit := none }

/-- A channel takes a context and starts TRANSFER_OUT (R88, R89). -/
def giveChannel (s : State) (c : Ch) (x : Context) : State :=
  let s := s.modSit x.string fun t => { t with role := .equalising, assigned := some (.channel c) }
  let s := s.modChan c fun ch => { ch with ctx := some x, call := none, wait := none }
  startTransferOut s c

/-- The line takes an admitted WATER entry (R88). -/
def giveLine (s : State) (e : Entry) : State :=
  let i : RoundIdentity := { tag := e.tag, origin := e.origin, first := s.stamp }
  let s := s.modSit e.string fun t => { t with role := .watering, assigned := some .line }
  lineTake s .round e.string (some i) none

/-- The admission of a queued entry (R88). -/
def admitEntry (s : State) (e : Entry) : State :=
  let s :=
    { s with queue :=
        { entries := s.queue.entries.filter (· != e), gen := (s.queue.gen + 1) % 256 } }
  let s := markRoundOpen s e.string e.kind
  match e.kind with
  | .water => giveLine s e
  | .equalise | .equaliseThenWater =>
    match freeChannel s with
    | some c => giveChannel s c (newContext s e)
    | none => s

/-- A context leaves the Held Rounds List (R130). -/
def removeHeld (s : State) (h : Held) : State :=
  { s with held := { entries := s.held.entries.filter (· != h), gen := (s.held.gen + 1) % 256 } }

/-- The admission of a held context (R89). -/
def admitHeld (s : State) (h : Held) : State :=
  match freeChannel s with
  | some c => giveChannel (removeHeld s h) c h.ctx
  | none => s

/-- The candidate an evaluation admits next: held contexts first, oldest suspension first, then the queue in
its order (R81). -/
def nextCandidate (s : State) : Option (Held ⊕ Entry) :=
  match s.held.entries.find? fun h => heldBlocked s h == .none with
  | some h => some (.inl h)
  | none =>
    match s.queue.entries.find? fun e => entryBlocked s e == .none with
    | some e => some (.inr e)
    | none => none

/-- The passes of an evaluation, at most one for each candidate that stood at its start (R81). -/
def evaluatePasses : Nat → State → State
  | 0, s => s
  | n + 1, s =>
    match nextCandidate s with
    | some (.inl h) => evaluatePasses n (admitHeld s h)
    | some (.inr e) => evaluatePasses n (admitEntry s e)
    | none => s

/-- An evaluation of Round Admission (R81); none is made while restarting. -/
def evaluate (s : State) : State :=
  if restarting s then s
  else evaluatePasses (s.held.entries.length + s.queue.entries.length) s

end Sys2Proof.Machine
end

