-- ==== Sys2Proof/Machine/Permissions.lean ====
section
/-! DEFINITION. Site Permissions (sections 7.1 to 7.6): surplus and the grace timer, hydrogen and the purge,
the vent state, reserve supervision; the settling of a step's deliveries; the ends of held rounds. -/

namespace Sys2Proof.Machine

/-- A stage that is not IDLE. -/
def Stage.active : Stage → Bool
  | .idle => false
  | .transferOut | .ramp | .hold | .settle | .water | .transferBack => true

/-! ### Surplus (R78, R126) -/

/-- Surplus is lost: SUPPLY at once with SUPPLY_GRACE_MIN 0, otherwise the grace timer starts, if a channel is
in TRANSFER_OUT, RAMP or HOLD (R126). -/
def surplusLost (s : State) : State :=
  if stageCount s Stage.needsSupply = 0 then s
  else if s.cfg.supplyGraceMin = 0 then deliverCause s .supply Stage.needsSupply
  else s.modPerm fun p => { p with grace := some 0 }

/-- Surplus is present again: the grace timer stops, and admission evaluates (R126, R80). -/
def surplusBack (s : State) : State := (s.modPerm fun p => { p with grace := none }).wantAdmission

/-- Recompute surplus present; a change is delivered to Site Permissions (R78). -/
def recomputeSurplus (s : State) : State :=
  let now := surplusNow s
  if now = s.supply.surplus then s
  else
    let s := { s with supply := { s.supply with surplus := now } }
    if now then surplusBack s else surplusLost s

/-! ### Hydrogen (R124, R125) -/

/-- Turn the charger enable OFF on every channel that is not IDLE (R124, R3). -/
def disableChargers (s : State) : State :=
  [Ch.a, Ch.b].foldl (fun s c => if isIdle s c then s else setEnable s c false) s

/-- The halt that Site Permissions passes to the line (R145). -/
def lineHalt (s : State) : State :=
  if s.line.stage.dispensing then closeLine s .halted else s

/-- H2 handling starts (R124). -/
def h2Start (s : State) : State :=
  let s := s.modPerm fun p => { p with h2Active := true }
  let s := disableChargers s
  let s := deliverCause s .h2 Stage.active
  let s := lineHalt s
  let s := s.modPerm fun p => { p with purge := none }
  let s := recomputeFan s
  s.event .h2Alarm 0 0 s.inp.h2Alarm.captured

/-- The purge starts (R125). -/
def purgeStart (s : State) : State :=
  recomputeFan (s.modPerm fun p => { p with h2Active := false, purge := some 0 })

/-- An H2_ALARM delivery (R124, R125). -/
def h2Delivered (s : State) : State :=
  match presents s .h2Alarm with
  | .active => if s.perm.h2Active then s else h2Start s
  | .inactive => if s.perm.h2Active then purgeStart s else s
  | .unknown => s

/-! ### Vent (R122, R123) -/

/-- A speed delivery of the Fan Tach (R120, R122, R123). -/
def speedDelivered (s : State) (rpm : Nat) : State :=
  ventMonitor (s.modPerm fun p => { p with speed := rpm })

/-- The vent state becomes FAILED (R122). -/
def ventFails (s : State) : State :=
  let s := s.modPerm fun p => { p with ventFailed := true, lowSpeed := none, recovery := none }
  let s := s.event .ventFail 0 s.perm.speed none
  deliverCause s .vent Stage.active

/-- The vent state becomes OK after 60 s of speed (R123). -/
def ventRecovers (s : State) : State :=
  (ventMonitor (s.modPerm fun p => { p with ventFailed := false, recovery := none })).wantAdmission

/-! ### Reserve supervision (R127, R128) -/

/-- The channel whose transfer-out start is the later, channel B on a tie (R127). -/
def laterChannel (s : State) : Ch :=
  if (s.chan.b.toStart.getD 0) < (s.chan.a.toStart.getD 0) then .a else .b

/-- The yielding channel: of those in TRANSFER_OUT to WATER the one that began later (R127). -/
def yieldingChannel (s : State) : Option Ch :=
  match s.chan.a.stage.tested, s.chan.b.stage.tested with
  | true, true => some (laterChannel s)
  | true, false => some .a
  | false, true => some .b
  | false, false => none

/-- A channel is in TRANSFER_BACK. -/
def someReturning (s : State) : Bool :=
  (s.chan.a.stage == .transferBack) || (s.chan.b.stage == .transferBack)

/-- The RESERVE_BREACH event's string: the yielding channel's, 0 when a return ends the test (R127). -/
def breachString (s : State) : Nat :=
  if someReturning s then 0
  else (((yieldingChannel s).bind (heldString s)).map Pos.num).getD 0

/-- The reserve test (R127). -/
def reserveTest (s : State) : State :=
  if s.cfg.reserve ≤ onBusCount s ∨ (isIdle s .a ∧ isIdle s .b) then
    s.modPerm fun p => { p with breach := false }
  else
    let s :=
      if s.perm.breach then s
      else (s.modPerm fun p => { p with breach := true }).event .reserveBreach (breachString s) (onBusCount s)
        none
    if someReturning s then s
    else
      match yieldingChannel s with
      | some c => suspendingCause s c .reserve
      | none => s

/-! ### Settling a step -/

/-- Make the reserve tests and evaluations that a step's deliveries have made due, reserve tests first
(assumption 8). -/
def settleWith : Nat → State → State
  | 0, s => s
  | n + 1, s =>
    if s.due.reserve then settleWith n (reserveTest { s with due := { s.due with reserve := false } })
    else if s.due.admission then settleWith n (evaluate { s with due := { s.due with admission := false } })
    else s

/-- Settle a step's deliveries. -/
def settle (s : State) : State := settleWith 16 s

/-- The outcome of a command whose deliveries have been made: the settled state. -/
def settled (s : State) : Host.Outcome State Fault Refusal := .next (settle s)

/-! ### The ends of held rounds (R131, R133) -/

/-- A held round ends with an outcome: its string becomes FLOAT and its record is written (R131, R133). -/
def endHeld (s : State) (h : Held) (o : Outcome) : State :=
  let s := removeHeld s h
  let s := s.modSit h.ctx.string fun t => { t with role := .float, assigned := none }
  writeRecord s (contextRecord s h.ctx o)

/-- A held round ends EXPIRED (R131). -/
def expireHeld (s : State) (h : Held) (why : Expiry) : State :=
  endHeld (s.event .roundExpired h.ctx.string.num why.detail none) h .expired

/-- Every held context ends INTERRUPTED, oldest first (R133). -/
def interruptHeld (s : State) : State := s.held.entries.foldl (fun s h => endHeld s h .interrupted) s

/-- A lowering of SUSPEND_MAX ends the held contexts above it, oldest first (R131). -/
def suspendMaxLowered (s : State) : State :=
  s.held.entries.foldl
    (fun s h => if s.cfg.suspendMax < h.ctx.susp then expireHeld s h .suspensions else s) s

/-- The held context of a position, the channel's context aside. -/
def heldOf (s : State) (p : Pos) : Option Held := s.held.entries.find? fun h => h.ctx.string == p

/-- A minute of a held context (R131). -/
def heldMinute (s : State) (h : Held) : State :=
  let x := ageOn h.ctx
  let h' := { h with ctx := x }
  let s :=
    { s with held :=
        { s.held with entries := s.held.entries.map fun e => if e.ctx.string = h.ctx.string then h' else e } }
  if s.cfg.roundSpanH * 60 ≤ x.ageMin then expireHeld s h' .age else s

/-- A held context's minute is due and would end it (R131). -/
def heldEnds (s : State) (h : Held) : Bool :=
  decide (60 ≤ h.ctx.ageSec) && decide (s.cfg.roundSpanH * 60 ≤ (ageOn h.ctx).ageMin)

/-- An older held context ends at the same instant: held contexts that end together end oldest first (R131).
Counts of seconds that are equal and due became due at one instant. -/
def olderEnds (s : State) (h : Held) : Bool :=
  (s.held.entries.takeWhile fun e => e.ctx.string != h.ctx.string).any fun e =>
    heldEnds s e && (e.ctx.ageSec == h.ctx.ageSec)

/-! ### The commands of these chapters -/

/-- GRANT_COUNTDOWN: a minute of the grant (R79). -/
def execGrantCountdown (s : State) : Host.Outcome State Fault Refusal :=
  if 0 < s.supply.grantMin ∧ 60 ≤ s.supply.grantSec then
    settled (recomputeSurplus
      { s with supply :=
          { s.supply with grantMin := s.supply.grantMin - 1, grantSec := s.supply.grantSec - 60 } })
  else .next s

/-- MINUTE_EVALUATION: a minute of the timer base (R80). -/
def execMinuteEvaluation (s : State) : Host.Outcome State Fault Refusal :=
  if 60 ≤ s.base.minuteSec then
    settled { s with base := { s.base with minuteSec := s.base.minuteSec - 60 } }.wantAdmission
  else .next s

/-- TRANSFER_OUT_TIMEOUT (R96). -/
def execTransferOutTimeout (c : Ch) (s : State) : Host.Outcome State Fault Refusal :=
  match dueStep s c .transferOut with
  | some w => settled (outTimeout (atLeastMs s (w.start + w.limit)) c w.contactor)
  | none => .next s

/-- TRANSFER_BACK_TIMEOUT (R115). -/
def execTransferBackTimeout (c : Ch) (s : State) : Host.Outcome State Fault Refusal :=
  match dueStep s c .transferBack with
  | some w => settled (backTimeout (atLeastMs s (w.start + w.limit)) c w.contactor)
  | none => .next s

/-- RAMP_STEP (R98): RAMP_STEP_MIN in its working value at the last second. -/
def execRampStep (c : Ch) (s : State) : Host.Outcome State Fault Refusal :=
  if (s.chan.get c).stage = .ramp ∧ s.base.atSecond.rampStepMin * 60 ≤ stageSeconds s c .ramp then
    settled (rampStep s c)
  else .next s

/-- HOLD_MINUTE (R99): after the current sample of its second (R50, assumption 23). -/
def execHoldMinute (c : Ch) (s : State) : Host.Outcome State Fault Refusal :=
  if inHold s c ∧ 60 ≤ ((s.chan.get c).ctx.map (·.holdSec)).getD 0 then settled (holdMinute s c)
  else .next s

/-- SETTLE_END (R109): SETTLE_MIN in its working value at the last second. -/
def execSettleEnd (c : Ch) (s : State) : Host.Outcome State Fault Refusal :=
  if (s.chan.get c).stage = .settle ∧ s.base.atSecond.settleMin * 60 ≤ stageSeconds s c .settle then
    settled (settleEnd s c)
  else .next s

/-- GIVE_UP (R112): PUMP_WAIT_MIN in its working value at the last second. -/
def execGiveUp (c : Ch) (s : State) : Host.Outcome State Fault Refusal :=
  match (s.chan.get c).stage, (s.chan.get c).call with
  | .water, some k =>
    if !k.serving && decide (s.base.atSecond.pumpWaitMin * 60 ≤ k.waitSec) then settled (giveUp s c) else .next s
  | _, _ => .next s

/-- AGE_MINUTE: a minute of the context that names the position, on a channel or held (R92, R131). A minute that
ends a held context waits for the older ones that end at the same instant. -/
def execAgeMinute (p : Pos) (s : State) : Host.Outcome State Fault Refusal :=
  match holder s p with
  | some c =>
    if 60 ≤ ((s.chan.get c).ctx.map (·.ageSec)).getD 0 then .next (s.modCtx c ageOn) else .next s
  | none =>
    match heldOf s p with
    | some h =>
      if decide (60 ≤ h.ctx.ageSec) && !(heldEnds s h && olderEnds s h) then settled (heldMinute s h)
      else .next s
    | none => .next s

/-- A timer that runs has reached a number of seconds at the last second. Its commands give it the setting's
working value at that second, so that a lowered setting ends it at the next one (R120); a timer that has started
since then, still at 0, has not been at a second with any setting. -/
def timerAt (t : Option Nat) (sec : Nat) : Bool :=
  match t with
  | some v => decide (0 < v) && decide (sec ≤ v)
  | none => false

/-- RUN_ON_EXPIRY (R121). -/
def execRunOnExpiry (s : State) : Host.Outcome State Fault Refusal :=
  if timerAt s.perm.runOn (s.base.atSecond.purgeMin * 60) then
    settled (recomputeFan (s.modPerm fun p => { p with runOn := none }))
  else .next s

/-- LOW_SPEED_EXPIRY (R122). -/
def execLowSpeedExpiry (s : State) : Host.Outcome State Fault Refusal :=
  if !s.perm.ventFailed && timerAt s.perm.lowSpeed 10 then settled (ventFails s) else .next s

/-- RECOVERY_EXPIRY (R123). -/
def execRecoveryExpiry (s : State) : Host.Outcome State Fault Refusal :=
  if s.perm.ventFailed && timerAt s.perm.recovery 60 then settled (ventRecovers s) else .next s

/-- PURGE_END (R125). -/
def execPurgeEnd (s : State) : Host.Outcome State Fault Refusal :=
  if timerAt s.perm.purge (s.base.atSecond.purgeMin * 60) then
    settled (recomputeFan (s.modPerm fun p => { p with purge := none })).wantAdmission
  else .next s

/-- GRACE_EXPIRY (R126). -/
def execGraceExpiry (s : State) : Host.Outcome State Fault Refusal :=
  if timerAt s.perm.grace (s.base.atSecond.supplyGraceMin * 60) then
    settled (deliverCause (s.modPerm fun p => { p with grace := none }) .supply Stage.needsSupply)
  else .next s

/-- HOUR_ROLLOVER (R55). -/
def execHourRollover (p : Pos) (s : State) : Host.Outcome State Fault Refusal :=
  if fitted s p && decide (3600 ≤ (s.sit.get p).hourSec) then settled (hourRollover s p) else .next s

end Sys2Proof.Machine
end

