-- ==== Sys2Proof/Machine/Line.lean ====
section
/-! DEFINITION. The Watering Line and the Reservoir Account (chapter 8): pulses, the line's timed events, the
end of a watering, and the line under Restart. The taking of a watering and the stage entries stand in
Machine/Ops.lean. -/

namespace Sys2Proof.Machine

/-! ### The Reservoir Account -/

/-- The low test (R154). -/
def reservoirTest (s : State) : State :=
  let now := accountLow s
  let was := s.reservoir.low
  let s := { s with reservoir := { s.reservoir with low := now } }
  if now && !was then s.event .reservoirLow 0 (s.reservoir.account / 10) none else s

/-- Set the account and test it (R153, R154). -/
def setAccount (s : State) (v : Nat) : State :=
  reservoirTest { s with reservoir := { s.reservoir with account := v } }

/-! ### Pulses -/

/-- The stages of a watering in progress (R140). -/
def LineStage.watering : LineStage → Bool
  | .priming | .dosing | .pause | .closing => true
  | .free | .manual => false

/-- A pulse counted toward the watering in progress (R140). -/
def countPulse (s : State) : State :=
  let v := s.cfg.flowMlPerPulse
  let now := s.base.runSec
  s.modLine fun l =>
    { l with
      pulses := satAdd Config.max16 l.pulses 1
      ml := satAdd Config.max16 l.ml v
      flowRef := some now
      doseMl := if l.stage = .dosing then satAdd Config.max16 l.doseMl v else l.doseMl }

/-- A watering ends OVERVOLUME: WATER_LOCK and the event (R143). -/
def overvolume (s : State) : State :=
  match s.line.string with
  | none => s
  | some p => closeLine ((setWaterLock s p).event .overvolume p.num s.line.ml none) .overvolume

/-- The tests of a counted pulse while the outcome is absent (R140). -/
def pulseTests (s : State) : State :=
  if s.line.owner = some .host then
    if ((s.line.dose.map (·.target)).getD 0) ≤ s.line.ml then closeLine s .delivered else s
  else if s.cfg.waterMaxMl ≤ s.line.ml then overvolume s
  else if s.line.stage = .dosing ∧ s.cfg.doseMl ≤ s.line.doseMl then enterPause s
  else s

/-- A pulse delivery at the line (R140). -/
def linePulse (s : State) : State :=
  let s := setAccount s (s.reservoir.account - s.cfg.flowMlPerPulse)
  if s.line.stage.watering then
    let s := countPulse s
    if s.line.outcome.isNone then pulseTests s else s
  else s

/-- A RES_LOW delivery at the line (R144). -/
def lineResLow (s : State) : State :=
  if (presents s .resLow == .active) && s.line.stage.dispensing then endReservoirEmpty s else s

/-! ### The end of a watering -/

/-- A standalone round ends at the line (R147, R156). -/
def endLineRound (s : State) : State :=
  match s.line.string, s.line.identity with
  | some p, some i =>
    let w := lineResult s
    let s := s.modSit p fun t => { t with role := .float, assigned := none }
    writeRecord s (waterRecord s p i (if restarting s then .interrupted else w.outcome) w)
  | _, _ => s

/-- Place a Manual Dose End, or hold it while the Outbound Queue is full (R152). -/
def handDoseEnd (s : State) (d : DoseEnd) : State :=
  if 0 < freePlaces s then placeMessage s (doseEndFrame d)
  else s.modLine fun l => { l with pendingEnd := some d }

/-- The Manual Dose End of the dose that ends (R152). -/
def formDoseEnd (s : State) : Option DoseEnd :=
  match s.line.string, s.line.dose with
  | some p, some d =>
    some { tag := d.tag, string := p, target := d.target, ml := s.line.ml, pulses := s.line.pulses,
           outcome := s.line.outcome.getD .stopped }
  | _, _ => none

/-- The line returns to MANUAL with the string, the manual dose and the counters cleared (R147 step 3). -/
def backToManual (s : State) : State :=
  s.modLine fun l =>
    { l with stage := .manual, string := none, dose := none, ml := 0, pulses := 0, doses := 0, doseMl := 0,
             timer := 0 }

/-- The watering's hand-on at the end of CLOSING (R147). -/
def closingEnd (s : State) : State :=
  match s.line.owner with
  | some .round => lineNext (endLineRound s)
  | some (.call c) => lineNext (lineReturn s c (lineResult s))
  | some .host =>
    let s := match formDoseEnd s with
      | some d => handDoseEnd s d
      | none => s
    if s.line.claimEnded then lineNext s else backToManual s
  | none => lineNext s

/-- The line at a Restart (R156). -/
def restartLine (s : State) : State :=
  let host := s.line.owner == some .host
  match s.line.stage with
  | .priming | .dosing | .pause =>
    if host then (closeLine s .stopped).modLine fun l => { l with claimEnded := true }
    else closeLine s .cancelled
  | .closing => if host then s.modLine fun l => { l with claimEnded := true } else s
  | .manual => lineNext s
  | .free => s

/-! ### The flow-stop age -/

/-- The flow-stop age: seconds since the later of the flow reference and this DOSING entry (R141). -/
def flowStopAge (s : State) : Nat :=
  s.base.runSec - max (s.line.flowRef.getD 0) (s.base.runSec - s.line.timer)

/-! ### The commands of this chapter -/

/-- FLOW_PULSE: the filtered level changes to PULSE and the pulse is counted and delivered (R30). -/
def execFlowPulse (s : State) : Host.Outcome State Fault Refusal :=
  if running s && !s.flow.pulse then
    let s :=
      { s with flow :=
          { pulse := true, total := (s.flow.total + 1) % 4294967296, lastPulse := some s.base.runSec } }
    settled (linePulse s)
  else .next s

/-- FLOW_REST (R30). -/
def execFlowRest (s : State) : Host.Outcome State Fault Refusal :=
  .next { s with flow := { s.flow with pulse := false } }

/-- PRIMING_END (R139). -/
def execPrimingEnd (s : State) : Host.Outcome State Fault Refusal :=
  if s.line.stage = .priming ∧ 2 ≤ s.line.timer then settled (enterDosing s) else .next s

/-- The outcome of a failed priming, by the string's probe (R141). -/
def primeOutcome (s : State) : Outcome :=
  match s.line.string with
  | some p => if presents s (.level p) = .inactive then .alreadyFull else .blocked
  | none => .blocked

/-- PRIME_TIMEOUT (R141). -/
def execPrimeTimeout (s : State) : Host.Outcome State Fault Refusal :=
  if s.line.stage = .dosing ∧ s.line.pulses = 0 ∧ s.base.atSecond.primeS ≤ s.line.timer then
    settled (closeLine s (primeOutcome s))
  else .next s

/-- FLOW_STOP (R141). -/
def execFlowStop (s : State) : Host.Outcome State Fault Refusal :=
  if s.line.stage = .dosing ∧ 0 < s.line.pulses ∧ s.base.atSecond.flowStopS ≤ flowStopAge s then
    settled (closeLine s .filled)
  else .next s

/-- PAUSE_END (R142). -/
def execPauseEnd (s : State) : Host.Outcome State Fault Refusal :=
  if s.line.stage = .pause ∧ s.base.atSecond.dosePauseS ≤ s.line.timer then settled (enterDosing s) else .next s

/-- CLOSING_END (R147). -/
def execClosingEnd (s : State) : Host.Outcome State Fault Refusal :=
  if s.line.stage = .closing ∧ 2 ≤ s.line.timer then settled (closingEnd s) else .next s

/-- MANUAL_DOSE_END: a held Manual Dose End is placed (R152). -/
def execManualDoseEnd (s : State) : Host.Outcome State Fault Refusal :=
  match s.line.pendingEnd with
  | some d =>
    if 0 < freePlaces s then
      .next (placeMessage (s.modLine fun l => { l with pendingEnd := none }) (doseEndFrame d))
    else .next s
  | none => .next s

end Sys2Proof.Machine
end

