-- ==== Sys2Proof/Machine/Inputs.lean ====
section
/-! DEFINITION. The Input Conditioner (sections 1.8 to 1.10): the samples, the acceptance, the deliveries to
the consumers, and the re-initialisation of a group at a polarity change. -/

namespace Sys2Proof.Machine

/-- A sample appended to a history of at most three (R11). -/
def appendSample (h : List Level) (l : Level) : List Level := (h.drop (h.length - 2)) ++ [l]

/-- The level three equal samples agree on (R12). -/
def agreed : List Level → Option Level
  | [a, b, c] => if a = b ∧ b = c then some a else none
  | _ => none

/-- The presented state of an accepted level under a polarity (R9). -/
def presentedOf : Polarity → Level → Presented
  | .activeHigh, .high | .activeLow, .low => .active
  | .activeHigh, .low | .activeLow, .high => .inactive

/-- A filter record that accepts a level (R12). -/
def Filter.accept (f : Filter) (l : Level) : Filter :=
  { f with accepted := some l, captured := some l, presented := presentedOf f.polarity l, reacquiring := false }

/-- A filter record after a sample, with the delivery it makes (R11, R12). -/
def Filter.sample (f : Filter) (l : Level) : Filter × Option DeliveryKind :=
  let f := { f with history := appendSample f.history l }
  match agreed f.history with
  | none => (f, none)
  | some v =>
    if f.accepted = some v then (f, none)
    else (f.accept v, some (if f.reacquiring then .reacquired else .edge))

/-- A filter record re-initialised at a polarity change (R16). -/
def Filter.reinit (f : Filter) (p : Polarity) : Filter :=
  { f with polarity := p, history := [], accepted := none, reacquiring := true }

/-- Re-initialise the filter records of the groups whose polarity two settings values give differently (R16). -/
def changePolarity (s : State) (old new : Nat) : State :=
  InputId.all.foldl
    (fun s i =>
      if old.testBit i.group = new.testBit i.group then s
      else { s with inp := s.inp.set i ((s.inp.get i).reinit (polarityOf new i.group)) }) s

/-- A delivery reaches its consumers (R13, R14), in the order String Table, channel, line, Site Permissions;
the reserve test and the evaluation follow at the settling. -/
def deliver (s : State) (i : InputId) (k : DeliveryKind) : State :=
  let captured := (s.inp.get i).captured
  match i with
  | .kf p => (channelFeedback (stringKf s p) p .kf captured).wantAdmission
  | .ke p => (channelFeedback (stringKe s p) p .ke captured).wantAdmission
  | .ks p => channelFeedback s p .ks captured
  | .level p => levelDelivered s p k
  | .genRun => recomputeSurplus s
  | .h2Alarm => h2Delivered s
  | .resLow => (lineResLow s).wantAdmission

/-- One input's sample, with the acceptance and the delivery it makes (R11, R12). -/
def sampleInput (s : State) (i : InputId) (l : Level) : State :=
  let r := (s.inp.get i).sample l
  let s := { s with inp := s.inp.set i r.1 }
  match r.2 with
  | some k => settle (deliver s i k)
  | none => s

/-- The level a sample instant gives the input of an order number (R8). -/
def levelAt (levels : BitVec 35) (n : Nat) : Level := if levels.getLsbD n then .high else .low

/-- The samples of an instant, input by input in the order of R8. -/
def sampleInputs (levels : BitVec 35) : Nat → List InputId → State → State
  | _, [], s => s
  | n, i :: l, s => sampleInputs levels (n + 1) l (sampleInput s i (levelAt levels n))

/-- The timer base at a sample instant: 100 ms after the one before (R11). -/
def sampleTick (s : State) : State :=
  let s := atLeastMs s s.base.sampleAt
  { s with base := { s.base with sampleAt := s.base.sampleAt + 100 } }

/-- SAMPLE_INSTANT (R11). -/
def execSampleInstant (levels : BitVec 35) (s : State) : Host.Outcome State Fault Refusal :=
  if running s then .next (sampleInputs levels 0 InputId.all (sampleTick s)) else .next s

end Sys2Proof.Machine
end

