-- ==== Sys2Proof/Machine/Scanner.lean ====
section
/-! DEFINITION. The measuring blocks (chapter 2): slots and scans, the second of the timer base with the
current samples, temperature conversions, and the fan tach. The Flow Counter stands in Machine/Line.lean. -/

namespace Sys2Proof.Machine

/-! ### Scans (R18 to R22) -/

/-- The entry of a cell measurement in mV (R19). -/
def cellEntry (mv : Nat) : CellEntry :=
  if 3000 < mv then { mv := 3000, isOver := true, isOpen := false }
  else { mv := mv, isOver := false, isOpen := decide (mv < 500) }

/-- The extreme of the values from a cell number on, with the lowest-numbered cell holding it, under a test
`better v best` for replacing the best so far (R20). -/
def extreme (better : Nat → Nat → Bool) : Nat → List CellEntry → Nat × Nat → Nat × Nat
  | _, [], best => best
  | n, e :: l, best => extreme better (n + 1) l (if better e.mv best.1 then (e.mv, n) else best)

/-- The first cell's value, from which the extremes are sought. -/
def firstCell (l : List CellEntry) : Nat × Nat := ((l.head?.map (·.mv)).getD 0, 1)

/-- The statistics of a string's entries (R20). -/
def statsOf (l : List CellEntry) : Stats :=
  let sum := (l.map (·.mv)).sum
  let mn := extreme (fun v b => decide (v < b)) 1 l (firstCell l)
  let mx := extreme (fun v b => decide (b < v)) 1 l (firstCell l)
  { sum := sum, mean := sum / 24, minMv := mn.1, minCell := mn.2, maxMv := mx.1, maxCell := mx.2,
    anyOpen := l.any (·.isOpen), anyOver := l.any (·.isOver) }

/-- A string's part of the table after a completed scan (R20). -/
def Scan.complete (old : Scan) (mvs : List Nat) : Scan :=
  let l := mvs.map cellEntry
  { stats := some (statsOf l), cells := l, scanNo := (old.scanNo + 1) % 256 }

/-- The number of cells in a string (2.1 of the overview). -/
def cellsPerString : Nat := 24

/-- SLOT_START (R18). -/
def execSlotStart (s : State) : Host.Outcome State Fault Refusal :=
  if running s then
    let p := s.scan.nextSlot
    let s := atLeastMs s s.base.slotAt
    .next { s with
      base := { s.base with slotAt := s.base.slotAt + 250 }
      scan := { s.scan with nextSlot := p.next, measuring := if fitted s p then some p else none } }
  else .next s

/-- The scan's completion and its delivery (R20, R21). -/
def completeScan (s : State) (p : Pos) (mvs : List Nat) : State :=
  let s := atLeastMs s s.base.slotAt
  let s :=
    { s with scan :=
        { s.scan with
          measuring := none
          strings := s.scan.strings.set p ((s.scan.strings.get p).complete mvs) } }
  channelScan (recomputeSense s p) p

/-- SCAN_COMPLETION (R20). -/
def execScanCompletion (mvs : List Nat) (s : State) : Host.Outcome State Fault Refusal :=
  match s.scan.measuring with
  | some p => if mvs.length = cellsPerString then settled (completeScan s p mvs) else .next s
  | none => .next s

/-! ### The second of the timer base and the current samples (R23) -/

/-- A timer that runs counts a second. -/
def tickTimer (t : Option Nat) : Option Nat := t.map (· + 1)

/-- A context's second (R92): the stage timer, the age and, in HOLD, the hold. -/
def tickContext (st : Stage) (x : Context) : Context :=
  { x with
    stageTimer := x.stageTimer + 1
    ageSec := x.ageSec + 1
    holdSec := if st = .hold then x.holdSec + 1 else x.holdSec }

/-- A call's second (R112). -/
def tickCall (k : Call) : Call := if k.serving then k else { k with waitSec := k.waitSec + 1 }

/-- A channel's second. -/
def tickChannel (ch : Channel) : Channel :=
  { ch with ctx := ch.ctx.map (tickContext ch.stage), call := ch.call.map tickCall }

/-- Site Permissions' second (R120). -/
def tickPermissions (p : Permissions) : Permissions :=
  { p with
    purge := tickTimer p.purge
    runOn := tickTimer p.runOn
    lowSpeed := tickTimer p.lowSpeed
    recovery := tickTimer p.recovery
    grace := tickTimer p.grace }

/-- A second of the timer base, everywhere it is counted. What it makes due is taken by the steps of the
table's timed rows (assumption 1). -/
def tickSecond (s : State) : State :=
  let n := s.base.runSec + 1
  let s := atLeastMs s (1000 * n)
  { s with
    base := { s.base with runSec := n, minuteSec := s.base.minuteSec + 1, atSecond := s.cfg }
    clock := { s.clock with count := (s.clock.count + 1) % 4294967296 }
    sit := Eight.of fun p =>
      if fitted s p then { s.sit.get p with hourSec := (s.sit.get p).hourSec + 1 } else s.sit.get p
    supply := if 0 < s.supply.grantMin then { s.supply with grantSec := s.supply.grantSec + 1 } else s.supply
    chan := ⟨tickChannel s.chan.a, tickChannel s.chan.b⟩
    held := { s.held with entries := s.held.entries.map fun h => { h with ctx := { h.ctx with ageSec := h.ctx.ageSec + 1 } } }
    perm := tickPermissions s.perm
    line := { s.line with timer := s.line.timer + 1 } }

/-- A current record from a measurement in 0.1 A (R23). -/
def currentRec (dA : Int) : CurrentRec :=
  { amps := clampInt (-2000) 2000 dA, clamped := decide (2000 < dA ∨ dA < -2000) }

/-- The current samples and their deliveries: the String Table, then the channels (R23). DESIGN CHOICE
(assumption 24): the throughput additions of R56, each with its DUE evaluation, are made in position order, and
the charge of channel A is integrated before that of channel B. -/
def sampleCurrents (s : State) (measured : Eight Int) : State :=
  let rec' := Eight.of fun p => currentRec (measured.get p)
  let amps : Eight Int := Eight.of fun p => (rec'.get p).amps
  let s := { s with scan := { s.scan with currents := Eight.of fun p => some (rec'.get p) } }
  let s := Pos.all.foldl (fun s p => throughputAdd s p (amps.get p)) s
  chargeSample (chargeSample s .a amps) .b amps

/-- CURRENT_SAMPLE: a second of the timer base, then the samples (R23). DESIGN CHOICE (assumption 23): the sample
that arrives together with a stage change (R49), a window's end (R50) or a finished equalise (R56) of the same
second is taken first, of the two orders those rules allow, since the rows that make them act only after this
command has counted the second. For the same reason a finish by AH_LIMIT, which this command makes, comes before the
hour rollover of its string (R55) and every other timed row of that second. -/
def execCurrentSample (measured : Eight Int) (s : State) : Host.Outcome State Fault Refusal :=
  if running s then settled (sampleCurrents (tickSecond s) measured) else .next s

/-! ### Conversions (R25 to R28) -/

/-- The channel converted after one (R25). -/
def TempCh.after : TempCh → TempCh
  | .pilot .p8 => .ambient
  | .pilot p => .pilot p.next
  | .ambient => .pilot .p1

/-- A pilot's completion and its deliveries: Setpoint Unit, String Table, channel, Round Admission (R27). DESIGN
CHOICE (assumption 27): the recomputation and what it writes to the channel's demand come before the channel's pilot
tests, of the two orders R47 allows, which the final cell demand of a round that a test aborts shows. -/
def completePilot (s : State) (p : Pos) (nTh nRef : Nat) : State :=
  let s :=
    { s with temps :=
        { s.temps with pilots := s.temps.pilots.set p (convert (s.temps.pilots.get p) nTh nRef) } }
  (channelPilot (recomputeSense (recomputeComp s p) p) p).wantAdmission

/-- TA concerns a position whose source after the new choice is AMBIENT or DEFAULT, or was AMBIENT (R43). -/
def ambientConcerns (s : State) (p : Pos) : Bool :=
  ((chooseTemp s p).2 != .pilot) || ((s.comp.get p).source == .ambient)

/-- TA's completion, and the cycle end (R27, R28, R48). -/
def completeAmbient (s : State) (nTh nRef : Nat) : State :=
  let s := { s with temps := { s.temps with ambient := convert s.temps.ambient nTh nRef } }
  let s := Pos.all.foldl (fun s p => if ambientConcerns s p then recomputeComp s p else s) s
  let s := computeFloat s
  { s with temps := { s.temps with cycleEnded := true } }

/-- The timer base at a conversion's completion: 400 ms after the one before, 800 ms after TA's (R25). -/
def conversionTick (s : State) : State :=
  let s := atLeastMs s s.base.convAt
  { s with
    base := { s.base with convAt := s.base.convAt + (if s.temps.next = .ambient then 800 else 400) }
    temps := { s.temps with next := s.temps.next.after } }

/-- CONVERSION_COMPLETION (R26): the counter stops at 1,048,575 (R25). -/
def execConversionCompletion (gateTh gateRef : Nat) (s : State) : Host.Outcome State Fault Refusal :=
  if running s then
    let nTh := min gateTh Config.gateStop
    let nRef := min gateRef Config.gateStop
    let t := conversionTick s
    match s.temps.next with
    | .pilot p => settled (completePilot t p nTh nRef)
    | .ambient => settled (completeAmbient t nTh nRef)
  else .next s

/-! ### The fan tach (R32, R33) -/

/-- TACH_EDGE (R32). -/
def execTachEdge (atMicros : Nat) (s : State) : Host.Outcome State Fault Refusal :=
  if running s then
    match s.tach.reference with
    | none => .next { s with tach := { s.tach with reference := some atMicros } }
    | some r =>
      if atMicros < r + 500 then .next s
      else
        let period := atMicros - r
        let rpm := 30000000 / period
        settled (speedDelivered
          { s with tach := { reference := some atMicros, period := some period, speed := rpm } } rpm)
  else .next s

/-- Two seconds, in microseconds (R33). -/
def tachLimit : Nat := 2000000

/-- Two seconds have passed since the edge reference by the next sample instant (R33, assumption 1). -/
def tachDue (s : State) (r : Nat) : Bool := decide (r + tachLimit ≤ 1000 * max s.base.ms s.base.sampleAt)

/-- TACH_TIMEOUT (R33). -/
def execTachTimeout (s : State) : Host.Outcome State Fault Refusal :=
  match s.tach.reference with
  | none => .next s
  | some r =>
    if tachDue s r then
      settled (speedDelivered { s with tach := { reference := none, period := none, speed := 0 } } 0)
    else .next s

end Sys2Proof.Machine
end

