-- ==== Sys2Proof/Machine/Link.lean ====
section
/-! DEFINITION. The Link Port (sections 11.2 and 11.3): the CRC, the frame's bytes, the receive framer, the
taking of a frame with its reply, and the notices that the latches place (section 10.4). -/

namespace Sys2Proof.Machine

/-! ### The CRC and the frame's bytes (R178, R179) -/

/-- One bit of the CRC: polynomial 0x1021, most significant bit first (R179). -/
def crcBit (c : BitVec 16) : BitVec 16 := if c.msb then (c <<< 1) ^^^ 0x1021 else c <<< 1

/-- One byte of the CRC (R179). -/
def crcByte (c : BitVec 16) (b : Byte) : BitVec 16 :=
  crcBit (crcBit (crcBit (crcBit (crcBit (crcBit (crcBit (crcBit (c ^^^ (b.setWidth 16 <<< 8)))))))))

/-- The CRC of a row of bytes, initial value 0xFFFF (R179). -/
def crc16 (l : List Byte) : BitVec 16 := l.foldl crcByte 0xFFFF

/-- A CRC's two bytes, high byte first (R178). -/
def crcBytes (c : BitVec 16) : List Byte := [c.extractLsb' 8 8, c.extractLsb' 0 8]

/-- The LEN of a frame: its bytes from LEN through the last CRC byte (R178). -/
def Frame.len (f : Frame) : Nat := f.body.length + 5

/-- A frame's bytes under its CRC: LEN, TAG, KIND, body (R179). -/
def Frame.checked (f : Frame) : List Byte := BitVec.ofNat 8 f.len :: f.tag :: f.kind :: f.body

/-- The bytes of a frame on the link (R178). -/
def Frame.bytes (f : Frame) : List Byte := 0x7E :: f.checked ++ crcBytes (crc16 f.checked)

/-! ### The receive framer (R180) -/

/-- The framer in HUNT. -/
def Framer.hunting : Framer := { state := .hunt, len := 0, bytes := [] }

/-- Change the framer. -/
def setFramer (s : State) (f : Framer) : State := { s with link := { s.link with framer := f } }

/-- The LINK_ERROR event (R180). -/
def linkError (s : State) (e : LinkFault) : State := s.event .linkError 0 e.detail none

/-- The frame that the bytes after LEN spell. -/
def frameOf : List Byte → Frame
  | tag :: kind :: body => { tag := tag, kind := kind, body := body }
  | _ => { tag := 0, kind := 0, body := [] }

/-- The byte that completes a frame: the CRC is tested, and the frame is appended or dropped (R180). -/
def completeFrame (s : State) (b : Byte) : State :=
  let r := s.link.framer
  let data := r.bytes.take (r.len - 3)
  let received := r.bytes.drop (r.len - 3) ++ [b]
  let s := setFramer s .hunting
  if received ≠ crcBytes (crc16 (BitVec.ofNat 8 r.len :: data)) then linkError s .crc
  else if Config.inboundCap ≤ s.link.inbound.length then linkError s .overrun
  else { s with link := { s.link with inbound := s.link.inbound ++ [frameOf data] } }

/-- A LEN the framer takes (R179). -/
def lenOk (b : Byte) : Bool := decide (5 ≤ b.toNat) && decide (b.toNat ≤ 64)

/-- The framer awaits the second CRC byte. -/
def Framer.awaitsLast (r : Framer) : Bool := (r.state == .check) && decide (r.len - 2 ≤ r.bytes.length)

/-- The framer takes a byte (R180). -/
def framerByte (s : State) (b : Byte) : State :=
  let r := s.link.framer
  match r.state with
  | .hunt => if b = 0x7E then setFramer s { r with state := .length } else s
  | .length =>
    if lenOk b then setFramer s { state := .body, len := b.toNat, bytes := [] }
    else if b = 0x7E then linkError s .length
    else linkError (setFramer s .hunting) .length
  | .body =>
    let l := r.bytes ++ [b]
    setFramer s { r with state := if l.length < r.len - 3 then .body else .check, bytes := l }
  | .check =>
    if r.awaitsLast then completeFrame s b else setFramer s { r with bytes := r.bytes ++ [b] }

/-- RECEIVED_BYTE (R180); before the ready point bytes are discarded (R189). -/
def execReceivedByte (b : Byte) (s : State) : Host.Outcome State Fault Refusal :=
  if s.phase = .ready then .next (framerByte s b) else .next s

/-- FRAME_RECEIVED: the byte that completes a frame (R180). -/
def execFrameReceived (b : Byte) (s : State) : Host.Outcome State Fault Refusal :=
  if s.phase = .ready ∧ s.link.framer.awaitsLast then .next (completeFrame s b) else .next s

/-- MESSAGE_SENT: the head message leaves the Outbound Queue (R181). -/
def execMessageSent (s : State) : Host.Outcome State Fault Refusal :=
  .next { s with link := { s.link with outbound := s.link.outbound.drop 1 } }

/-- NOTICE: the sendable latch of highest priority places its notice (R172). -/
def execNotice (s : State) : Host.Outcome State Fault Refusal :=
  if 0 < freePlaces s then
    match nextSendable s with
    | some c =>
      match s.latches.get c with
      | some d =>
        .next (placeMessage { s with latches := s.latches.set c (some { d with pending := false }) }
          (noticeFrame c d))
      | none => .next s
    | none => .next s
  else .next s

/-! ### Taking a frame and replying (R181, R182) -/

/-- The KIND of the reply to a request's KIND (R182). -/
def replyKind (k : Byte) : Byte := if 128 ≤ k.toNat then 0xFF else k + 0x80

/-- The reply to a request: status, qualifier, payload (R178, R182). -/
def replyFrame (f : Frame) (st : Status) (qualifier : Nat) (payload : List Byte) : Frame :=
  { tag := f.tag, kind := replyKind f.kind, body := u8 st.code ++ u8 qualifier ++ payload }

/-- Place a reply with its payload. -/
def reply (s : State) (f : Frame) (st : Status) (payload : List Byte) : State :=
  placeMessage s (replyFrame f st 0 payload)

/-- Place a reply that is REFUSED with a reason (R178). -/
def refuse (s : State) (f : Frame) (r : Reason) : State := placeMessage s (replyFrame f .refused r.code [])

/-- The head frame of the Inbound Queue that may be taken now: the part is ready and the Outbound Queue has a
free place (R181, R189). -/
def takable (s : State) : Option Frame :=
  if s.phase = .ready ∧ 0 < freePlaces s then s.link.inbound.head? else none

/-- The state once the head frame is taken (R181). -/
def afterTaking (s : State) : State :=
  { s with link := { s.link with inbound := s.link.inbound.drop 1 } }

/-- Serve the head frame of the Inbound Queue if it is a request's own: BUSY while restarting (R190), BAD_FORM
for a body length that does not fit (R182), and otherwise by the request's rule. -/
def serve (s : State) (mine : Frame → Bool) (fits : Nat → Bool) (act : State → Frame → State) :
    Host.Outcome State Fault Refusal :=
  match takable s with
  | none => .next s
  | some f =>
    if mine f then
      if restarting s then .next (reply (afterTaking s) f .busy [])
      else if fits f.body.length then settled (act (afterTaking s) f)
      else .next (reply (afterTaking s) f .badForm [])
    else .next s

/-- Serve a request of one KIND with a body of one length (R178). -/
def serveKind (s : State) (kind : Byte) (length : Nat) (act : State → Frame → State) :
    Host.Outcome State Fault Refusal :=
  serve s (fun f => f.kind == kind) (· == length) act

/-- A KIND listed as a request in section 11.1. -/
def listedKind (k : Byte) : Bool := decide (1 ≤ k.toNat) && decide (k.toNat ≤ 0x1B)

/-- UNKNOWN_KIND (R182). -/
def execUnknownKind (s : State) : Host.Outcome State Fault Refusal :=
  serve s (fun f => !listedKind f.kind) (fun _ => true) fun s f => reply s f .unknown []

end Sys2Proof.Machine
end

