-- ==== Sys2Proof/Machine/Reads.lean ====
section
/-! DEFINITION. The requests that report: Identify, Read Status, Read String, Read Cells, Read Temperatures,
Read Plant, Read Setting, Read Queue, Read Held, Read Weak, Read Conditions. Fields stand in the order of
their rules, with R183's packing where it applies. -/

namespace Sys2Proof.Machine

/-- A stamp: the time, then its clock-valid flag. -/
def stampBytes (t : Stamp) : List Byte := u32 t.time ++ flag t.valid

/-! ### Identify and Read Status (R188) -/

/-- The product text (R188). -/
def productText : List Byte := "TENDRIG 824E".toList.map fun c => BitVec.ofNat 8 c.toNat

/-- IDENTIFY (R188). -/
def execIdentify (s : State) : Host.Outcome State Fault Refusal :=
  serveKind s 0x01 0 fun s f => reply s f .ok (productText ++ u8 1 ++ u8 1 ++ u8 42 ++ u8 64)

/-- The part group of Read Status (R188). DESIGN CHOICE (assumption 25): while no transfer runs, its sent count and
its count left are sent as 0, without a presence byte. -/
def partGroup (s : State) : List Byte :=
  u32 s.clock.count ++ flag s.clock.valid ++ u32 s.base.runSec ++ flag s.store.defaulted
    ++ flag s.store.writeBusy ++ u8 s.link.inbound.length ++ u8 (freePlaces s) ++ u16 s.log.nextSeq
    ++ u8 s.log.ring.length ++ flag s.log.transfer.isSome ++ u8 ((s.log.transfer.map (·.sent)).getD 0)
    ++ u8 ((s.log.transfer.map (·.left)).getD 0)

/-- The number of a waiting step in its stage's table (R94, R114). -/
def stepNumber (st : Stage) (k : Contactor) : Nat :=
  match st, k with
  | .transferBack, .ke => 2
  | .transferBack, _ => 3
  | _, .ks => 2
  | _, .kf => 3
  | _, .ke => 4

/-- The context part of a channel group (R119). -/
def contextGroup (x : Context) : List Byte :=
  posByte x.string ++ u8 x.kind.code ++ [x.tag] ++ u8 x.origin.code ++ u16 x.ageMin ++ u16 x.holdLimit
    ++ u16 x.ahLimit ++ u8 x.k ++ u16 x.holdMin ++ u8 x.winMin ++ u32 x.charge ++ u8 x.flat
    ++ opt 2 u16 x.prevAvg ++ opt 2 u16 x.lastAvg ++ opt 2 u16 x.ceiling ++ i16 x.peak ++ u8 x.susp
    ++ u8 x.weakFound ++ opt 1 (fun o => u8 o.code) x.outcome ++ flag x.settleCut ++ flag x.waterDeferred
    ++ flag x.waterDropped ++ opt 2 Exit.bytes x.exit

/-- The channel group of Read Status (R119). DESIGN CHOICE (assumption 25): the waiting step and its elapsed
milliseconds, which are present together, stand behind one presence byte. -/
def channelGroup (s : State) (c : Ch) : List Byte :=
  let ch := s.chan.get c
  let waiting := ch.wait.map fun w => (stepNumber ch.stage w.contactor, s.base.ms - w.start)
  let demand := s.present.get c
  u8 ch.stage.code ++ opt 3 (fun w => u8 w.1 ++ u16 w.2) waiting ++ u16 demand.code ++ opt 2 u16 demand.cell
    ++ (match ch.stage, ch.ctx with
        | .idle, _ => []
        | _, none => []
        | _, some x => contextGroup x)
    ++ (match ch.stage, ch.call with
        | .water, some k => flag k.serving ++ u16 k.waitSec
        | _, _ => [])

/-- The line group of Read Status (R157). DESIGN CHOICE (assumption 25): the stage timer, for which no rule gives
a range, takes 4 bytes. -/
def lineGroup (s : State) : List Byte :=
  let l := s.line
  let watering := l.stage.watering
  u8 l.stage.code ++ opt 1 (fun o => u8 o.code) l.owner ++ flag l.claimEnded
    ++ opt 1 posByte (if watering then l.string else none)
    ++ opt 2 (fun i : RoundIdentity => [i.tag] ++ u8 i.origin.code) l.identity
    ++ opt 3 (fun d : ManualDose => [d.tag] ++ u16 d.target) l.dose
    ++ u16 l.ml ++ u16 l.pulses ++ u8 l.doses ++ u16 l.doseMl ++ u32 l.timer
    ++ opt 2 u16 (if l.stage = .dosing ∧ 0 < l.pulses then some (flowStopAge s) else none)
    ++ opt 1 (fun o => u8 o.code) (if l.stage = .closing then l.outcome else none)
    ++ u8 l.waiting.length ++ l.waiting.flatMap (fun c => u8 (chCode c)) ++ flag l.pendingEnd.isSome
    ++ u32 s.reservoir.account ++ flag (accountLow s)

/-- Read Status's reply by its selector (R188). -/
def readStatusReply (s : State) (f : Frame) : State :=
  match field f.body 0 1 with
  | 0 => reply s f .ok (partGroup s)
  | 1 => reply s f .ok (channelGroup s .a)
  | 2 => reply s f .ok (channelGroup s .b)
  | 3 => reply s f .ok (lineGroup s)
  | _ => refuse s f .range

/-- READ_STATUS (R188, R119, R157). -/
def execReadStatus (s : State) : Host.Outcome State Fault Refusal := serveKind s 0x02 1 readStatusReply

/-! ### Read String (R68) -/

/-- The payload of Read String (R68). -/
def stringPayload (s : State) (p : Pos) : List Byte :=
  let t := s.sit.get p
  let h := s.hist.get p
  let r := s.comp.get p
  posByte p ++ flag (fitted s p) ++ u8 t.role.code ++ opt 1 (fun i => u8 i.code) t.isolation
    ++ opt 1 (fun a => u8 a.code) t.assigned ++ flag t.onBus ++ u8 (onBusCount s)
    ++ u8 t.senseCell.code ++ u8 t.sensePilot.code ++ flag t.due ++ flag t.levelLow
    ++ u16 h.hours ++ u16 t.hourSec ++ u32 h.throughput ++ opt 5 stampBytes h.lastEq
    ++ opt 1 (fun l => u8 l.code) h.eqLock ++ opt 1 (fun l => u8 l.code) h.waterLock
    ++ opt 6 (fun o => u8 o.kind.code ++ stampBytes o.first) h.roundOpen
    ++ u8 r.source.code ++ u16 r.tc10.toNat ++ u16 r.eqMv ++ u16 r.floatMv

/-- Read String's reply (R68). -/
def readStringReply (s : State) (f : Frame) : State :=
  match Pos.ofNum (field f.body 0 1) with
  | some p => reply s f .ok (stringPayload s p)
  | none => reply s f .notFound []

/-- READ_STRING (R68). -/
def execReadString (s : State) : Host.Outcome State Fault Refusal := serveKind s 0x04 1 readStringReply

/-! ### Read Cells (R34) -/

/-- A cell entry's two bytes (R183). -/
def cellBytes (e : CellEntry) : List Byte := u16 (e.mv + bit e.isOver 14 + bit e.isOpen 15)

/-- The statistics fields of the summary (R34). -/
def statsBytes (t : Stats) : List Byte :=
  u32 t.sum ++ u16 t.mean ++ u16 t.minMv ++ u8 t.minCell ++ u16 t.maxMv ++ u8 t.maxCell ++ flag t.anyOpen
    ++ flag t.anyOver

/-- The payload of Read Cells: view 0 CELLS, view 1 SUMMARY (R34). -/
def cellsPayload (s : State) (p : Pos) (summary : Bool) : List Byte :=
  let t := s.scan.strings.get p
  posByte p ++ u8 (if summary then 1 else 0) ++ u8 t.scanNo ++ flag t.stats.isSome
    ++ (match t.stats with
        | none => []
        | some v => if summary then statsBytes v else t.cells.flatMap cellBytes)
    ++ (if summary then
          opt 3 (fun r : CurrentRec => i16 r.amps ++ flag r.clamped) (s.scan.currents.get p)
        else [])

/-- Read Cells' reply (R34). -/
def readCellsReply (s : State) (f : Frame) : State :=
  match Pos.ofNum (field f.body 0 1) with
  | none => reply s f .notFound []
  | some p =>
    if fitted s p then
      match field f.body 1 1 with
      | 0 => reply s f .ok (cellsPayload s p false)
      | 1 => reply s f .ok (cellsPayload s p true)
      | _ => refuse s f .range
    else reply s f .notFound []

/-- READ_CELLS (R34). -/
def execReadCells (s : State) : Host.Outcome State Fault Refusal := serveKind s 0x05 2 readCellsReply

/-! ### Read Temperatures (R35, R36) -/

/-- A channel entry of the summary (R183). -/
def tempEntry (r : TempRec) : List Byte :=
  u8 (r.state.code + bit r.reading.isSome 2 + 8 * r.clamp.code) ++ i16 (r.reading.getD 0)

/-- The seconds since the last pulse, at most 65,535 (R31, R35). -/
def sincePulse (s : State) : Option Nat := s.flow.lastPulse.map fun t => min Config.max16 (s.base.runSec - t)

/-- The counters group (R35, R183). -/
def countersGroup (s : State) : List Byte :=
  u8 (bit (sincePulse s).isSome 0 + bit s.tach.period.isSome 1) ++ u32 s.flow.total
    ++ u16 ((sincePulse s).getD 0) ++ u16 s.tach.speed ++ u32 (s.tach.period.getD 0)

/-- The summary (R35). -/
def temperaturesPayload (s : State) : List Byte :=
  Pos.all.flatMap (fun p => tempEntry (s.temps.pilots.get p)) ++ tempEntry s.temps.ambient ++ countersGroup s

/-- A channel's whole record (R36). -/
def tempDetail (r : TempRec) : List Byte :=
  opt 4 u32 r.nTh ++ opt 4 u32 r.nRef ++ u8 r.state.code ++ opt 2 i16 r.reading ++ u8 r.clamp.code
    ++ u8 r.convNo

/-- The record a selector 1..9 asks for (R36). -/
def tempOf (s : State) (sel : Nat) : TempRec :=
  match Pos.ofNum sel with
  | some p => s.temps.pilots.get p
  | none => s.temps.ambient

/-- A Read Temperatures frame that asks for one channel's detail: selectors 1..9 (R36). -/
def asksDetail (f : Frame) : Bool :=
  (f.body.length == 1) && decide (1 ≤ field f.body 0 1) && decide (field f.body 0 1 ≤ 9)

/-- READ_TEMPERATURES: every frame of its KIND but those that ask for a detail (R35). -/
def execReadTemperatures (s : State) : Host.Outcome State Fault Refusal :=
  serve s (fun f => (f.kind == 0x06) && !asksDetail f) (· == 1) fun s f =>
    if field f.body 0 1 = 0 then reply s f .ok (temperaturesPayload s) else refuse s f .range

/-- READ_TEMPERATURE_DETAIL (R36). -/
def execReadTemperatureDetail (s : State) : Host.Outcome State Fault Refusal :=
  serve s (fun f => (f.kind == 0x06) && asksDetail f) (· == 1) fun s f =>
    reply s f .ok (tempDetail (tempOf s (field f.body 0 1)))

/-! ### Read Plant (R7) -/

/-- A string position's byte of flags (R183). -/
def plantByte (s : State) (p : Pos) : List Byte :=
  u8 (bit (fitted s p) 0 + bit (s.out.kf.get p == .opened) 1 + bit (s.out.ke.get p == .closed) 2
    + bit (s.out.ks.get p == .b) 3 + bit (s.out.valve.get p == .opened) 4)

/-- A charger's five bytes (R183). -/
def chargerBytes (g : Charger) : List Byte := flag g.enable ++ u16 g.demand ++ u16 g.limit

/-- A filter record's byte (R183). -/
def filterByte (r : Filter) : List Byte :=
  u8 (((r.accepted.map Level.code).getD 2) + 4 * r.presented.code
    + 16 * ((r.captured.map fun l => l.code + 1).getD 0) + bit r.reacquiring 6)

/-- The payload of Read Plant (R7, R183). -/
def plantPayload (s : State) : List Byte :=
  Pos.all.flatMap (plantByte s) ++ chargerBytes s.out.charger.a ++ chargerBytes s.out.charger.b
    ++ u16 s.out.floatDemand ++ u8 (bit s.out.floatComputed 0 + bit s.out.pump 1 + bit s.out.fan 2)
    ++ InputId.all.flatMap fun i => filterByte (s.inp.get i)

/-- READ_PLANT (R7). -/
def execReadPlant (s : State) : Host.Outcome State Fault Refusal :=
  serveKind s 0x07 0 fun s f => reply s f .ok (plantPayload s)

/-! ### Read Setting (R185) -/

/-- The range Read Setting reports; free for a setting that is a set of bits (assumption 6). -/
def reportedRange (i : SettingId) : Nat × Nat :=
  if i.isSet then (Config.setRangeLow i.id, Config.setRangeHigh i.id) else (i.low, i.high)

/-- Read Setting's reply (R185). -/
def readSettingReply (s : State) (f : Frame) : State :=
  match SettingId.ofId (field f.body 0 1) with
  | none => reply s f .notFound []
  | some i =>
    reply s f .ok
      (u32 (s.cfg.get i) ++ u32 (reportedRange i).1 ++ u32 (reportedRange i).2 ++ u32 (Settings.default.get i))

/-- READ_SETTING (R185). -/
def execReadSetting (s : State) : Host.Outcome State Fault Refusal := serveKind s 0x09 1 readSettingReply

/-! ### Read Queue (R77) -/

/-- An entry's 17 bytes at a position, with its blocked reason (R183). -/
def entryBytes (s : State) (n : Nat) (e : Entry) : List Byte :=
  u8 n ++ posByte e.string ++ [e.tag] ++ u8 (e.kind.code + bit (e.cls == .routine) 2 + 8 * e.origin.code)
    ++ u8 (bit e.submit.valid 0 + bit e.notBefore.isSome 1 + bit e.holdOverride.isSome 2
        + bit e.ahOverride.isSome 3 + 16 * (entryBlocked s e).code)
    ++ u32 e.submit.time ++ u32 (e.notBefore.getD 0) ++ u16 (e.holdOverride.getD 0) ++ u16 (e.ahOverride.getD 0)

/-- Each element of a list with its position, counted from a number on. -/
def numbered {α : Type} : Nat → List α → List (Nat × α)
  | _, [] => []
  | n, a :: l => (n, a) :: numbered (n + 1) l

/-- Up to `count` elements from a position on, with their positions. -/
def window {α : Type} (l : List α) (first count : Nat) : List (Nat × α) :=
  numbered first ((l.drop (first - 1)).take count)

/-- The payload of Read Queue from a first position (R77, R183). -/
def queuePayload (s : State) (first : Nat) : List Byte :=
  u8 s.queue.gen ++ u8 s.queue.entries.length
    ++ u8 ((presents s .genRun).code + bit s.supply.surplus 2) ++ u16 s.supply.grantMin
    ++ (window s.queue.entries first 3).flatMap fun e => entryBytes s e.1 e.2

/-- READ_QUEUE (R77). -/
def execReadQueue (s : State) : Host.Outcome State Fault Refusal :=
  serveKind s 0x0C 1 fun s f =>
    let first := field f.body 0 1
    if 1 ≤ first ∧ first ≤ Config.queueCap then reply s f .ok (queuePayload s first) else refuse s f .range

/-! ### Read Held (R134, R135) -/

/-- A running timer's remaining seconds (R134). DESIGN CHOICE (assumption 26): 0 while its elapsed seconds stand
above a setting that was lowered and it has not yet expired. -/
def remaining (limit : Nat) (t : Option Nat) : Option Nat := t.map (limit - ·)

/-- The permissions group (R134). -/
def permissionsGroup (s : State) : List Byte :=
  u8 (presents s .h2Alarm).code ++ flag s.perm.h2Active ++ opt 2 u16 (remaining (s.cfg.purgeMin * 60) s.perm.purge)
    ++ opt 2 u16 (remaining (s.cfg.supplyGraceMin * 60) s.perm.grace) ++ flag s.perm.ventFailed
    ++ flag s.perm.fan ++ u16 s.perm.speed ++ u8 s.perm.gassing ++ u8 (committedGassing s)
    ++ flag s.perm.breach ++ u8 (onBusCount s)

/-- A held context's line of the summary (R134). -/
def heldLine (s : State) (n : Nat) (h : Held) : List Byte :=
  u8 n ++ posByte h.ctx.string ++ u8 h.ctx.kind.code ++ u8 h.ctx.susp ++ u8 h.cause.code ++ u16 h.ctx.ageMin
    ++ u8 (heldBlocked s h).code

/-- The summary of Read Held (R134). -/
def heldPayload (s : State) : List Byte :=
  permissionsGroup s ++ u8 s.held.gen ++ u8 s.held.entries.length
    ++ (numbered 1 s.held.entries).flatMap fun h => heldLine s h.1 h.2

/-- The detail of a held context (R135). -/
def heldDetail (s : State) (h : Held) : List Byte :=
  let x := h.ctx
  u8 s.held.gen ++ posByte x.string ++ u8 x.kind.code ++ [x.tag] ++ u8 x.origin.code ++ stampBytes x.first
    ++ stampBytes h.since ++ u8 h.cause.code ++ u16 x.ageMin ++ u8 x.susp ++ u16 x.holdLimit ++ u16 x.ahLimit
    ++ u16 x.holdMin ++ u32 x.charge ++ opt 2 u16 x.lastAvg ++ opt 2 u16 x.ceiling ++ opt 2 u16 x.finalCell
    ++ i16 x.peak ++ u8 x.weakFound ++ u8 (heldBlocked s h).code

/-- A Read Held frame that asks for one context's detail: selectors 1..4 (R135). -/
def asksHeldDetail (f : Frame) : Bool :=
  (f.body.length == 1) && decide (1 ≤ field f.body 0 1) && decide (field f.body 0 1 ≤ 4)

/-- READ_HELD: every frame of its KIND but those that ask for a detail (R134). -/
def execReadHeld (s : State) : Host.Outcome State Fault Refusal :=
  serve s (fun f => (f.kind == 0x0D) && !asksHeldDetail f) (· == 1) fun s f =>
    if field f.body 0 1 = 0 then reply s f .ok (heldPayload s) else refuse s f .range

/-- READ_HELD_DETAIL (R135). -/
def execReadHeldDetail (s : State) : Host.Outcome State Fault Refusal :=
  serve s (fun f => (f.kind == 0x0D) && asksHeldDetail f) (· == 1) fun s f =>
    match s.held.entries[field f.body 0 1 - 1]? with
    | some h => reply s f .ok (heldDetail s h)
    | none => reply s f .notFound []

/-! ### Read Weak (R168) -/

/-- An entry's fields at a position (R168). -/
def weakBytes (n : Nat) (e : WeakEntry) : List Byte :=
  u8 n ++ posByte e.string ++ u8 e.cell ++ stampBytes e.first ++ u16 e.deficit ++ u8 e.windows

/-- The payload of Read Weak from a first position (R168). -/
def weakPayload (s : State) (first : Nat) : List Byte :=
  u8 s.weak.gen ++ u8 s.weak.entries.length
    ++ (window s.weak.entries first 4).flatMap fun e => weakBytes e.1 e.2

/-- READ_WEAK (R168). -/
def execReadWeak (s : State) : Host.Outcome State Fault Refusal :=
  serveKind s 0x13 1 fun s f =>
    let first := field f.body 0 1
    if 1 ≤ first ∧ first ≤ Config.weakCap then reply s f .ok (weakPayload s first) else refuse s f .range

/-! ### Read Conditions (R176) -/

/-- A condition's two bytes of the summary (R183). -/
def latchSummary (s : State) (c : Condition) : List Byte :=
  let l := s.latches.get c
  u8 (bit l.isSome 0 + bit ((l.map (·.pending)).getD false) 1 + bit (enabled s c) 2
    + 16 * ((l.map (·.string)).getD 0)) ++ u8 ((l.map (·.again)).getD 0)

/-- A condition's whole latch record (R176). DESIGN CHOICE (assumption 25): of the fields that R170 calls absent
while the latch is clear, the captured level and the time carry a presence byte, and the detail string and the
value are sent as 0 without one; the enable of a non-maskable condition, which R170 does not give it, is sent as
set, without a presence byte. -/
def latchDetail (s : State) (c : Condition) : List Byte :=
  let l := s.latches.get c
  flag l.isSome ++ u8 ((l.map (·.string)).getD 0) ++ u16 ((l.map (·.value)).getD 0)
    ++ opt 1 (fun v : Level => u8 v.code) (l.bind (·.captured)) ++ opt 5 stampBytes (l.map (·.time))
    ++ u8 ((l.map (·.again)).getD 0) ++ flag ((l.map (·.pending)).getD false) ++ flag (enabled s c)

/-- The condition with a number, absent outside 1..16. -/
def Condition.ofNum (n : Nat) : Option Condition := if n = 0 then none else Condition.all[n - 1]?

/-- READ_CONDITIONS (R176). -/
def execReadConditions (s : State) : Host.Outcome State Fault Refusal :=
  serveKind s 0x17 1 fun s f =>
    let sel := field f.body 0 1
    if sel = 0 then reply s f .ok (flag s.master ++ Condition.all.flatMap (latchSummary s))
    else
      match Condition.ofNum sel with
      | some c => reply s f .ok (latchDetail s c)
      | none => refuse s f .range

end Sys2Proof.Machine
end

