-- ==== Sys2Proof/Machine/Requests.lean ====
section
/-! DEFINITION. The requests that change the part: the clock, settings, rounds, supply, the host's use of the
line, refills, the weak cell list, locks, notices, conditions and the log transfer. -/

namespace Sys2Proof.Machine

/-! ### The Site Clock (R187) -/

/-- SET_CLOCK (R187). -/
def execSetClock (s : State) : Host.Outcome State Fault Refusal :=
  serveKind s 0x03 4 fun s f =>
    reply { s with clock := { count := field f.body 0 4, valid := true } } f .ok
      (u32 s.clock.count ++ flag s.clock.valid)

/-! ### Settings (R184, R185) -/

/-- The bits of a value that a set-valued setting does not define are clear (R185 test 3); the bits of
conditions 1 to 3 of NOTICE_ENABLES are ignored. -/
def definedBits (i : SettingId) (v : Nat) : Bool :=
  match i with
  | .fitted => decide (v < 256)
  | .noticeEnables => decide (v < 65536)
  | .polarity => decide (v < 128)
  | .autoQueue => decide (v ≤ 1)
  | _ => true

/-- The value a setting takes for a value sent: the nearer bound of a numeric range, and for NOTICE_ENABLES
the value with the bits of conditions 1 to 3, which are ignored, as 0 (R185, assumption 13). -/
def settingValue (i : SettingId) (v : Nat) : Nat :=
  match i with
  | .fitted | .polarity => v
  | .noticeEnables => v - v % 8
  | _ => clampNat i.low i.high v

/-- The value sent is clamped: a numeric value outside its range (R185). -/
def settingClamped (i : SettingId) (v : Nat) : Bool := !i.isSet && (settingValue i v != v)

/-- A removal of the new set names a position that is not FLOAT (R67). -/
def engagedRemoval (s : State) (v : Nat) : Bool :=
  Pos.all.any fun p => fitted s p && !inSet v p && ((s.sit.get p).role != .float)

/-- Why a Set Setting with a known id is refused, by R185's tests 3 and 4 and R67. -/
def settingRefusal (s : State) (i : SettingId) (v : Nat) : Option Reason :=
  if !definedBits i v then some .range
  else if i = .fitted then
    if v = 0 then some .range else if engagedRemoval s v then some .engaged else none
  else none

/-- Replace a working value (R185). -/
def setWorking (s : State) (i : SettingId) (v : Nat) : State :=
  { s with store := { s.store with working := s.store.working.set i v } }

/-- The setpoint settings recompute all eight records, and the float demand once it has been computed (R43,
R48). -/
def setpointsChanged (s : State) (floatToo : Bool) : State :=
  let s := Pos.all.foldl recomputeComp s
  if floatToo && s.out.floatComputed then computeFloat s else s

/-- The stages in which a change of EQ_ILIMIT is written (R46). -/
def limitChanged (s : State) : State :=
  [Ch.a, Ch.b].foldl (fun s c => if (s.chan.get c).stage.tested then setLimit s c (limitCode s) else s) s

/-- A lowering of FLAT_COUNT at the channels in HOLD (R52). -/
def flatCountChanged (s : State) : State :=
  [Ch.a, Ch.b].foldl
    (fun s c =>
      if inHold s c then
        s.modCtx c fun x => { x with flat := if s.cfg.flatCount ≤ x.flat then s.cfg.flatCount - 1 else x.flat }
      else s) s

/-- The blocks act on a changed working value, each by its own chapter (R185). -/
def applySetting (s : State) (i : SettingId) (v : Nat) : State :=
  let old := s.cfg.get i
  match i with
  | .fitted => changeFitted s v
  | .reserve => (setWorking s i v).wantReserve.wantAdmission
  | .eqCellMv => setpointsChanged (setWorking s i v) false
  | .floatCellMv | .tcomp | .compLo | .compHi => setpointsChanged (setWorking s i v) true
  | .eqIlimit => limitChanged (setWorking s i v)
  | .flatCount => flatCountChanged (setWorking s i v)
  | .suspendMax => suspendMaxLowered (setWorking s i v)
  | .ventMaxGassing | .tempStartMax | .doseMl => (setWorking s i v).wantAdmission
  | .fanMinRpm => ventMonitor (setWorking s i v)
  | .reservoirCapMl => setAccount (setWorking s i v) (min s.reservoir.account v)
  | .reservoirLowMl => reservoirTest (setWorking s i v)
  | .dueDays | .dueAh => dueEvaluateAll (setWorking s i v)
  | .polarity => changePolarity (setWorking s i v) old v
  | .rampStepMv | .rampStepMin | .flatWindowMin | .flatDelta | .eqMaxHoldMin | .eqMaxAh | .settleMin
  | .tempAbort | .runawayDt | .cellMaxMv | .weakMv | .roundSpanH | .supplyGraceMin | .purgeMin
  | .contactorMs | .flowMlPerPulse | .dosePauseS | .primeS | .flowStopS | .waterMaxMl | .pumpWaitMin
  | .autoQueue | .noticeEnables => setWorking s i v

/-- The write of the whole store begins (R185); until it ends, a loss of power leaves the checksum not
matching (R186). -/
def startWrite (s : State) : State := { s with store := { s.store with writeBusy := true, checksumOk := false } }

/-- A Set Setting that passes its tests (R185). -/
def acceptSetting (s : State) (f : Frame) (i : SettingId) (v : Nat) : State :=
  let w := settingValue i v
  let st : Status := if settingClamped i v then .clamped else .ok
  let s := { s with store := { s.store with defaulted := false } }
  let s := if w = s.cfg.get i then s else startWrite (applySetting s i w)
  reply s f st (u32 w)

/-- Set Setting's service (R185). -/
def serveSetSetting (s : State) (f : Frame) : State :=
  let v := field f.body 1 4
  match SettingId.ofId (field f.body 0 1) with
  | none => reply s f .notFound []
  | some i =>
    if s.store.writeBusy then reply s f .storeBusy []
    else
      match settingRefusal s i v with
      | some r => refuse s f r
      | none => acceptSetting s f i v

/-- SET_SETTING (R185). -/
def execSetSetting (s : State) : Host.Outcome State Fault Refusal := serveKind s 0x08 5 serveSetSetting

/-- The store as a completed write leaves it (R185). -/
def finishWrite (s : State) : State :=
  { s with store := { s.store with stored := s.store.working, checksumOk := true, writeBusy := false } }

/-- STORE_WRITE_END (R185). -/
def execStoreWriteEnd (s : State) : Host.Outcome State Fault Refusal :=
  if s.store.writeBusy then .next (finishWrite s) else .next s

/-! ### Submit Round and Cancel Round (R73, R74, R76) -/

/-- The fields of a Submit Round body (R178). -/
structure Submission where
  kind : Option Kind
  cls : Option RoundClass
  string : Option Pos
  notBefore : Option Nat
  holdOverride : Option Nat
  ahOverride : Option Nat
  deriving DecidableEq, Repr

/-- Read a Submit Round body (R178). -/
def readSubmission (b : List Byte) : Submission :=
  let presence := field b 3 1
  { string := Pos.ofNum (field b 0 1), kind := Kind.ofCode (field b 1 1), cls := RoundClass.ofCode (field b 2 1),
    notBefore := if presence.testBit 0 then some (field b 4 4) else none,
    holdOverride := if presence.testBit 1 then some (field b 8 2) else none,
    ahOverride := if presence.testBit 2 then some (field b 10 2) else none }

/-- A hold limit override within 60..1440 (R73). -/
def clampHold (v : Nat) : Nat := clampNat 60 1440 v

/-- An Ah limit override within 10..500 (R73). -/
def clampAh (v : Nat) : Nat := clampNat 10 500 v

/-- An override was clamped (R74). -/
def overridesClamped (b : Submission) : Bool :=
  (b.holdOverride.map clampHold != b.holdOverride) || (b.ahOverride.map clampAh != b.ahOverride)

/-- The place of an entry in the queue, counted from 1 (R71). -/
def positionOf (q : List Entry) (e : Entry) : Nat := q.findIdx (· == e) + 1

/-- The entry that an accepted Submit Round places (R74). -/
def submitted (s : State) (f : Frame) (b : Submission) (k : Kind) (c : RoundClass) (p : Pos) : Entry :=
  { tag := f.tag, kind := k, string := p, cls := c, origin := .request, submit := s.stamp,
    notBefore := b.notBefore, holdOverride := b.holdOverride.map clampHold,
    ahOverride := b.ahOverride.map clampAh }

/-- The reply's payload: the position, and for the equalise kinds the stored overrides (R74). -/
def submitPayload (q : List Entry) (e : Entry) : List Byte :=
  u8 (positionOf q e) ++ (if e.kind.equalises then opt 2 u16 e.holdOverride ++ opt 2 u16 e.ahOverride else [])

/-- The tests of R74, in order, and the placing. -/
def submitTests (s : State) (f : Frame) (b : Submission) (k : Kind) (c : RoundClass) (p : Pos) : State :=
  if !fitted s p then reply s f .notFound []
  else
    match place s p with
    | some pl => placeMessage s (replyFrame f .duplicate pl.code [])
    | none =>
      if lockedFor s p k then refuse s f .locked
      else if b.notBefore.isSome && !s.clock.valid then reply s f .noClock []
      else if Config.queueCap ≤ s.queue.entries.length then reply s f .full []
      else
        let e := submitted s f b k c p
        let s := placeEntry s e
        reply s f (if overridesClamped b then .clamped else .ok) (submitPayload s.queue.entries e)

/-- Submit Round's service: the form checks of R73, then the tests of R74. -/
def serveSubmitRound (s : State) (f : Frame) : State :=
  let b := readSubmission f.body
  match b.kind, b.cls with
  | some k, some c =>
    if (k == .water) && (b.holdOverride.isSome || b.ahOverride.isSome) then refuse s f .range
    else if f.tag = 0 then refuse s f .range
    else
      match b.string with
      | none => reply s f .notFound []
      | some p => submitTests s f b k c p
  | _, _ => refuse s f .range

/-- SUBMIT_ROUND (R73, R74). -/
def execSubmitRound (s : State) : Host.Outcome State Fault Refusal := serveKind s 0x0A 12 serveSubmitRound

/-- A Cancel Round reply: status with the place (R76, R178). -/
def cancelReply (s : State) (f : Frame) (st : Status) (pl : Place) : State :=
  placeMessage s (replyFrame f st pl.code [])

/-- Cancel a round on a channel (R107). -/
def cancelOnChannel (s : State) (f : Frame) (c : Ch) : State :=
  match (s.chan.get c).stage with
  | .transferBack | .idle => cancelReply s f .ending .activeChannel
  | .transferOut | .ramp | .hold | .settle | .water =>
    readingCause (cancelReply s f .ok .activeChannel) c .cancelled

/-- Cancel a standalone watering (R146). -/
def cancelOnLine (s : State) (f : Frame) : State :=
  if s.line.stage.dispensing then closeLine (cancelReply s f .ok .activeLine) .cancelled
  else cancelReply s f .ending .activeLine

/-- Cancel a held round (R133). -/
def cancelHeld (s : State) (f : Frame) (p : Pos) : State :=
  let s := cancelReply s f .ok .held
  match heldOf s p with
  | some h => endHeld s h .cancelled
  | none => s

/-- Cancel Round's service (R76). -/
def serveCancelRound (s : State) (f : Frame) : State :=
  match Pos.ofNum (field f.body 0 1) with
  | none => reply s f .notFound []
  | some p =>
    match place s p with
    | none => reply s f .notFound []
    | some .queued => removeEntries (cancelReply s f .ok .queued) p
    | some .held => cancelHeld s f p
    | some .activeChannel =>
      match holder s p with
      | some c => cancelOnChannel s f c
      | none => s
    | some .activeLine => cancelOnLine s f

/-- CANCEL_ROUND (R76, R107, R133, R146). -/
def execCancelRound (s : State) : Host.Outcome State Fault Refusal := serveKind s 0x0B 1 serveCancelRound

/-! ### Supply (R79) -/

/-- The largest grant in minutes (R78). -/
def grantMax : Nat := 720

/-- Supply Grant's service (R79). -/
def serveSupplyGrant (s : State) (f : Frame) : State :=
  let v := field f.body 0 2
  let s := recomputeSurplus { s with supply := { s.supply with grantMin := min v grantMax, grantSec := 0 } }
  reply s f (if grantMax < v then .clamped else .ok)
    (u16 (min v grantMax) ++ u8 (presents s .genRun).code ++ flag s.supply.surplus)

/-- SUPPLY_GRANT (R79). -/
def execSupplyGrant (s : State) : Host.Outcome State Fault Refusal := serveKind s 0x0E 2 serveSupplyGrant

/-! ### The host's use of the line (R149 to R151) -/

/-- Claim Line's service (R149). -/
def serveClaimLine (s : State) (f : Frame) : State :=
  if !h2Clear s then refuse s f .h2
  else if s.line.stage = .free then
    reply (s.modLine fun l => { l with stage := .manual, owner := some .host, timer := 0 }) f .ok
      (u8 LineStage.free.code)
  else
    reply s f .busy
      (u8 s.line.stage.code ++ opt 1 posByte s.line.string ++ opt 1 (fun o => u8 o.code) s.line.owner)

/-- CLAIM_LINE (R149). -/
def execClaimLine (s : State) : Host.Outcome State Fault Refusal := serveKind s 0x0F 0 serveClaimLine

/-- Release Line's service (R150). -/
def serveReleaseLine (s : State) (f : Frame) : State :=
  if !lineClaimed s then refuse s f .notOwner
  else
    let t :=
      match s.line.stage with
      | .manual => lineNext s
      | .closing => s.modLine fun l => { l with claimEnded := true }
      | .priming | .dosing | .pause | .free =>
        (closeLine s .stopped).modLine fun l => { l with claimEnded := true }
    reply t f .ok (u8 t.line.stage.code)

/-- RELEASE_LINE (R150). -/
def execReleaseLine (s : State) : Host.Outcome State Fault Refusal := serveKind s 0x10 0 serveReleaseLine

/-- A manual dose's volume within 100..WATER_MAX_ML (R151). -/
def clampVolume (s : State) (v : Nat) : Nat := clampNat 100 s.cfg.waterMaxMl v

/-- Manual Dose's service (R151). -/
def serveManualDose (s : State) (f : Frame) : State :=
  let v := field f.body 1 2
  match Pos.ofNum (field f.body 0 1) with
  | none => reply s f .notFound []
  | some p =>
    if !lineClaimed s then refuse s f .notOwner
    else if (s.line.stage != .manual) || s.line.pendingEnd.isSome then reply s f .busy (u8 s.line.stage.code)
    else if !h2Clear s then refuse s f .h2
    else if !fitted s p then reply s f .notFound []
    else if (s.hist.get p).waterLock.isSome then refuse s f .locked
    else
      let w := clampVolume s v
      let s := lineTake s .host p none (some { tag := f.tag, target := w })
      reply s f (if w = v then .ok else .clamped) (u16 w)

/-- MANUAL_DOSE (R151). -/
def execManualDose (s : State) : Host.Outcome State Fault Refusal := serveKind s 0x11 3 serveManualDose

/-- Refill's service (R155). -/
def serveRefill (s : State) (f : Frame) : State :=
  let v := field f.body 0 4
  let w := min v s.cfg.reservoirCapMl
  reply (setAccount s w).wantAdmission f (if w = v then .ok else .clamped) (u32 w)

/-- REFILL (R155). -/
def execRefill (s : State) : Host.Outcome State Fault Refusal := serveKind s 0x12 4 serveRefill

/-! ### The Weak Cell List and locks (R169, R65) -/

/-- Clear Weak's service: 0 stands for every string (R169). -/
def serveClearWeak (s : State) (f : Frame) : State :=
  let n := field f.body 0 1
  if 8 < n then refuse s f .range
  else
    let kept := s.weak.entries.filter fun e => !((n == 0) || (e.string.num == n))
    let gone := s.weak.entries.length - kept.length
    reply { s with weak := { entries := kept, gen := (s.weak.gen + gone) % 256 } } f .ok (u8 gone)

/-- CLEAR_WEAK (R169). -/
def execClearWeak (s : State) : Host.Outcome State Fault Refusal := serveKind s 0x14 1 serveClearWeak

/-- Release Lock's service: selector 0 EQ, 1 WATER, 2 BOTH (R65). -/
def serveReleaseLock (s : State) (f : Frame) : State :=
  let sel := field f.body 1 1
  if 2 < sel then refuse s f .range
  else
    match Pos.ofNum (field f.body 0 1) with
    | none => reply s f .notFound []
    | some p =>
      if fitted s p then
        let s := s.modHist p fun h =>
          { h with
            eqLock := if sel = 1 then h.eqLock else none
            waterLock := if sel = 0 then h.waterLock else none }
        let h := s.hist.get p
        reply s f .ok
          (opt 1 (fun l : EqLockReason => u8 l.code) h.eqLock
            ++ opt 1 (fun l : WaterLockReason => u8 l.code) h.waterLock)
      else reply s f .notFound []

/-- RELEASE_LOCK (R65). -/
def execReleaseLock (s : State) : Host.Outcome State Fault Refusal := serveKind s 0x15 2 serveReleaseLock

/-! ### Notices and conditions (R173, R174) -/

/-- Set Notice Master's service (R173). -/
def serveSetNoticeMaster (s : State) (f : Frame) : State :=
  let v := field f.body 0 1
  if 1 < v then refuse s f .range
  else reply { s with master := v == 1 } f .ok (u8 v)

/-- SET_NOTICE_MASTER (R173). -/
def execSetNoticeMaster (s : State) : Host.Outcome State Fault Refusal :=
  serveKind s 0x16 1 serveSetNoticeMaster

/-- The lowest-numbered position with a property. -/
def lowestPos (f : Pos → Bool) : Option Pos := Pos.all.find? f

/-- The number of a position, 0 for none. -/
def posNum (p : Option Pos) : Nat := (p.map Pos.num).getD 0

/-- The lowest-numbered ISOLATED position (R175). -/
def lowestIsolated (s : State) : Option Pos := lowestPos fun p => (s.sit.get p).role == .isolated

/-- The lowest-numbered fitted position with a reading fault (R175). -/
def lowestFaulted (s : State) : Option Pos := lowestPos fun p => fitted s p && readingFault (s.sit.get p)

/-- A re-latch of a level condition whose cause persists, with the detail of R175. -/
def relatch (s : State) (c : Condition) : State :=
  match c with
  | .h2Alarm => s.event c 0 0 s.inp.h2Alarm.captured
  | .stringIsolated =>
    s.event c (posNum (lowestIsolated s))
      (((lowestIsolated s).bind fun p => (s.sit.get p).isolation).map Isolation.detail |>.getD 0) none
  | .ventFail => s.event c 0 s.perm.speed none
  | .senseFault =>
    s.event c (posNum (lowestFaulted s)) (((lowestFaulted s).map (lowestOpenCell s)).getD 0) none
  | .reservoirEmpty => s.event c 0 0 s.inp.resLow.captured
  | .reservoirLow => s.event c 0 (s.reservoir.account / 10) none
  | .runaway | .contactorFault | .overtemp | .overvolume | .reserveBreach | .roundEnded | .roundExpired
  | .weakCell | .stringDue | .linkError => s

/-- Clear a named condition's latch. -/
def clearLatch (s : State) (c : Condition) : State := { s with latches := s.latches.set c none }

/-- The set of conditions as bits, condition n at bit n − 1 (assumption 14). -/
def conditionSet (l : List Condition) : Nat := l.foldl (fun n c => n + 2 ^ (c.num - 1)) 0

/-- The set latches that a list of numbers names, each once, in priority order (R174). -/
def namedSet (s : State) (b : List Byte) : List Condition :=
  Condition.all.filter fun c => (s.latches.get c).isSome && b.any fun n => n.toNat == c.num

/-- Clear Conditions' service (R174). -/
def serveClearConditions (s : State) (f : Frame) : State :=
  if f.body.any fun b => (Condition.ofNum b.toNat).isNone then refuse s f .range
  else
    let cleared := namedSet s f.body
    let again := cleared.filter (causePersists s)
    let s := cleared.foldl clearLatch s
    let s := again.foldl relatch s
    reply s f .ok (u16 (conditionSet cleared) ++ u16 (conditionSet again))

/-- CLEAR_CONDITIONS (R174). -/
def execClearConditions (s : State) : Host.Outcome State Fault Refusal :=
  serve s (fun f => f.kind == 0x18) (fun n => decide (1 ≤ n) && decide (n ≤ 16)) serveClearConditions

/-! ### The log transfer (R164, R166) -/

/-- What Read Log finds: n, GAP, and the first seq (R164). -/
structure LogRange where
  n : Nat
  gap : Bool
  first : Nat
  deriving DecidableEq, Repr

/-- The range of a Read Log by its distance back; absent for a seq that lies ahead (R164). -/
def logRange (s : State) (fromSeq count : Nat) : Option LogRange :=
  let held := s.log.ring.length
  let back := (s.log.nextSeq + 65536 - fromSeq) % 65536
  if 32768 < back then none
  else if back = 0 then some { n := 0, gap := false, first := 0 }
  else if back ≤ held then some { n := min count back, gap := false, first := fromSeq }
  else some { n := min count held, gap := true, first := (s.log.nextSeq + 65536 - held) % 65536 }

/-- Read Log's service (R164). DESIGN CHOICE (assumption 28): the count is tested before the running transfer. -/
def serveReadLog (s : State) (f : Frame) : State :=
  let count := field f.body 2 1
  if count = 0 ∨ 64 < count then refuse s f .range
  else if s.log.transfer.isSome then reply s f .busy []
  else
    match logRange s (field f.body 0 2) count with
    | none => refuse s f .range
    | some r =>
      let t : Transfer := { tag := f.tag, n := r.n, next := r.first, left := r.n, sent := 0 }
      reply { s with log := { s.log with transfer := some t } } f .ok
        (u8 r.n ++ flag r.gap ++ opt 2 u16 (if 0 < r.n then some r.first else none) ++ u16 s.log.nextSeq
          ++ u8 s.log.ring.length)

/-- READ_LOG (R164). -/
def execReadLog (s : State) : Host.Outcome State Fault Refusal := serveKind s 0x19 3 serveReadLog

/-- Stop Log's service (R166). -/
def serveStopLog (s : State) (f : Frame) : State :=
  reply { s with log := { s.log with transfer := none } } f .ok
    (u8 ((s.log.transfer.map (·.sent)).getD 0))

/-- STOP_LOG (R166). -/
def execStopLog (s : State) : Host.Outcome State Fault Refusal := serveKind s 0x1A 0 serveStopLog

end Sys2Proof.Machine
end

