-- ==== Sys2Proof/Machine/Startup.lean ====
section
/-! DEFINITION. Resets, initialisation and Restart (sections 11.4 and 11.6, 11.7), and what the part does
while no command waits. -/

namespace Sys2Proof.Machine

/-- The part after a reset, with the non-volatile state of one before it (R6, R53, R153, R161, R167, R186): the
histories, the account, the weak cells, the log's ring and next_seq, and the store as given. The queue of
waiting commands and the counter of free values are the model's own and go on. -/
def afterReset (s : State) (store : Store) : State :=
  { State.reset with
    hist := s.hist
    reservoir := { account := s.reservoir.account, low := false }
    weak := { entries := s.weak.entries, gen := 0 }
    log := { ring := s.log.ring, nextSeq := s.log.nextSeq, transfer := none }
    store := store
    freeDrawn := s.freeDrawn
    pending := s.pending }

/-- A filter record after a reset under a POLARITY value, by its group (R10). -/
def freshFilter (polarity : Nat) (i : InputId) : Filter := .reset (polarityOf polarity i.group)

/-- The state that a reset takes from the working settings: filter polarities, fitted positions and
compensation records (R10, R54, R43), and the settings the timers compare with until the first second. -/
def deriveFromSettings (s : State) : State :=
  let fresh := freshFilter s.cfg.polarity
  { s with
    inp :=
      { kf := Eight.of fun p => fresh (.kf p), ke := Eight.of fun p => fresh (.ke p),
        ks := Eight.of fun p => fresh (.ks p), level := Eight.of fun p => fresh (.level p),
        genRun := fresh .genRun, h2Alarm := fresh .h2Alarm, resLow := fresh .resLow }
    sit := Eight.of fun p => .reset (fitted s p)
    comp := .const (compReset s.cfg)
    base := { s.base with atSecond := s.cfg } }

/-- The store while the part is held after power-on or RESET_N: the working values are the defaults until the
load (assumption 4), and the volatile flags are clear. -/
def heldStore (stored : Settings) (ok : Bool) : Store :=
  { working := .default, stored := stored, checksumOk := ok, writeBusy := false, defaulted := false }

/-- POWER_ON (R6): a write that the loss of power cut off leaves the checksum not matching (R186). -/
def execPowerOn (s : State) : Host.Outcome State Fault Refusal :=
  .next (afterReset s (heldStore s.store.stored (s.store.checksumOk && !s.store.writeBusy)))

/-- RESET_N is asserted (R6). Whether it cuts off a settings write in progress is open (assumption 5). -/
def execResetN (s : State) : Host.Outcome State Fault Refusal :=
  if s.store.writeBusy then
    if Config.writeLostAtResetN s.freeDrawn then
      .next (afterReset { s with freeDrawn := s.freeDrawn + 1 } (heldStore s.store.stored false))
    else
      .next (afterReset { s with freeDrawn := s.freeDrawn + 1 } (heldStore s.store.working true))
  else .next (afterReset s (heldStore s.store.stored s.store.checksumOk))

/-! ### Initialisation (R189) -/

/-- Step 1: the settings are loaded, or defaulted when the checksum does not match (R186); the account stays
within the capacity they give (R153). -/
def loadSettings (s : State) : State :=
  let store : Store :=
    if s.store.checksumOk then { s.store with working := s.store.stored, defaulted := false }
    else
      { working := .default, stored := .default, checksumOk := true, writeBusy := false, defaulted := true }
  deriveFromSettings
    { s with
      store := store
      reservoir := { s.reservoir with account := min s.reservoir.account store.working.reservoirCapMl } }

/-- The recovered record of a marker (R162). -/
def recoveredRecord (p : Pos) (m : RoundOpen) : Record :=
  { seq := 0, string := p, kind := m.kind, recovered := true, tagOrigin := none, outcome := .interrupted,
    first := m.first, endTime := none, susp := none, eq := none, water := none }

/-- Step 2: each standing marker is written as a recovered record, position 1 first (R162). -/
def recoverRecords (s : State) : State :=
  Pos.all.foldl
    (fun s p =>
      match (s.hist.get p).roundOpen with
      | some m => writeRecord s (recoveredRecord p m)
      | none => s) s

/-- Steps 3 and 4: the DUE evaluation of every fitted string, then the reservoir low test (R57, R154). -/
def initialTests (s : State) : State := reservoirTest (dueEvaluateAll s)

/-- RESET_RELEASE: the measuring blocks and the timer base begin, and initialisation runs (R189). -/
def execResetRelease (s : State) : Host.Outcome State Fault Refusal :=
  if s.phase = .held then
    settled (initialTests (recoverRecords (loadSettings { s with phase := .initialising })))
  else .next s

/-- READY: initialisation ends (R189). -/
def execReady (s : State) : Host.Outcome State Fault Refusal :=
  if s.phase = .initialising then .next { s with phase := .ready } else .next s

/-! ### Restart (R190) -/

/-- A Restart is taken: answered OK, held rounds end, the channels return, the line closes (R190, R133, R117,
R156). DESIGN CHOICE (assumption 9): channel A is taken to its return before channel B, which the seqs of their
records show when both returns complete at this event. -/
def serveRestart (s : State) (f : Frame) : State :=
  let s := reply s f .ok []
  let s := { s with restartAt := some s.base.ms }
  let s := interruptHeld s
  let s := restartChannel (restartChannel s .a) .b
  restartLine s

/-- RESTART (R190). -/
def execRestart (s : State) : Host.Outcome State Fault Refusal := serveKind s 0x1B 0 serveRestart

/-- The longest a Restart takes, in milliseconds (R190). -/
def restartLimit : Nat := 10000

/-- Both channels are IDLE, the line is FREE and no settings write is in progress (R190). -/
def quiet (s : State) : Bool := isIdle s .a && isIdle s .b && (s.line.stage == .free) && !s.store.writeBusy

/-- The final step may come: the part is quiet, or 10 s have passed by the next sample instant (R190,
assumption 1). -/
def finalDue (s : State) : Bool :=
  match s.restartAt with
  | some t => quiet s || decide (t + restartLimit ≤ max s.base.ms s.base.sampleAt)
  | none => false

/-- The record still owed by a channel in TRANSFER_BACK (R163). -/
def owedByChannel (s : State) (c : Ch) : State :=
  if isIdle s c then s
  else
    match (s.chan.get c).ctx with
    | some x => writeRecord s (contextRecord s (withServed s c x) .interrupted)
    | none => s

/-- The record still owed by the line for a standalone round (R156, R163). -/
def owedByLine (s : State) : State :=
  match s.line.owner, s.line.string, s.line.identity with
  | some .round, some p, some i => writeRecord s (waterRecord s p i .interrupted (lineResult s))
  | _, _, _ => s

/-- The reset of the final step: as at power-on, but the Site Clock, the working settings and STORE_DEFAULTED
are kept, and a write in progress has ended (R190). -/
def restartReset (s : State) : State :=
  let store := { s.store with stored := s.store.working, checksumOk := true, writeBusy := false }
  let t := afterReset s store
  deriveFromSettings { t with clock := s.clock, phase := .initialising }

/-- FINAL_STEP (R190). -/
def execFinalStep (s : State) : Host.Outcome State Fault Refusal :=
  if finalDue s then
    settled (initialTests (recoverRecords (restartReset (owedByLine (owedByChannel (owedByChannel s .a) .b)))))
  else .next s

/-! ### While no command waits -/

/-- The next of the timer base's scheduled instants: a sample, a slot, a conversion, a second. -/
def nextScheduled (s : State) : Nat :=
  min (min s.base.sampleAt s.base.slotAt) (min s.base.convAt (1000 * (s.base.runSec + 1)))

/-- A millisecond of the timer base passes, up to the next scheduled instant, while the part runs
(assumption 2). -/
def passTime (s : State) : State :=
  if running s ∧ s.base.ms < nextScheduled s then { s with base := { s.base with ms := s.base.ms + 1 } } else s

end Sys2Proof.Machine
end

