-- ==== Sys2Proof/Machine/Dispatch.lean ====
section
/-! DEFINITION. The meaning of each command: one arm per row of the table. -/

namespace Sys2Proof.Machine

def exec (i : Instr) (s : State) : Host.Outcome State Fault Refusal :=
  match i with
  | .powerOn => Sys2Proof.Machine.execPowerOn s
  | .resetN => Sys2Proof.Machine.execResetN s
  | .resetRelease => Sys2Proof.Machine.execResetRelease s
  | .ready => Sys2Proof.Machine.execReady s
  | .sampleInstant levels => Sys2Proof.Machine.execSampleInstant levels s
  | .slotStart => Sys2Proof.Machine.execSlotStart s
  | .scanCompletion cells => Sys2Proof.Machine.execScanCompletion cells s
  | .currentSample amps => Sys2Proof.Machine.execCurrentSample amps s
  | .conversionCompletion gateTh gateRef => Sys2Proof.Machine.execConversionCompletion gateTh gateRef s
  | .flowPulse => Sys2Proof.Machine.execFlowPulse s
  | .flowRest => Sys2Proof.Machine.execFlowRest s
  | .tachEdge atMicros => Sys2Proof.Machine.execTachEdge atMicros s
  | .tachTimeout => Sys2Proof.Machine.execTachTimeout s
  | .hourRollover p => Sys2Proof.Machine.execHourRollover p s
  | .grantCountdown => Sys2Proof.Machine.execGrantCountdown s
  | .minuteEvaluation => Sys2Proof.Machine.execMinuteEvaluation s
  | .transferOutTimeout c => Sys2Proof.Machine.execTransferOutTimeout c s
  | .transferBackTimeout c => Sys2Proof.Machine.execTransferBackTimeout c s
  | .rampStep c => Sys2Proof.Machine.execRampStep c s
  | .holdMinute c => Sys2Proof.Machine.execHoldMinute c s
  | .settleEnd c => Sys2Proof.Machine.execSettleEnd c s
  | .giveUp c => Sys2Proof.Machine.execGiveUp c s
  | .ageMinute p => Sys2Proof.Machine.execAgeMinute p s
  | .runOnExpiry => Sys2Proof.Machine.execRunOnExpiry s
  | .lowSpeedExpiry => Sys2Proof.Machine.execLowSpeedExpiry s
  | .recoveryExpiry => Sys2Proof.Machine.execRecoveryExpiry s
  | .purgeEnd => Sys2Proof.Machine.execPurgeEnd s
  | .graceExpiry => Sys2Proof.Machine.execGraceExpiry s
  | .primingEnd => Sys2Proof.Machine.execPrimingEnd s
  | .primeTimeout => Sys2Proof.Machine.execPrimeTimeout s
  | .flowStop => Sys2Proof.Machine.execFlowStop s
  | .pauseEnd => Sys2Proof.Machine.execPauseEnd s
  | .closingEnd => Sys2Proof.Machine.execClosingEnd s
  | .manualDoseEnd => Sys2Proof.Machine.execManualDoseEnd s
  | .notice => Sys2Proof.Machine.execNotice s
  | .logRecord => Sys2Proof.Machine.execLogRecord s
  | .logEnd => Sys2Proof.Machine.execLogEnd s
  | .messageSent => Sys2Proof.Machine.execMessageSent s
  | .frameReceived byte => Sys2Proof.Machine.execFrameReceived byte s
  | .unknownKind => Sys2Proof.Machine.execUnknownKind s
  | .identify => Sys2Proof.Machine.execIdentify s
  | .readStatus => Sys2Proof.Machine.execReadStatus s
  | .setClock => Sys2Proof.Machine.execSetClock s
  | .readString => Sys2Proof.Machine.execReadString s
  | .readCells => Sys2Proof.Machine.execReadCells s
  | .readTemperatures => Sys2Proof.Machine.execReadTemperatures s
  | .readTemperatureDetail => Sys2Proof.Machine.execReadTemperatureDetail s
  | .readPlant => Sys2Proof.Machine.execReadPlant s
  | .setSetting => Sys2Proof.Machine.execSetSetting s
  | .storeWriteEnd => Sys2Proof.Machine.execStoreWriteEnd s
  | .readSetting => Sys2Proof.Machine.execReadSetting s
  | .submitRound => Sys2Proof.Machine.execSubmitRound s
  | .cancelRound => Sys2Proof.Machine.execCancelRound s
  | .readQueue => Sys2Proof.Machine.execReadQueue s
  | .readHeld => Sys2Proof.Machine.execReadHeld s
  | .readHeldDetail => Sys2Proof.Machine.execReadHeldDetail s
  | .supplyGrant => Sys2Proof.Machine.execSupplyGrant s
  | .claimLine => Sys2Proof.Machine.execClaimLine s
  | .releaseLine => Sys2Proof.Machine.execReleaseLine s
  | .manualDose => Sys2Proof.Machine.execManualDose s
  | .refill => Sys2Proof.Machine.execRefill s
  | .readWeak => Sys2Proof.Machine.execReadWeak s
  | .clearWeak => Sys2Proof.Machine.execClearWeak s
  | .releaseLock => Sys2Proof.Machine.execReleaseLock s
  | .setNoticeMaster => Sys2Proof.Machine.execSetNoticeMaster s
  | .readConditions => Sys2Proof.Machine.execReadConditions s
  | .clearConditions => Sys2Proof.Machine.execClearConditions s
  | .readLog => Sys2Proof.Machine.execReadLog s
  | .stopLog => Sys2Proof.Machine.execStopLog s
  | .restart => Sys2Proof.Machine.execRestart s
  | .finalStep => Sys2Proof.Machine.execFinalStep s
  | .receivedByte byte => Sys2Proof.Machine.execReceivedByte byte s

end Sys2Proof.Machine
end

