-- ==== Sys2Proof/Machine/Step.lean ====
section
/-! DEFINITION. The part's step: the command at the front of the queue runs on the state with the queue's
rest; with no command waiting, a millisecond may pass. -/

namespace Sys2Proof.Machine

/-- One step of the part (assumption 2 for an empty queue). -/
def step (s : State) : Host.Outcome State Fault Refusal :=
  match s.pending with
  | c :: rest => exec c { s with pending := rest }
  | [] => .next (passTime s)

/-- The state with the command that a table word spells put at the front of its queue; the state itself where
the word spells none. -/
def State.withFetchWord (s : State) (nbits w : Nat) : State :=
  match Sys2Proof.decodeTableWord nbits w with
  | some c => { s with pending := c :: s.pending }
  | none => s

end Sys2Proof.Machine
end

