-- ==== Sys2Proof/Safety.lean ====
section
/-! DEFINITION. What counts as a safe run: the laws the manual says the part keeps, as predicates of a state;
and the predicates that statements use for the situations commands are taken in. -/

namespace Sys2Proof.Safety

open Sys2Proof.Machine

/-! ### Laws the part keeps -/

/-- No list is longer than the manual lets it be: the Round Queue (R71), the Held Rounds List (R130), the log's
ring (R161), the Weak Cell List (R167), the two link queues (R181). -/
def Capacities (s : State) : Prop :=
  s.queue.entries.length ≤ 12 ∧ s.held.entries.length ≤ 4 ∧ s.log.ring.length ≤ 64
    ∧ s.weak.entries.length ≤ 32 ∧ s.link.inbound.length ≤ 4 ∧ s.link.outbound.length ≤ 8

/-- A channel's demand output always carries the present code (R47). -/
def DemandShown (s : State) : Prop := ∀ c : Ch, (s.out.charger.get c).demand = (s.present.get c).code

/-- A channel's charger is disabled whenever the channel is IDLE, and from TRANSFER_BACK on (R91, R114). -/
def ChargerOff (s : State) : Prop :=
  ∀ c : Ch, (s.chan.get c).stage = .idle ∨ (s.chan.get c).stage = .transferBack →
    (s.out.charger.get c).enable = false

/-- The line's outputs: the valve of the line's string is open in PRIMING, DOSING and PAUSE and no other valve
ever is, and the pump runs in DOSING alone (R137). -/
def LineOutputs (s : State) : Prop :=
  (∀ p : Pos, s.out.valve.get p = .opened ↔ (s.line.stage.dispensing = true ∧ s.line.string = some p))
    ∧ (s.out.pump = true ↔ s.line.stage = .dosing)
    ∧ (s.line.stage.dispensing = true → s.line.string.isSome = true)

/-- The records held carry the seqs from next_seq − held to next_seq − 1, modulo 65,536, in order (R161). -/
def SeqsInOrder (s : State) : Prop :=
  s.log.nextSeq < 65536 ∧ s.log.ring.length ≤ 64
    ∧ ∀ k : Nat, k < s.log.ring.length →
        (s.log.ring[k]?).map (·.seq) = some ((s.log.nextSeq + 65536 - s.log.ring.length + k) % 65536)

/-- Where each round stands and what its string's record says of it agree (R61, R69): an IDLE channel is one with
no context (R91), a nested call stands in WATER or TRANSFER_BACK alone (R93), the string of a channel's context is
EQUALISING and assigned to that channel, the strings of held contexts are HELD and no two the same, a standalone
watering's string is WATERING, and an unfitted position is ABSENT. Since a string has one role and one assignment,
no two of these places name the same string. -/
def RolesAgree (s : State) : Prop :=
  (∀ c : Ch, (s.chan.get c).stage = .idle ↔ (s.chan.get c).ctx = none)
    ∧ (∀ c : Ch, (s.chan.get c).call.isSome = true →
        (s.chan.get c).stage = .water ∨ (s.chan.get c).stage = .transferBack)
    ∧ (∀ (c : Ch) (x : Context), (s.chan.get c).ctx = some x →
        (s.sit.get x.string).role = .equalising ∧ (s.sit.get x.string).assigned = some (.channel c))
    ∧ (∀ h ∈ s.held.entries, (s.sit.get h.ctx.string).role = .held)
    ∧ s.held.entries.Pairwise (fun a b => a.ctx.string ≠ b.ctx.string)
    ∧ (s.line.owner = some .round → ∃ p : Pos, s.line.string = some p ∧ (s.sit.get p).role = .watering)
    ∧ (∀ p : Pos, s.cfg.fitted.testBit (p.num - 1) = false → (s.sit.get p).role = .absent)

/-- No string is ever tied to both buses: where KE is commanded CLOSED, KF is commanded OPEN (R1). With it stand the
facts that carry it through a transfer: a step that waits for KF to open, or for KE to open, has commanded it so
(R94, R114), and a string ISOLATED for KE_STUCK has its KE commanded OPEN (R115). The on-bus flag of every position
is the one that KF's command and feedback give (R60). -/
def BusesApart (s : State) : Prop :=
  (∀ p : Pos, s.out.ke.get p = .closed → s.out.kf.get p = .opened)
    ∧ (∀ (c : Ch) (x : Context) (w : Wait), (s.chan.get c).ctx = some x → (s.chan.get c).wait = some w →
        ((s.chan.get c).stage = .transferOut → w.contactor = .kf → s.out.kf.get x.string = .opened)
        ∧ ((s.chan.get c).stage = .transferBack → w.contactor = .ke → s.out.ke.get x.string = .opened))
    ∧ (∀ p : Pos, (s.sit.get p).role = .isolated → (s.sit.get p).isolation = some .keStuck →
        s.out.ke.get p = .opened)
    ∧ (∀ p : Pos, (s.sit.get p).onBus = true ↔
        (s.cfg.fitted.testBit (p.num - 1) = true ∧ s.out.kf.get p = .closed
          ∧ (s.inp.get (.kf p)).presented = .active))

/-- A position is due by its history under the working settings (R57). -/
def DueNow (s : State) (p : Pos) : Prop :=
  s.cfg.fitted.testBit (p.num - 1) = true
    ∧ (s.cfg.dueDays * 24 ≤ (s.hist.get p).hours ∨ s.cfg.dueAh * 36000 ≤ (s.hist.get p).throughput)

/-- A latch whose pending notice may be sent: its condition is one of the three that no enable masks, or the master
is ON and its enable is set (R170, R172). -/
def Sendable (s : State) (c : Condition) (d : LatchDetail) : Prop :=
  s.latches.get c = some d ∧ d.pending = true
    ∧ (c.num ≤ 3 ∨ (s.master = true ∧ s.cfg.noticeEnables.testBit (c.num - 1) = true))

/-- Every setting of a family lies in its range: a numeric setting between its bounds, a set of bits without an
undefined bit, FITTED naming some position (R184, R185). -/
def InRange (t : Settings) : Prop :=
  (∀ i : SettingId, i.isSet = false → i.low ≤ t.get i ∧ t.get i ≤ i.high)
    ∧ 1 ≤ t.fitted ∧ t.fitted ≤ 255 ∧ t.noticeEnables ≤ 65535 ∧ t.polarity ≤ 127

/-- The working and the stored settings lie in their ranges (R184, R185). -/
def SettingsInRange (s : State) : Prop := InRange s.store.working ∧ InRange s.store.stored

/-! ### Situations of the part -/

/-- Between steps: no reserve test and no evaluation is still to be made. -/
def Settled (s : State) : Prop := s.due = { reserve := false, admission := false }

/-- No round is queued or held, so that an evaluation admits nothing. -/
def NoCandidates (s : State) : Prop := s.queue.entries = [] ∧ s.held.entries = []

/-- Both channels are IDLE. -/
def ChannelsIdle (s : State) : Prop := s.chan.a.stage = .idle ∧ s.chan.b.stage = .idle

/-- Every output at the safe value of the table of section 1.1 (R6). -/
def SafeOutputs (o : Outputs) : Prop :=
  (∀ p : Pos, o.kf.get p = .closed ∧ o.ke.get p = .opened ∧ o.ks.get p = .a ∧ o.valve.get p = .closed)
    ∧ (∀ c : Ch, o.charger.get c = { enable := false, demand := 0, limit := 0 })
    ∧ o.floatDemand = 0 ∧ o.floatComputed = false ∧ o.pump = false ∧ o.fan = false

/-- The non-volatile state of two states is the same: histories (R53), the account (R153), the weak cells
(R167), the log's ring and next_seq (R161). -/
def NonVolatileKept (s t : State) : Prop :=
  t.hist = s.hist ∧ t.reservoir.account = s.reservoir.account ∧ t.weak.entries = s.weak.entries
    ∧ t.log.ring = s.log.ring ∧ t.log.nextSeq = s.log.nextSeq

/-- A channel as a reset leaves it (R91). -/
def ChannelReset (ch : Channel) : Prop :=
  ch = { stage := .idle, ctx := none, call := none, wait := none, toStart := none }

/-- A temperature record as a reset leaves it (R29). -/
def TempReset (r : TempRec) : Prop :=
  r = { nTh := none, nRef := none, state := .pending, temp := none, clamp := .none, convNo := 0 }

/-- The line record as a reset leaves it (R136). -/
def LineReset (l : Line) : Prop :=
  l = { stage := .free, owner := none, string := none, identity := none, dose := none, ml := 0, pulses := 0,
        doses := 0, doseMl := 0, outcome := none, timer := 0, flowRef := none, waiting := [],
        pendingEnd := none, claimEnded := false }

/-- A string's situation as a reset leaves it, by whether the position is fitted (R54). -/
def SituationReset (fitted : Bool) (t : StringSituation) : Prop :=
  t = { role := if fitted then .float else .absent, isolation := none, assigned := none,
        senseCell := if fitted then .pending else .none, sensePilot := if fitted then .pending else .none,
        due := false, levelLow := false, hourSec := 0, onBus := false }

/-- The volatile state that every reset leaves, the clock, the filters, the strings' situations and the
compensation records aside (R18, R22, R24, R29, R31, R33, R47, R72, R78, R91, R120, R130, R136, R166, R167, R170,
R180, R181). -/
def VolatileReset (t : State) : Prop :=
  t.restartAt = none ∧ t.base.runSec = 0
    ∧ t.scan = { nextSlot := .p1, measuring := none, strings := .const { stats := none, cells := [], scanNo := 0 },
                 currents := .const none }
    ∧ t.temps.next = .pilot .p1 ∧ t.temps.cycleEnded = false ∧ (∀ p : Pos, TempReset (t.temps.pilots.get p))
    ∧ TempReset t.temps.ambient
    ∧ t.flow = { pulse := false, total := 0, lastPulse := none }
    ∧ t.tach = { reference := none, period := none, speed := 0 }
    ∧ (∀ c : Ch, t.present.get c = { code := 0, cell := none })
    ∧ t.queue = { entries := [], gen := 0 } ∧ t.held = { entries := [], gen := 0 }
    ∧ t.supply = { grantMin := 0, grantSec := 0, surplus := false }
    ∧ (∀ c : Ch, ChannelReset (t.chan.get c)) ∧ LineReset t.line
    ∧ t.perm =
        { h2Active := false, purge := none, gassing := 0, runOn := none, fan := false, speed := 0,
          ventFailed := false, lowSpeed := none, recovery := none, grace := none, breach := false }
    ∧ t.log.transfer = none ∧ t.weak.gen = 0 ∧ t.master = false
    ∧ t.link = { framer := { state := .hunt, len := 0, bytes := [] }, inbound := [], outbound := [] }

/-- While the part is held in reset no round is anywhere in the plant: its channels, its line, its lists and its
strings' situations stand as the reset left them (R54, R72, R91, R130, R136), no string is under measurement (R22),
and it is not restarting (R190). -/
def HeldClean (s : State) : Prop :=
  s.phase = .held →
    s.restartAt = none ∧ s.scan.measuring = none ∧ s.queue.entries = [] ∧ s.held.entries = [] ∧ (∀ c : Ch, ChannelReset (s.chan.get c))
      ∧ s.line.stage = .free ∧ s.line.owner = none ∧ s.line.string = none ∧ s.line.waiting = []
      ∧ ∀ p : Pos, SituationReset (s.cfg.fitted.testBit (p.num - 1)) (s.sit.get p)

/-- The Reservoir Account stays within RESERVOIR_CAP_ML, from the load of the settings on (R153); a part held in
reset is not restarting (R190). -/
def AccountWithinCap (s : State) : Prop :=
  (s.phase = .held → s.restartAt = none)
    ∧ (s.phase ≠ .held → s.reservoir.account ≤ s.cfg.reservoirCapMl)

/-- The head frame of the Inbound Queue can be taken: the part is ready, not restarting, between steps, and the
Outbound Queue has a free place (R181, R189, R190). -/
def Taking (s : State) (f : Frame) (rest : List Frame) : Prop :=
  s.phase = .ready ∧ s.restartAt = none ∧ s.link.outbound.length < 8 ∧ s.link.inbound = f :: rest ∧ Settled s

/-- The link once a frame is taken and its reply is placed (R181). -/
def answered (s : State) (rest : List Frame) (r : Frame) : Link :=
  { s.link with inbound := rest, outbound := s.link.outbound ++ [r] }

/-- The reply to a request below KIND 0x80: its TAG, its KIND + 0x80, the status and the qualifier, and the
payload (R178, R182). -/
def replyTo (f : Frame) (status qualifier : Byte) (payload : List Byte) : Frame :=
  { tag := f.tag, kind := f.kind + 0x80, body := status :: qualifier :: payload }

/-- The KIND of a request's frames and the body lengths that fit it (R178), absent for a command that is no
request. Read Temperatures and Read Held stand for both of their rows. -/
def requestForm : Instr → Option (Byte × (Nat → Bool))
  | .identify => some (0x01, (· == 0))
  | .readStatus => some (0x02, (· == 1))
  | .setClock => some (0x03, (· == 4))
  | .readString => some (0x04, (· == 1))
  | .readCells => some (0x05, (· == 2))
  | .readTemperatures => some (0x06, (· == 1))
  | .readPlant => some (0x07, (· == 0))
  | .setSetting => some (0x08, (· == 5))
  | .readSetting => some (0x09, (· == 1))
  | .submitRound => some (0x0A, (· == 12))
  | .cancelRound => some (0x0B, (· == 1))
  | .readQueue => some (0x0C, (· == 1))
  | .readHeld => some (0x0D, (· == 1))
  | .supplyGrant => some (0x0E, (· == 2))
  | .claimLine => some (0x0F, (· == 0))
  | .releaseLine => some (0x10, (· == 0))
  | .manualDose => some (0x11, (· == 3))
  | .refill => some (0x12, (· == 4))
  | .readWeak => some (0x13, (· == 1))
  | .clearWeak => some (0x14, (· == 1))
  | .releaseLock => some (0x15, (· == 2))
  | .setNoticeMaster => some (0x16, (· == 1))
  | .readConditions => some (0x17, (· == 1))
  | .clearConditions => some (0x18, fun n => decide (1 ≤ n) && decide (n ≤ 16))
  | .readLog => some (0x19, (· == 3))
  | .stopLog => some (0x1A, (· == 0))
  | .restart => some (0x1B, (· == 0))
  | .powerOn | .resetN | .resetRelease | .ready | .sampleInstant _ | .slotStart | .scanCompletion _
  | .currentSample _ | .conversionCompletion _ _ | .flowPulse | .flowRest | .tachEdge _ | .tachTimeout
  | .hourRollover _ | .grantCountdown | .minuteEvaluation | .transferOutTimeout _ | .transferBackTimeout _
  | .rampStep _ | .holdMinute _ | .settleEnd _ | .giveUp _ | .ageMinute _ | .runOnExpiry | .lowSpeedExpiry
  | .recoveryExpiry | .purgeEnd | .graceExpiry | .primingEnd | .primeTimeout | .flowStop | .pauseEnd
  | .closingEnd | .manualDoseEnd | .notice | .logRecord | .logEnd | .messageSent | .frameReceived _
  | .unknownKind | .readTemperatureDetail | .storeWriteEnd | .readHeldDetail | .finalStep
  | .receivedByte _ => none

/-- The order number of an input in the table of R8, counted from 0. -/
def inputIndex : InputId → Nat
  | .kf p => p.num - 1
  | .ke p => 8 + (p.num - 1)
  | .ks p => 16 + (p.num - 1)
  | .level p => 24 + (p.num - 1)
  | .genRun => 32
  | .h2Alarm => 33
  | .resLow => 34

/-- The level a sample instant brings for an input (R11). -/
def broughtLevel (levels : BitVec 35) (i : InputId) : Level :=
  if levels.getLsbD (inputIndex i) then .high else .low

/-- The last two samples of a history and one more (R11). -/
def latestThree (h : List Level) (l : Level) : List Level := h.drop (h.length - 2) ++ [l]

/-- The samples of an instant accept one input alone, which then presents a state, with a delivery of a kind
(R12). -/
def OnlyAccepts (s : State) (levels : BitVec 35) (i : InputId) (k : DeliveryKind) (v : Presented) : Prop :=
  ((s.inp.get i).sample (broughtLevel levels i)).2 = some k
    ∧ ((s.inp.get i).sample (broughtLevel levels i)).1.presented = v
    ∧ ∀ j : InputId, j ≠ i → ((s.inp.get j).sample (broughtLevel levels j)).2 = none

/-- A state after a sample instant has every input's history with its sample, an accepted one's new level too (R11,
R12), and its timer base stands at the next instant. -/
def Sampled (s : State) (levels : BitVec 35) (t : State) : Prop :=
  (∀ i : InputId, t.inp.get i = ((s.inp.get i).sample (broughtLevel levels i)).1)
    ∧ t.base = { s.base with ms := max s.base.ms s.base.sampleAt, sampleAt := s.base.sampleAt + 100 }

/-- A sample as a channel in RAMP or HOLD counts it, in 0.1 A: a negative one as 0, one above 1000 as 1000 (R49). -/
def counted (dA : Int) : Nat := (max 0 (min 1000 dA)).toNat

/-- A context after a second with a sample (R92, R49, R50): its seconds counted, in RAMP and HOLD the sample added
to the charge, which saturates, and in HOLD to the window too. -/
def sampledContext (st : Stage) (dA : Int) (x : Context) : Context :=
  { x with
    stageTimer := x.stageTimer + 1
    ageSec := x.ageSec + 1
    holdSec := if st = .hold then x.holdSec + 1 else x.holdSec
    charge := if st = .ramp ∨ st = .hold then min 4294967295 (x.charge + counted dA) else x.charge
    winSum := if st = .hold then x.winSum + counted dA else x.winSum
    winCount := if st = .hold then x.winCount + 1 else x.winCount }

/-- A channel after a second with its string's sample: its context's and its waiting call's (R92, R112). -/
def sampledChannel (ch : Channel) (dA : Eight Int) : Channel :=
  { ch with
    ctx := ch.ctx.map fun x => sampledContext ch.stage (dA.get x.string) x
    call := ch.call.map fun k => if k.serving then k else { k with waitSec := k.waitSec + 1 } }

/-- A position's history after a current sample: a fitted position's negative sample adds its magnitude to the
throughput, which saturates (R23, R56). -/
def sampledHistory (s : State) (dA : Eight Int) (p : Pos) : StringHistory :=
  if s.cfg.fitted.testBit (p.num - 1) = true ∧ dA.get p < 0 then
    { s.hist.get p with throughput := min 4294967295 ((s.hist.get p).throughput + min 2000 (dA.get p).natAbs) }
  else s.hist.get p

/-- A position's situation after a second whose sample does not make it due (R55, R57). -/
def sampledSituation (s : State) (dA : Eight Int) (p : Pos) : StringSituation :=
  if s.cfg.fitted.testBit (p.num - 1) then
    { s.sit.get p with
      hourSec := (s.sit.get p).hourSec + 1
      due := if dA.get p < 0 then false else (s.sit.get p).due }
  else s.sit.get p

/-- No sample makes its string due (R57). -/
def NoneDue (s : State) (dA : Eight Int) : Prop :=
  ∀ p : Pos, s.cfg.fitted.testBit (p.num - 1) = true → dA.get p < 0 →
    (sampledHistory s dA p).hours < s.cfg.dueDays * 24
      ∧ (sampledHistory s dA p).throughput < s.cfg.dueAh * 36000

/-- What a second of the timer base counts beside the strings and the channels (R31, R80, R131, R79, R120, R136,
R187). -/
def secondPassed (s : State) : State :=
  { s with
    base :=
      { s.base with
        runSec := s.base.runSec + 1, minuteSec := s.base.minuteSec + 1
        ms := max s.base.ms (1000 * (s.base.runSec + 1)), atSecond := s.cfg }
    clock := { s.clock with count := (s.clock.count + 1) % 4294967296 }
    held := { s.held with
      entries := s.held.entries.map fun h => { h with ctx := { h.ctx with ageSec := h.ctx.ageSec + 1 } } }
    supply := if 0 < s.supply.grantMin then { s.supply with grantSec := s.supply.grantSec + 1 } else s.supply
    perm :=
      { s.perm with
        purge := s.perm.purge.map (· + 1), runOn := s.perm.runOn.map (· + 1)
        lowSpeed := s.perm.lowSpeed.map (· + 1), recovery := s.perm.recovery.map (· + 1)
        grace := s.perm.grace.map (· + 1) }
    line := { s.line with timer := s.line.timer + 1 } }

/-- A Set Setting frame that can be taken, while no write runs, of a value within a numeric setting's range that
is not the working one (R185). -/
def Sets (s : State) (f : Frame) (rest : List Frame) (i : SettingId) (v : Nat) : Prop :=
  Taking s f rest ∧ f.kind = 0x08 ∧ v < 4294967296 ∧ f.body = BitVec.ofNat 8 i.id :: u32 v
    ∧ s.store.writeBusy = false ∧ (i.isSet = false → i.low ≤ v ∧ v ≤ i.high) ∧ v ≠ s.cfg.get i

/-- A state with a setting's working value replaced, the store's write begun and the request answered OK with the
value (R185): what a Set Setting does before a block acts on it. -/
def nowSet (s : State) (f : Frame) (rest : List Frame) (i : SettingId) (v : Nat) : State :=
  { s with
    store :=
      { s.store with working := s.store.working.set i v, checksumOk := false, writeBusy := true, defaulted := false }
    link := answered s rest (replyTo f 0 0 (u32 v)) }

/-- The settings that no block acts on at the moment of their change: each is read where it is used (R185). -/
def actsLater : List SettingId :=
  [.rampStepMv, .rampStepMin, .flatWindowMin, .flatDelta, .eqMaxHoldMin, .eqMaxAh, .settleMin, .tempAbort,
   .runawayDt, .cellMaxMv, .weakMv, .roundSpanH, .supplyGraceMin, .purgeMin, .contactorMs, .flowMlPerPulse,
   .dosePauseS, .primeS, .flowStopS, .waterMaxMl, .pumpWaitMin]

end Sys2Proof.Safety
end

