-- ==== Sys2Proof/Certificates/Slice0/Obligations.lean ====
section
/-! DEFINITION. The statements for the provers. A statement that gives the whole next state as an update of the
state before it says thereby that everything it does not name is unchanged. -/

open Sys2Proof Sys2Proof.Machine Sys2Proof.Safety

/-! ### The step -/

/-- The command at the front of the queue runs on the state with the queue's rest; on an empty queue only the
timer base's milliseconds may move, by at most one, and not while the part is held in reset (the model's choice,
assumption 2). -/
def Obligations.StepRunsFrontCommand : Prop :=
  (∀ (c : Instr) (s : State), step { s with pending := c :: s.pending } = exec c s)
    ∧ ∀ s : State, s.pending = [] →
        ∃ n, step s = .next { s with base := { s.base with ms := n } } ∧ s.base.ms ≤ n ∧ n ≤ s.base.ms + 1
          ∧ (s.phase = .held → n = s.base.ms)

/-! ### Resets and start-up -/

/-- POWER_ON and RESET_N: every output at its safe value (R6), the non-volatile state kept, the volatile state at
its after-reset values, the clock 0 and not VALID (R187), every latch clear (R170). A write that power-on finds
in progress leaves the checksum not matching (R186). -/
def Obligations.PowerOnAndResetN : Prop :=
  ∀ s : State,
    (∃ t, exec .powerOn s = .next t ∧ t.phase = .held ∧ SafeOutputs t.out ∧ NonVolatileKept s t
      ∧ VolatileReset t ∧ t.clock = { count := 0, valid := false } ∧ (∀ c : Condition, t.latches.get c = none)
      ∧ t.store.stored = s.store.stored ∧ t.store.checksumOk = (s.store.checksumOk && !s.store.writeBusy))
    ∧ ∃ t, exec .resetN s = .next t ∧ t.phase = .held ∧ SafeOutputs t.out ∧ NonVolatileKept s t
      ∧ VolatileReset t ∧ t.clock = { count := 0, valid := false } ∧ (∀ c : Condition, t.latches.get c = none)
      ∧ (s.store.writeBusy = false →
          t.store.stored = s.store.stored ∧ t.store.checksumOk = s.store.checksumOk)

/-- RESET_RELEASE with no marker standing, no string due and the account not low: the settings are loaded, or
defaulted when the checksum does not match (R186); filters, situations and compensation records start from them
(R10, R54, R43); the account stays within the capacity they give (R153); nothing else changes (R189). READY ends the initialisation and changes nothing else; bytes that come
before it are discarded (R189). -/
def Obligations.InitialisationLoadsAndEnds : Prop :=
  (∀ (s : State) (cfg : Settings) (account : Nat), s.phase = .held → Settled s →
    cfg = (if s.store.checksumOk then s.store.stored else Settings.default) →
    account = min s.reservoir.account cfg.reservoirCapMl →
    (∀ p : Pos, (s.hist.get p).roundOpen = none) →
    (∀ p : Pos, (s.hist.get p).hours < cfg.dueDays * 24 ∧ (s.hist.get p).throughput < cfg.dueAh * 36000) →
    cfg.reservoirLowMl ≤ account →
    ∃ t, exec .resetRelease s = .next t
      ∧ t.store.working = cfg ∧ t.store.stored = cfg ∧ t.store.checksumOk = true
      ∧ t.store.defaulted = !s.store.checksumOk
      ∧ (∀ i : InputId, t.inp.get i =
          { history := [], accepted := none, presented := .unknown, captured := none,
            polarity := if cfg.polarity.testBit i.group then .activeLow else .activeHigh, reacquiring := false })
      ∧ (∀ p : Pos, t.sit.get p =
          { role := if cfg.fitted.testBit (p.num - 1) then .float else .absent, isolation := none,
            assigned := none, senseCell := if cfg.fitted.testBit (p.num - 1) then .pending else .none,
            sensePilot := if cfg.fitted.testBit (p.num - 1) then .pending else .none, due := false,
            levelLow := false, hourSec := 0, onBus := false })
      ∧ (∀ p : Pos, t.comp.get p =
          { source := .default, tc10 := 250, eqMv := cfg.eqCellMv, floatMv := cfg.floatCellMv })
      ∧ { s with
          phase := .initialising, store := t.store, inp := t.inp, sit := t.sit, comp := t.comp,
          reservoir := { account := account, low := false }, base := { s.base with atSecond := cfg } } = t)
    ∧ (∀ s : State, s.phase = .initialising → exec .ready s = .next { s with phase := .ready })
    ∧ ∀ (s : State) (b : Byte), s.phase ≠ .ready →
        exec (.receivedByte b) s = .next s ∧ exec (.frameReceived b) s = .next s


/-- The recovery of markers leaves none standing, and a single marker becomes one recovered INTERRUPTED record
(R162, R66). -/
def Obligations.MarkersAreRecovered : Prop :=
  (∀ (s : State) (p : Pos), ((recoverRecords s).hist.get p).roundOpen = none)
    ∧ ∀ (s : State) (p : Pos) (m : RoundOpen), (s.hist.get p).roundOpen = some m →
        (∀ q : Pos, q ≠ p → (s.hist.get q).roundOpen = none) →
        (recoverRecords s).log.ring.getLast? =
          some { seq := s.log.nextSeq, string := p, kind := m.kind, recovered := true, tagOrigin := none,
                 outcome := .interrupted, first := m.first, endTime := none, susp := none, eq := none,
                 water := none }
        ∧ (recoverRecords s).log.nextSeq = (s.log.nextSeq + 1) % 65536

/-- A Restart taken with both channels IDLE and the line FREE is answered OK and starts the restarting time (R190).
With no round held it changes nothing else; with rounds held it ends each INTERRUPTED, oldest first: the list is
empty, their strings are FLOAT with no marker, and the log takes one record for each, with its end time (R133). -/
def Obligations.RestartIsTaken : Prop :=
  (∀ (s : State) (f : Frame) (rest : List Frame), Taking s f rest → f.kind = 0x1B → f.body = [] →
    ChannelsIdle s → s.held.entries = [] → s.line.stage = .free →
    exec .restart s =
      .next { s with restartAt := some s.base.ms, link := answered s rest (replyTo f 0 0 []) })
    ∧ (∀ (s : State) (f : Frame) (rest : List Frame) (h : Held) (younger : List Held), Taking s f rest →
        f.kind = 0x1B → f.body = [] → ChannelsIdle s → s.line.stage = .free → s.held.entries = h :: younger →
        s.log.nextSeq < 65536 → s.latches.roundEnded = none →
        ∃ (t : State) (ended : List Record), exec .restart s = .next t
          ∧ t.restartAt = some s.base.ms ∧ t.link = answered s rest (replyTo f 0 0 [])
          ∧ t.held = { entries := [], gen := (s.held.gen + s.held.entries.length) % 256 }
          ∧ ended.length = s.held.entries.length
          ∧ (∀ (k : Nat) (g : Held), s.held.entries[k]? = some g →
              (ended[k]?.map fun r => (r.seq, r.string, r.kind, r.outcome, r.recovered)) =
                some ((s.log.nextSeq + k) % 65536, g.ctx.string, g.ctx.kind, .interrupted, false)
              ∧ (ended[k]?.map fun r => (r.tagOrigin, r.first, r.endTime, r.susp, r.water)) =
                some (some (g.ctx.tag, g.ctx.origin), g.ctx.first,
                  some { time := s.clock.count, valid := s.clock.valid }, some g.ctx.susp, g.ctx.water))
          ∧ t.log =
              { s.log with
                ring := (s.log.ring ++ ended).drop (s.log.ring.length + ended.length - 64)
                nextSeq := (s.log.nextSeq + ended.length) % 65536 }
          ∧ (∀ p : Pos,
              ((∃ g ∈ s.held.entries, g.ctx.string = p) →
                t.sit.get p = { s.sit.get p with role := .float, assigned := none }
                ∧ t.hist.get p = { s.hist.get p with roundOpen := none })
              ∧ ((∀ g ∈ s.held.entries, g.ctx.string ≠ p) →
                t.sit.get p = s.sit.get p ∧ t.hist.get p = s.hist.get p))
          ∧ t.latches = { s.latches with roundEnded := (some
              { string := h.ctx.string.num, value := s.log.nextSeq, captured := none,
                time := { time := s.clock.count, valid := s.clock.valid }, again := min 255 younger.length,
                pending := true }) }
          ∧ { s with
              restartAt := t.restartAt, link := t.link, held := t.held, log := t.log, sit := t.sit, hist := t.hist
              latches := t.latches } = t)
    ∧ ∀ s : State, (interruptHeld s).held.entries = []

/-- The final step of a Restart waits, up to 10 s, while a channel is not IDLE, the line not FREE or a settings write
in progress; then, and at once in a quiet part, it resets the part, keeping the Site Clock, the working settings and
STORE_DEFAULTED (R190). At 10 s the record still owed by a channel, or by the line for a standalone watering, is
written first, with outcome INTERRUPTED (R163, R156). The resets are stated with no other marker standing, no string
due and the account not low. That the 10 s are counted to the next sample instant is the model's (assumption 1). -/
def Obligations.FinalStepResets : Prop :=
  (∀ (s : State) (t₀ : Nat), s.restartAt = some t₀ → ChannelsIdle s → s.line.stage = .free →
    s.line.owner = none → s.store.writeBusy = false →
    (∀ p : Pos, (s.hist.get p).roundOpen = none) →
    (∀ p : Pos, (s.hist.get p).hours < s.cfg.dueDays * 24 ∧ (s.hist.get p).throughput < s.cfg.dueAh * 36000) →
    s.cfg.reservoirLowMl ≤ s.reservoir.account →
    ∃ t, exec .finalStep s = .next t ∧ t.phase = .initialising ∧ SafeOutputs t.out ∧ NonVolatileKept s t
      ∧ VolatileReset t ∧ t.clock = s.clock ∧ (∀ c : Condition, t.latches.get c = none)
      ∧ t.store.working = s.store.working ∧ t.store.stored = s.store.working
      ∧ t.store.defaulted = s.store.defaulted)
    ∧ (∀ (s : State) (t₀ : Nat), s.restartAt = some t₀ →
        (¬ChannelsIdle s ∨ s.line.stage ≠ .free ∨ s.store.writeBusy = true) →
        s.base.ms < t₀ + 10000 → s.base.sampleAt < t₀ + 10000 → exec .finalStep s = .next s)
    ∧ (∀ (s : State) (t₀ : Nat) (c : Ch) (x : Context), s.restartAt = some t₀ → t₀ + 10000 ≤ s.base.ms →
        (s.chan.get c).stage ≠ .idle → (s.chan.get c).ctx = some x → (s.chan.get c).call = none →
        (s.chan.get c.other).stage = .idle → s.line.owner ≠ some .round →
        (∀ p : Pos, p ≠ x.string → (s.hist.get p).roundOpen = none) →
        (∀ p : Pos, (s.hist.get p).hours < s.cfg.dueDays * 24 ∧ (s.hist.get p).throughput < s.cfg.dueAh * 36000) →
        s.cfg.reservoirLowMl ≤ s.reservoir.account →
        ∃ t, exec .finalStep s = .next t ∧ t.phase = .initialising ∧ SafeOutputs t.out ∧ VolatileReset t
          ∧ t.clock = s.clock ∧ t.store.working = s.store.working ∧ (∀ c : Condition, t.latches.get c = none)
          ∧ t.hist = s.hist.set x.string { s.hist.get x.string with roundOpen := none }
          ∧ t.log.nextSeq = (s.log.nextSeq + 1) % 65536
          ∧ t.log.ring.getLast? =
              some { seq := s.log.nextSeq, string := x.string, kind := x.kind, recovered := false,
                     tagOrigin := some (x.tag, x.origin), outcome := .interrupted, first := x.first,
                     endTime := some { time := s.clock.count, valid := s.clock.valid }, susp := some x.susp,
                     eq := some
                       { holdMin := x.holdMin, ah := x.charge / 3600, lastAvg := x.lastAvg, peak := x.peak,
                         finalCell := x.finalCell, weakFound := x.weakFound, settleCut := x.settleCut,
                         waterDeferred := x.waterDeferred, waterDropped := x.waterDropped },
                     water := x.water })
    ∧ ∀ (s : State) (t₀ : Nat) (p : Pos) (i : RoundIdentity) (o : Outcome), s.restartAt = some t₀ →
        t₀ + 10000 ≤ s.base.ms → ChannelsIdle s → s.line.owner = some .round → s.line.string = some p →
        s.line.identity = some i → s.line.outcome = some o →
        (∀ q : Pos, q ≠ p → (s.hist.get q).roundOpen = none) →
        (∀ q : Pos, (s.hist.get q).hours < s.cfg.dueDays * 24 ∧ (s.hist.get q).throughput < s.cfg.dueAh * 36000) →
        s.cfg.reservoirLowMl ≤ s.reservoir.account →
        ∃ t, exec .finalStep s = .next t ∧ t.phase = .initialising ∧ SafeOutputs t.out ∧ VolatileReset t
          ∧ t.clock = s.clock ∧ t.store.working = s.store.working ∧ (∀ c : Condition, t.latches.get c = none)
          ∧ t.hist = s.hist.set p { s.hist.get p with roundOpen := none }
          ∧ t.log.nextSeq = (s.log.nextSeq + 1) % 65536
          ∧ t.log.ring.getLast? =
              some { seq := s.log.nextSeq, string := p, kind := .water, recovered := false,
                     tagOrigin := some (i.tag, i.origin), outcome := .interrupted, first := i.first,
                     endTime := some { time := s.clock.count, valid := s.clock.valid }, susp := some 0, eq := none,
                     water := some { ml := s.line.ml, doses := s.line.doses, outcome := o } }

/-- While restarting, every request's frame is answered BUSY with the header alone, and nothing else changes
(R190). A frame of KIND 0x06 or 0x0D belongs to the request for a detail when it asks for one, and to the request for
the summary otherwise. -/
def Obligations.RestartingAnswersBusy : Prop :=
  ∀ (s : State) (f : Frame) (rest : List Frame), s.phase = .ready → s.restartAt.isSome = true →
    s.link.outbound.length < 8 → s.link.inbound = f :: rest →
    (∀ (i : Instr) (k : Byte) (fits : Nat → Bool), requestForm i = some (k, fits) → f.kind = k →
      (i = .readTemperatures → asksDetail f = false) → (i = .readHeld → asksHeldDetail f = false) →
      exec i s = .next { s with link := answered s rest (replyTo f 2 0 []) })
    ∧ (f.kind = 0x06 → asksDetail f = true →
      exec .readTemperatureDetail s = .next { s with link := answered s rest (replyTo f 2 0 []) })
    ∧ (f.kind = 0x0D → asksHeldDetail f = true →
      exec .readHeldDetail s = .next { s with link := answered s rest (replyTo f 2 0 []) })

/-- A frame whose body length does not fit its KIND is answered BAD_FORM, and one whose KIND is no request's is
answered UNKNOWN, with reply KIND 0xFF from 0x80 on; nothing else changes (R182). -/
def Obligations.MalformedFramesAreAnswered : Prop :=
  (∀ (i : Instr) (k : Byte) (fits : Nat → Bool) (s : State) (f : Frame) (rest : List Frame),
    requestForm i = some (k, fits) → Taking s f rest → f.kind = k → fits f.body.length = false →
    exec i s = .next { s with link := answered s rest (replyTo f 7 0 []) })
    ∧ ∀ (s : State) (f : Frame) (rest : List Frame), Taking s f rest →
        (f.kind.toNat = 0 ∨ 0x1B < f.kind.toNat) →
        exec .unknownKind s = .next { s with link := (answered s rest
          { tag := f.tag, kind := if 0x80 ≤ f.kind.toNat then 0xFF else f.kind + 0x80, body := [8, 0] }) }

/-! ### Contact inputs -/

/-- A sample instant at which no input is accepted appends a sample to every history and changes nothing else
(R11, R12). -/
def Obligations.SamplesAreAppended : Prop :=
  ∀ (s : State) (levels : BitVec 35), s.phase ≠ .held →
    (∀ i : InputId, ((s.inp.get i).sample (broughtLevel levels i)).2 = none) →
    ∃ t, exec (.sampleInstant levels) s = .next t
      ∧ (∀ i : InputId, t.inp.get i =
          { s.inp.get i with history := latestThree (s.inp.get i).history (broughtLevel levels i) })
      ∧ { s with
          inp := t.inp,
          base := { s.base with ms := max s.base.ms s.base.sampleAt, sampleAt := s.base.sampleAt + 100 } } = t

/-- Three equal samples that differ from the accepted level are accepted, with a delivery of kind REACQUIRED or
EDGE; any other sample is only appended (R12, R9); a changed group polarity re-initialises that group's records
and keeps what they present (R16). A sample instant that accepts a fitted position's level probe sets LEVEL_LOW for
ACTIVE and clears it for INACTIVE; an EDGE of ACTIVE with AUTO_QUEUE ON also offers an AUTO_LEVEL entry of kind
WATER, here to an empty queue while the line is not FREE, and a REACQUIRED one makes no offer (R58, R14, R75). -/
def Obligations.LevelsAreAccepted : Prop :=
  (∀ (f : Filter) (l v : Level), latestThree f.history l = [v, v, v] → f.accepted ≠ some v →
    f.sample l =
      ({ f with
          history := [v, v, v], accepted := some v, captured := some v, reacquiring := false,
          presented := if (f.polarity = .activeHigh ↔ v = .high) then .active else .inactive },
       some (if f.reacquiring then .reacquired else .edge)))
    ∧ (∀ (f : Filter) (l : Level),
        (∀ v : Level, latestThree f.history l = [v, v, v] → f.accepted = some v) →
        f.sample l = ({ f with history := latestThree f.history l }, none))
    ∧ (∀ (s : State) (old new : Nat),
        (∀ i : InputId, (changePolarity s old new).inp.get i =
          if old.testBit i.group = new.testBit i.group then s.inp.get i
          else
            { s.inp.get i with
              history := [], accepted := none, reacquiring := true,
              polarity := if new.testBit i.group then .activeLow else .activeHigh })
        ∧ { s with inp := (changePolarity s old new).inp } = changePolarity s old new)
    ∧ ∀ (s : State) (levels : BitVec 35) (p : Pos) (k : DeliveryKind), s.phase ≠ .held → Settled s →
        s.cfg.fitted.testBit (p.num - 1) = true →
        (OnlyAccepts s levels (.level p) k .active → (k = .reacquired ∨ s.cfg.autoQueue = 0) →
          ∃ t, exec (.sampleInstant levels) s = .next t ∧ Sampled s levels t
            ∧ { s with base := t.base, inp := t.inp, sit := s.sit.set p { s.sit.get p with levelLow := true } } = t)
        ∧ (OnlyAccepts s levels (.level p) k .inactive →
          ∃ t, exec (.sampleInstant levels) s = .next t ∧ Sampled s levels t
            ∧ { s with base := t.base, inp := t.inp, sit := s.sit.set p { s.sit.get p with levelLow := false } } = t)
        ∧ (OnlyAccepts s levels (.level p) k .active → k = .edge → s.cfg.autoQueue ≠ 0 → NoCandidates s →
          place s p = none → (s.hist.get p).waterLock = none → s.line.stage ≠ .free →
          ∃ t, exec (.sampleInstant levels) s = .next t ∧ Sampled s levels t
            ∧ { s with
                base := t.base, inp := t.inp, sit := s.sit.set p { s.sit.get p with levelLow := true }
                queue :=
                  { entries :=
                      [{ tag := 0, kind := .water, string := p, cls := .routine, origin := .autoLevel,
                         submit := { time := s.clock.count, valid := s.clock.valid }, notBefore := none,
                         holdOverride := none, ahOverride := none }]
                    gen := (s.queue.gen + 1) % 256 } } = t)

/-! ### Measuring blocks -/

/-- At a slot start the slot's position is taken for measurement if it is fitted, and the next slot is the next
position's, 250 ms on (R18). -/
def Obligations.SlotStartSelects : Prop :=
  ∀ s : State, s.phase ≠ .held →
    exec .slotStart s = .next
      { s with
        base := { s.base with ms := max s.base.ms s.base.slotAt, slotAt := s.base.slotAt + 250 }
        scan :=
          { s.scan with
            nextSlot := s.scan.nextSlot.next
            measuring :=
              if s.cfg.fitted.testBit (s.scan.nextSlot.num - 1) then some s.scan.nextSlot else none } }

/-- A scan's completion replaces the string's entries and statistics whole and counts it, and recomputes its SENSE
fault's cell part; no other string's readings, no output and no channel changes when no channel holds the string
(R20, R59). For a string that a channel holds in HOLD, a scan without an OPEN cell whose maximum is above
CELL_MAX_MV makes a holdback: the ceiling comes down to one ramp step below the present cell demand, not below the
float setpoint and never up, and the demand is written at once (R102, R45, R47). -/
def Obligations.ScanCompletionReplaces : Prop :=
  (∀ (s : State) (p : Pos) (mvs : List Nat), s.scan.measuring = some p → mvs.length = 24 → Settled s →
    holder s p = none →
    ∃ t, exec (.scanCompletion mvs) s = .next t
      ∧ t.scan.strings.get p =
          { stats := some (statsOf (mvs.map cellEntry)), cells := mvs.map cellEntry,
            scanNo := ((s.scan.strings.get p).scanNo + 1) % 256 }
      ∧ (∀ q : Pos, q ≠ p → t.scan.strings.get q = s.scan.strings.get q ∧ t.sit.get q = s.sit.get q)
      ∧ t.scan.measuring = none ∧ t.scan.nextSlot = s.scan.nextSlot ∧ t.scan.currents = s.scan.currents
      ∧ (s.cfg.fitted.testBit (p.num - 1) = true →
          (t.sit.get p).senseCell = if mvs.any (fun v => decide (v < 500)) then .opened else .none)
      ∧ { s.sit.get p with senseCell := (t.sit.get p).senseCell, sensePilot := (t.sit.get p).sensePilot } =
          t.sit.get p
      ∧ (∀ c : Condition, c ≠ .senseFault → t.latches.get c = s.latches.get c)
      ∧ { s with
          base := { s.base with ms := max s.base.ms s.base.slotAt }, scan := t.scan, sit := t.sit,
          latches := t.latches } = t)
    ∧ ∀ (s : State) (p : Pos) (mvs : List Nat) (c : Ch) (x : Context) (v h w : Nat),
        s.scan.measuring = some p → mvs.length = 24 → Settled s → holder s p = some c →
        (s.chan.get c).stage = .hold → (s.chan.get c).ctx = some x → (s.present.get c).cell = some v →
        (∀ mv ∈ mvs, 500 ≤ mv) → (∃ mv ∈ mvs, s.cfg.cellMaxMv < min 3000 mv) →
        h = (match x.ceiling with
          | some old => min old (max (s.comp.get p).floatMv (v - s.cfg.rampStepMv))
          | none => max (s.comp.get p).floatMv (v - s.cfg.rampStepMv)) →
        w = max (min (s.comp.get p).eqMv h) (s.comp.get p).floatMv →
        ∃ t, exec (.scanCompletion mvs) s = .next t
          ∧ t.chan = s.chan.set c { s.chan.get c with ctx := some { x with ceiling := some h } }
          ∧ t.present = s.present.set c { code := min 4095 ((24 * w + 8) / 16), cell := some w }
          ∧ t.out = { s.out with charger := (s.out.charger.set c
              { s.out.charger.get c with demand := min 4095 ((24 * w + 8) / 16) }) }
          ∧ { s with
              base := { s.base with ms := max s.base.ms s.base.slotAt }, scan := t.scan, sit := t.sit,
              latches := t.latches, chan := t.chan, present := t.present, out := t.out } = t

/-- The statistics of 24 entries: the sum, the mean rounded down, the extremes each with the lowest-numbered cell
that holds it, and the two flags (R20). -/
def Obligations.StatisticsOfAScan : Prop :=
  ∀ l : List CellEntry, l.length = 24 →
    (statsOf l).sum = (l.map (·.mv)).sum ∧ (statsOf l).mean = (l.map (·.mv)).sum / 24
      ∧ 1 ≤ (statsOf l).minCell ∧ (l[(statsOf l).minCell - 1]?).map (·.mv) = some (statsOf l).minMv
      ∧ (∀ e ∈ l, (statsOf l).minMv ≤ e.mv)
      ∧ (∀ e ∈ l.take ((statsOf l).minCell - 1), (statsOf l).minMv < e.mv)
      ∧ 1 ≤ (statsOf l).maxCell ∧ (l[(statsOf l).maxCell - 1]?).map (·.mv) = some (statsOf l).maxMv
      ∧ (∀ e ∈ l, e.mv ≤ (statsOf l).maxMv)
      ∧ (∀ e ∈ l.take ((statsOf l).maxCell - 1), e.mv < (statsOf l).maxMv)
      ∧ ((statsOf l).anyOpen = true ↔ ∃ e ∈ l, e.isOpen = true)
      ∧ ((statsOf l).anyOver = true ↔ ∃ e ∈ l, e.isOver = true)

/-- A cell measurement's entry: above 3000 mV stored as 3000 with OVER, below 500 mV kept with OPEN, otherwise as
measured; never both flags; each cell on its own reading (R19). -/
def Obligations.CellEntryOfAMeasurement : Prop :=
  (∀ mv : Nat, 3000 < mv → cellEntry mv = { mv := 3000, isOver := true, isOpen := false })
    ∧ (∀ mv : Nat, mv < 500 → cellEntry mv = { mv := mv, isOver := false, isOpen := true })
    ∧ (∀ mv : Nat, 500 ≤ mv → mv ≤ 3000 → cellEntry mv = { mv := mv, isOver := false, isOpen := false })
    ∧ (∀ mv : Nat, ¬((cellEntry mv).isOver = true ∧ (cellEntry mv).isOpen = true) ∧ (cellEntry mv).mv ≤ 3000)
    ∧ ∀ (old : Scan) (mvs : List Nat), (old.complete mvs).cells = mvs.map cellEntry

/-- A second of the timer base with no channel in RAMP or HOLD: the eight samples are stored, clamped at 200.0 A
either way with the flag (R23), a fitted position's negative sample adds its magnitude to the throughput, which
saturates, and DUE is evaluated, here for strings it does not make due (R56, R57), and every running count of seconds
goes up by one (R55, R79, R80, R92, R112, R120, R136, R187); nothing else changes. That the current sample is the step
that counts the second is the model's (assumption 1), as is the record of the settings at that second, which the
timers' commands compare with (assumption 18). -/
def Obligations.CurrentSampleStores : Prop :=
  ∀ (s : State) (dA : Eight Int) (through : Pos → Nat), s.phase ≠ .held → Settled s →
    (∀ c : Ch, (s.chan.get c).stage ≠ .ramp ∧ (s.chan.get c).stage ≠ .hold) →
    (∀ p : Pos, through p = min 4294967295 ((s.hist.get p).throughput + min 2000 (dA.get p).natAbs)) →
    (∀ p : Pos, s.cfg.fitted.testBit (p.num - 1) = true → dA.get p < 0 →
      (s.hist.get p).hours < s.cfg.dueDays * 24 ∧ through p < s.cfg.dueAh * 36000) →
    ∃ t, exec (.currentSample dA) s = .next t
      ∧ (∀ p : Pos, t.scan.currents.get p =
          some { amps := max (-2000) (min 2000 (dA.get p)),
                 clamped := decide (2000 < dA.get p ∨ dA.get p < -2000) })
      ∧ (∀ p : Pos, t.hist.get p =
          if s.cfg.fitted.testBit (p.num - 1) = true ∧ dA.get p < 0 then
            { s.hist.get p with throughput := through p }
          else s.hist.get p)
      ∧ (∀ p : Pos, t.sit.get p =
          if s.cfg.fitted.testBit (p.num - 1) then
            { s.sit.get p with
              hourSec := (s.sit.get p).hourSec + 1
              due := if dA.get p < 0 then false else (s.sit.get p).due }
          else s.sit.get p)
      ∧ (∀ c : Ch, t.chan.get c =
          { s.chan.get c with
            ctx := (s.chan.get c).ctx.map fun x =>
              { x with stageTimer := x.stageTimer + 1, ageSec := x.ageSec + 1 }
            call := (s.chan.get c).call.map fun k =>
              if k.serving then k else { k with waitSec := k.waitSec + 1 } })
      ∧ t.held.entries = s.held.entries.map (fun h => { h with ctx := { h.ctx with ageSec := h.ctx.ageSec + 1 } })
      ∧ { s with
          base :=
            { s.base with
              runSec := s.base.runSec + 1, minuteSec := s.base.minuteSec + 1,
              ms := max s.base.ms (1000 * (s.base.runSec + 1)), atSecond := s.cfg }
          clock := { s.clock with count := (s.clock.count + 1) % 4294967296 }
          scan := { s.scan with currents := t.scan.currents }
          hist := t.hist, sit := t.sit, chan := t.chan, held := { s.held with entries := t.held.entries }
          supply := if 0 < s.supply.grantMin then { s.supply with grantSec := s.supply.grantSec + 1 } else s.supply
          perm :=
            { s.perm with
              purge := s.perm.purge.map (· + 1), runOn := s.perm.runOn.map (· + 1),
              lowSpeed := s.perm.lowSpeed.map (· + 1), recovery := s.perm.recovery.map (· + 1),
              grace := s.perm.grace.map (· + 1) }
          line := { s.line with timer := s.line.timer + 1 } } = t

/-- A channel's current sample: in RAMP and HOLD it adds to the charge, a negative sample as 0 and one above
1000 dA as 1000; in HOLD it adds to the window too; in any other stage it adds nothing; the charge that reaches
the Ah limit finishes the equalise into SETTLE with AH_LIMIT and the history update (R49, R50, R101, R103, R63).
The current sample of a second whose samples make no string due does this for both channels while none reaches its
limit, and for the one that does while the other is in neither RAMP nor HOLD, beside what a second counts anyway
(R23, R92). That the current sample is the step that counts the second is the model's (assumption 1), and so is
that the sample comes before the stage changes that fall due with it (assumption 23). -/
def Obligations.ChargeIsIntegrated : Prop :=
  ∀ (s : State) (c : Ch) (dA : Eight Int) (x : Context) (v : Nat), (s.chan.get c).ctx = some x →
    v = (max 0 (min 1000 (dA.get x.string))).toNat → x.charge + v ≤ 4294967295 →
    ((s.chan.get c).stage = .ramp → x.charge + v < x.ahLimit * 36000 →
      chargeSample s c dA =
        { s with chan := s.chan.set c { s.chan.get c with ctx := some { x with charge := x.charge + v } } })
    ∧ ((s.chan.get c).stage = .hold → x.charge + v < x.ahLimit * 36000 →
      chargeSample s c dA =
        { s with chan := s.chan.set c { s.chan.get c with ctx := (some
            { x with charge := x.charge + v, winSum := x.winSum + v, winCount := x.winCount + 1 }) } })
    ∧ ((s.chan.get c).stage ≠ .ramp → (s.chan.get c).stage ≠ .hold → chargeSample s c dA = s)
    ∧ (((s.chan.get c).stage = .ramp ∨ (s.chan.get c).stage = .hold) → x.ahLimit * 36000 ≤ x.charge + v →
      ((chargeSample s c dA).chan.get c).stage = .settle
      ∧ (((chargeSample s c dA).chan.get c).ctx.map fun y => (y.outcome, y.charge, y.finalCell)) =
          some (some .ahLimit, x.charge + v, (s.present.get c).cell)
      ∧ ((chargeSample s c dA).hist.get x.string).hours = 0
      ∧ ((chargeSample s c dA).hist.get x.string).throughput = 0
      ∧ ((chargeSample s c dA).sit.get x.string).due = false)
    ∧ (s.phase ≠ .held → Settled s → NoneDue s dA →
      ((∀ (d : Ch) (y : Context), (s.chan.get d).ctx = some y →
          (s.chan.get d).stage = .ramp ∨ (s.chan.get d).stage = .hold →
          (sampledContext (s.chan.get d).stage (dA.get y.string) y).charge < y.ahLimit * 36000) →
        ∃ t, exec (.currentSample dA) s = .next t
          ∧ (∀ p : Pos, t.scan.currents.get p =
              some { amps := max (-2000) (min 2000 (dA.get p)),
                     clamped := decide (2000 < dA.get p ∨ dA.get p < -2000) })
          ∧ (∀ p : Pos, t.hist.get p = sampledHistory s dA p ∧ t.sit.get p = sampledSituation s dA p)
          ∧ (∀ d : Ch, t.chan.get d = sampledChannel (s.chan.get d) dA)
          ∧ { secondPassed s with
              scan := { s.scan with currents := t.scan.currents }
              hist := t.hist, sit := t.sit, chan := t.chan } = t)
      ∧ (((s.chan.get c).stage = .ramp ∨ (s.chan.get c).stage = .hold) →
        (s.chan.get c.other).stage ≠ .ramp → (s.chan.get c.other).stage ≠ .hold →
        x.ahLimit * 36000 ≤ x.charge + v →
        ∃ t, exec (.currentSample dA) s = .next t
          ∧ t.chan = ((s.chan.set c.other (sampledChannel (s.chan.get c.other) dA)).set c
              { sampledChannel (s.chan.get c) dA with
                stage := .settle
                ctx := (some
                  { sampledContext (s.chan.get c).stage (dA.get x.string) x with
                    stageTimer := 0, finalCell := (s.present.get c).cell, outcome := some .ahLimit }) })
          ∧ t.hist.get x.string =
              { s.hist.get x.string with
                hours := 0, throughput := 0
                lastEq := some { time := (s.clock.count + 1) % 4294967296, valid := s.clock.valid } }
          ∧ t.sit.get x.string = { sampledSituation s dA x.string with hourSec := 0, due := false }
          ∧ (∀ p : Pos, p ≠ x.string →
              t.hist.get p = sampledHistory s dA p ∧ t.sit.get p = sampledSituation s dA p)
          ∧ t.present = s.present.set c
              { code := cellCode (s.comp.get x.string).floatMv, cell := some (s.comp.get x.string).floatMv }
          ∧ t.out.charger = s.out.charger.set c
              { s.out.charger.get c with demand := cellCode (s.comp.get x.string).floatMv }
          ∧ { secondPassed s with
              scan := { s.scan with currents := t.scan.currents }
              hist := t.hist, sit := t.sit, chan := t.chan, present := t.present, perm := t.perm
              out := { s.out with charger := t.out.charger, fan := t.out.fan } } = t))

/-- A pilot's conversion stores its counts, stopped at 1,048,575, and their class, and the temperature of a VALID
pair; the next conversion is the next channel's, 400 ms on (R25, R26). With no channel holding the string and no
candidate for admission only the records of that position follow it (R43, R59). The completion of TA, with both
channels IDLE, stores its record alike, recomputes the compensation records that its choice concerns and no other,
computes the float rectifier demand, directly the first time and through the hysteresis test later, and ends the
cycle; the next conversion is T1's, 800 ms on (R43, R48, R28). -/
def Obligations.ConversionIsStored : Prop :=
  (∀ (s : State) (p : Pos) (gateTh gateRef nTh nRef : Nat), s.phase ≠ .held → Settled s →
    s.temps.next = .pilot p → holder s p = none → NoCandidates s →
    nTh = min gateTh 1048575 → nRef = min gateRef 1048575 →
    ∃ t, exec (.conversionCompletion gateTh gateRef) s = .next t
      ∧ (t.temps.pilots.get p).nTh = some nTh ∧ (t.temps.pilots.get p).nRef = some nRef
      ∧ (t.temps.pilots.get p).state =
          (if nRef < 20000 ∨ 80000 < nRef then .opened
           else if nTh < 800 then .opened
           else if 120000 < nTh then .shorted
           else .valid)
      ∧ ((t.temps.pilots.get p).state = .valid →
          (t.temps.pilots.get p).temp = some (temperatureOf ((nRef * 1024 + nTh / 2) / nTh)).1
          ∧ (t.temps.pilots.get p).clamp = (temperatureOf ((nRef * 1024 + nTh / 2) / nTh)).2)
      ∧ ((t.temps.pilots.get p).state ≠ .valid →
          (t.temps.pilots.get p).temp = none ∧ (t.temps.pilots.get p).clamp = .none)
      ∧ (t.temps.pilots.get p).convNo = ((s.temps.pilots.get p).convNo + 1) % 256
      ∧ (∀ q : Pos, q ≠ p →
          t.temps.pilots.get q = s.temps.pilots.get q ∧ t.comp.get q = s.comp.get q
          ∧ t.sit.get q = s.sit.get q)
      ∧ t.temps.ambient = s.temps.ambient ∧ t.temps.next = (TempCh.pilot p).after
      ∧ (∀ c : Condition, c ≠ .senseFault → t.latches.get c = s.latches.get c)
      ∧ { s with
          base := { s.base with ms := max s.base.ms s.base.convAt, convAt := s.base.convAt + 400 },
          temps := t.temps, comp := t.comp, sit := t.sit, latches := t.latches } = t)
    ∧ ∀ (s : State) (gateTh gateRef nTh nRef : Nat), s.phase ≠ .held → Settled s → s.temps.next = .ambient →
        ChannelsIdle s → nTh = min gateTh 1048575 → nRef = min gateRef 1048575 →
        ∃ t, exec (.conversionCompletion gateTh gateRef) s = .next t
          ∧ t.temps.ambient.nTh = some nTh ∧ t.temps.ambient.nRef = some nRef
          ∧ t.temps.ambient.state =
              (if nRef < 20000 ∨ 80000 < nRef then .opened
               else if nTh < 800 then .opened
               else if 120000 < nTh then .shorted
               else .valid)
          ∧ (t.temps.ambient.state = .valid →
              t.temps.ambient.temp = some (temperatureOf ((nRef * 1024 + nTh / 2) / nTh)).1
              ∧ t.temps.ambient.clamp = (temperatureOf ((nRef * 1024 + nTh / 2) / nTh)).2)
          ∧ (t.temps.ambient.state ≠ .valid → t.temps.ambient.temp = none ∧ t.temps.ambient.clamp = .none)
          ∧ t.temps.ambient.convNo = (s.temps.ambient.convNo + 1) % 256
          ∧ t.temps.pilots = s.temps.pilots ∧ t.temps.next = .pilot .p1 ∧ t.temps.cycleEnded = true
          ∧ (∀ p : Pos, (s.temps.pilots.get p).state ≠ .valid → t.comp.get p = compRecord t p)
          ∧ (∀ p : Pos, (s.comp.get p).source = .ambient → t.comp.get p = compRecord t p)
          ∧ (∀ p : Pos, (s.temps.pilots.get p).state = .valid → (s.temps.pilots.get p).temp.isSome = true →
              (s.comp.get p).source ≠ .ambient → t.comp.get p = s.comp.get p)
          ∧ t.out.floatDemand =
              (if s.out.floatComputed = true ∧ floatCode t < s.out.floatDemand + 2
                  ∧ s.out.floatDemand < floatCode t + 2 then s.out.floatDemand
               else floatCode t)
          ∧ { s with
              base := { s.base with ms := max s.base.ms s.base.convAt, convAt := s.base.convAt + 800 }
              temps := t.temps, comp := t.comp
              out := { s.out with floatDemand := t.out.floatDemand, floatComputed := true } } = t

/-- The compensation offset: the product p rounded to whole millivolts with halves away from zero, its magnitude
floor((|p| + 50) / 100) and its sign that of p; 0 for TCOMP 0; within −125..125 for the settings' ranges; and the
worked values (R42). -/
def Obligations.CompensationOffset : Prop :=
  (∀ (tcomp : Nat) (tc10 : Int),
    compOffset tcomp tc10 =
      if 0 ≤ (tcomp : Int) * (tc10 - 250) then
        (((((tcomp : Int) * (tc10 - 250)).natAbs + 50) / 100 : Nat) : Int)
      else -(((((tcomp : Int) * (tc10 - 250)).natAbs + 50) / 100 : Nat) : Int))
    ∧ (∀ tc10 : Int, compOffset 0 tc10 = 0)
    ∧ (∀ (tcomp : Nat) (tc10 : Int), tcomp ≤ 50 → 0 ≤ tc10 → tc10 ≤ 500 →
        -125 ≤ compOffset tcomp tc10 ∧ compOffset tcomp tc10 ≤ 125)
    ∧ (∀ (tcomp : Nat) (tc10 : Int), 250 < tc10 → 0 ≤ compOffset tcomp tc10)
    ∧ (∀ (tcomp : Nat) (tc10 : Int), tc10 < 250 → compOffset tcomp tc10 ≤ 0)
    ∧ compOffset 30 298 = 14 ∧ compOffset 30 301 = 15 ∧ compOffset 30 306 = 17 ∧ compOffset 30 200 = -15
    ∧ compOffset 25 252 = 1 ∧ compOffset 25 248 = -1

/-- A compensation record's setpoints lie in their windows and their codes in the windows' codes, and with
EQ_CELL_MV not below FLOAT_CELL_MV the equalise setpoint is not below the float setpoint (R43, R44). The float
rectifier demand's code lies in its window; its first computation writes it and sets the computed flag, and a later
one writes it when it differs by 2 or more and otherwise changes nothing (R48). -/
def Obligations.SetpointsStayInTheirWindows : Prop :=
  (∀ (s : State) (p : Pos),
    2250 ≤ (compRecord s p).eqMv ∧ (compRecord s p).eqMv ≤ 2550
    ∧ 2150 ≤ (compRecord s p).floatMv ∧ (compRecord s p).floatMv ≤ 2350
    ∧ 3375 ≤ cellCode (compRecord s p).eqMv ∧ cellCode (compRecord s p).eqMv ≤ 3825
    ∧ 3225 ≤ cellCode (compRecord s p).floatMv ∧ cellCode (compRecord s p).floatMv ≤ 3525
    ∧ (s.cfg.floatCellMv ≤ s.cfg.eqCellMv → (compRecord s p).floatMv ≤ (compRecord s p).eqMv))
    ∧ ∀ s : State, 3225 ≤ floatCode s ∧ floatCode s ≤ 3525
        ∧ (s.out.floatComputed = false →
          computeFloat s = { s with out := { s.out with floatDemand := floatCode s, floatComputed := true } })
        ∧ (s.out.floatComputed = true →
          (s.out.floatDemand + 2 ≤ floatCode s ∨ floatCode s + 2 ≤ s.out.floatDemand) →
          computeFloat s = { s with out := { s.out with floatDemand := floatCode s, floatComputed := true } })
        ∧ (s.out.floatComputed = true → floatCode s < s.out.floatDemand + 2 →
          s.out.floatDemand < floatCode s + 2 → computeFloat s = s)

/-- A counted flow pulse raises the total, stamps the running second and lowers the account by one pulse's volume,
not below 0; with no watering in progress the line is unchanged (R30, R140, R153). A return to REST changes the
filtered level alone, and a level that stays PULSE is not counted again. -/
def Obligations.FlowPulseIsCounted : Prop :=
  (∀ s : State, s.phase ≠ .held → s.flow.pulse = false → Settled s →
    (s.line.stage = .free ∨ s.line.stage = .manual) →
    ∃ t, exec .flowPulse s = .next t
      ∧ (∀ c : Condition, c ≠ .reservoirLow → t.latches.get c = s.latches.get c)
      ∧ { s with
          flow := { pulse := true, total := (s.flow.total + 1) % 4294967296, lastPulse := some s.base.runSec }
          reservoir :=
            { account := s.reservoir.account - s.cfg.flowMlPerPulse
              low := decide (s.reservoir.account - s.cfg.flowMlPerPulse < s.cfg.reservoirLowMl) }
          latches := t.latches } = t)
    ∧ (∀ s : State, exec .flowRest s = .next { s with flow := { s.flow with pulse := false } })
    ∧ ∀ s : State, s.flow.pulse = true → exec .flowPulse s = .next s

/-- A tach edge: the first sets the reference, one within 500 µs is ignored, and a later one gives the period and
the speed, which Site Permissions takes (R32, R122); when 2 s have passed since the reference, the timeout gives
speed 0 and no reference (R33). That the 2 s are counted to the next sample instant is the model's (assumption 1). -/
def Obligations.TachEdgeGivesSpeed : Prop :=
  (∀ (s : State) (at' : Nat), s.phase ≠ .held → s.tach.reference = none →
    exec (.tachEdge at') s = .next { s with tach := { s.tach with reference := some at' } })
    ∧ (∀ (s : State) (at' r : Nat), s.tach.reference = some r → at' < r + 500 →
        exec (.tachEdge at') s = .next s)
    ∧ (∀ (s : State) (at' r : Nat), s.phase ≠ .held → s.tach.reference = some r → r + 500 ≤ at' →
        s.perm.ventFailed = false → Settled s →
        exec (.tachEdge at') s = .next
          { s with
            tach := { reference := some at', period := some (at' - r), speed := 30000000 / (at' - r) }
            perm :=
              { s.perm with
                speed := 30000000 / (at' - r)
                lowSpeed :=
                  if s.perm.fan = true ∧ 30000000 / (at' - r) < s.cfg.fanMinRpm then
                    some (s.perm.lowSpeed.getD 0)
                  else none } })
    ∧ ∀ (s : State) (r : Nat), s.tach.reference = some r → r + 2000000 ≤ 1000 * max s.base.ms s.base.sampleAt →
        s.perm.ventFailed = false → Settled s →
        exec .tachTimeout s = .next
          { s with
            tach := { reference := none, period := none, speed := 0 }
            perm :=
              { s.perm with
                speed := 0
                lowSpeed :=
                  if s.perm.fan = true ∧ 0 < s.cfg.fanMinRpm then some (s.perm.lowSpeed.getD 0) else none } }

/-! ### The String Table -/

/-- A fitted position's hour: hour seconds give 3600 up and hours_since_eq goes up by one, saturating; with the
string not due DUE is clear, and with it due and DUE set nothing more happens (R55, R57). -/
def Obligations.HourIsCounted : Prop :=
  ∀ (s : State) (p : Pos) (h : Nat), s.cfg.fitted.testBit (p.num - 1) = true → 3600 ≤ (s.sit.get p).hourSec →
    Settled s → h = min 65535 ((s.hist.get p).hours + 1) →
    ((h < s.cfg.dueDays * 24 → (s.hist.get p).throughput < s.cfg.dueAh * 36000 →
      exec (.hourRollover p) s = .next
        { s with
          sit := s.sit.set p { s.sit.get p with hourSec := (s.sit.get p).hourSec - 3600, due := false }
          hist := s.hist.set p { s.hist.get p with hours := h } })
    ∧ (s.cfg.dueDays * 24 ≤ h → (s.sit.get p).due = true →
      exec (.hourRollover p) s = .next
        { s with
          sit := s.sit.set p { s.sit.get p with hourSec := (s.sit.get p).hourSec - 3600 }
          hist := s.hist.set p { s.hist.get p with hours := h } }))

/-- A rise of DUE with AUTO_QUEUE ON: the flag is set, an EQUALISE_THEN_WATER entry of origin AUTO_DUE goes to the
end of the queue, and STRING_DUE latches with value QUEUED; with AUTO_QUEUE OFF no entry is offered and the value
is AUTO_OFF (R57, R75, R171). -/
def Obligations.DueRiseOffersAnEntry : Prop :=
  ∀ (s : State) (p : Pos), s.cfg.fitted.testBit (p.num - 1) = true → (s.sit.get p).due = false →
    (s.cfg.dueDays * 24 ≤ (s.hist.get p).hours ∨ s.cfg.dueAh * 36000 ≤ (s.hist.get p).throughput) →
    s.latches.stringDue = none →
    ((s.cfg.autoQueue ≠ 0 → place s p = none → (s.hist.get p).eqLock = none → (s.hist.get p).waterLock = none →
      s.queue.entries.length < 12 →
      dueEvaluate s p =
        { s with
          sit := s.sit.set p { s.sit.get p with due := true }
          queue :=
            { entries := s.queue.entries ++
                [{ tag := 0, kind := .equaliseThenWater, string := p, cls := .routine, origin := .autoDue,
                   submit := { time := s.clock.count, valid := s.clock.valid }, notBefore := none,
                   holdOverride := none, ahOverride := none }]
              gen := (s.queue.gen + 1) % 256 }
          due := { s.due with admission := true }
          latches := { s.latches with stringDue := (some
            { string := p.num, value := 0, captured := none,
              time := { time := s.clock.count, valid := s.clock.valid }, again := 0, pending := true }) } })
    ∧ (s.cfg.autoQueue = 0 →
      dueEvaluate s p =
        { s with
          sit := s.sit.set p { s.sit.get p with due := true }
          latches := { s.latches with stringDue := (some
            { string := p.num, value := 1, captured := none,
              time := { time := s.clock.count, valid := s.clock.valid }, again := 0, pending := true }) } }))

/-! ### The Round Queue and admission -/

/-- A minute evaluation that finds one WATER entry passing every test admits it: the entry leaves the queue, the
marker is set, the string is WATERING on the line, and the line enters PRIMING with the string's valve open (R80,
R86, R88, R138). -/
def Obligations.MinuteAdmitsAWatering : Prop :=
  ∀ (s : State) (e : Entry), 60 ≤ s.base.minuteSec → s.restartAt = none → Settled s → s.held.entries = [] →
    s.queue.entries = [e] → e.kind = .water → e.notBefore = none → (s.sit.get e.string).role = .float →
    (s.hist.get e.string).waterLock = none → s.line.stage = .free → s.line.waiting = [] →
    presents s .h2Alarm = .inactive → s.perm.purge = none → s.cfg.doseMl ≤ s.reservoir.account →
    presents s .resLow = .inactive →
    exec .minuteEvaluation s = .next
      { s with
        base := { s.base with minuteSec := s.base.minuteSec - 60 }
        queue := { entries := [], gen := (s.queue.gen + 1) % 256 }
        hist := s.hist.set e.string
          { s.hist.get e.string with roundOpen := (some
              { kind := .water, first := { time := s.clock.count, valid := s.clock.valid } }) }
        sit := s.sit.set e.string { s.sit.get e.string with role := .watering, assigned := some .line }
        line :=
          { s.line with
            stage := .priming, owner := some .round, string := some e.string
            identity := (some
              { tag := e.tag, origin := e.origin, first := { time := s.clock.count, valid := s.clock.valid } })
            dose := none, ml := 0, pulses := 0, doses := 0, doseMl := 0, outcome := none, timer := 0
            flowRef := none }
        out := { s.out with valve := s.out.valve.set e.string .opened } }

/-- Where an entry is placed: an URGENT one after the last URGENT and before the first ROUTINE entry, a ROUTINE one
at the end; the entries that stand keep their order (R71). -/
def Obligations.QueueOrderIsKept : Prop :=
  ∀ (u r : List Entry) (e : Entry), (∀ x ∈ u, x.cls = .urgent) → (∀ x ∈ r, x.cls = .routine) →
    (e.cls = .urgent → placeIn (u ++ r) e = u ++ e :: r)
    ∧ (e.cls = .routine → placeIn (u ++ r) e = u ++ r ++ [e])

/-- A candidate's blocked reason is the first test of its kind that fails, in the order of R82 or R86, and NONE
when every test passes (R82, R86, R87). -/
def Obligations.BlockedReasonIsFirstFailing : Prop :=
  ∀ (s : State) (p : Pos) (k : Kind) (role : Role) (nb : Option Nat),
    equaliseBlocked s p k role nb =
      (if equaliseStringTest s p k role = false then .string
       else if waitingTest s nb = false then .waiting
       else if freeChannel s = none then .channel
       else if s.supply.surplus = false then .supply
       else if ¬(presents s .h2Alarm = .inactive ∧ s.perm.purge = none) then .h2
       else if ¬(s.perm.ventFailed = false ∧ committedGassing s < s.cfg.ventMaxGassing) then .vent
       else if freeOnBusCount s < s.cfg.reserve + 1 then .reserve
       else if tempTest s p = false then .temp
       else .none)
    ∧ waterBlocked s p nb =
      (if ¬((s.sit.get p).role = .float ∧ (s.hist.get p).waterLock = none) then .string
       else if waitingTest s nb = false then .waiting
       else if ¬(s.line.stage = .free ∧ s.line.waiting = []) then .line
       else if ¬(presents s .h2Alarm = .inactive ∧ s.perm.purge = none) then .h2
       else if ¬(s.cfg.doseMl ≤ s.reservoir.account ∧ presents s .resLow = .inactive) then .waterSupply
       else .none)

/-! ### Equalise Channels -/

/-- The admission of an equalise entry whose KS feedback does not yet show the channel's bus: the marker, the role,
the new context with its limits, step 1's demand, limit and enable, KS commanded to the channel's bus and the step
timer running; KF and KE are as they were (R88, R94, R95, R46). The first delivery of KS that shows the bus
completes step 2, and step 3 commands KF OPEN, takes the string off the bus and waits (R95, R94, R60), here with the
reserve kept (R127); the delivery of KE that shows CLOSED completes step 4, and the channel enters RAMP at the float
setpoint (R98, R45, R47). -/
def Obligations.AdmissionStartsTransferOut : Prop :=
  (∀ (s : State) (e : Entry) (c : Ch), e.kind ≠ .water → freeChannel s = some c →
    busShown (presents s (.ks e.string)) ≠ some c →
    ((admitEntry s e).chan.get c).stage = .transferOut
    ∧ ((admitEntry s e).chan.get c).wait =
        some { contactor := .ks, start := s.base.ms, limit := s.cfg.contactorMs }
    ∧ ((admitEntry s e).chan.get c).toStart = some s.base.runSec
    ∧ ((admitEntry s e).chan.get c).call = none
    ∧ (((admitEntry s e).chan.get c).ctx.map fun x =>
        (x.string, x.kind, x.tag, x.origin, x.holdLimit, x.ahLimit)) =
        some (e.string, e.kind, e.tag, e.origin, e.holdOverride.getD s.cfg.eqMaxHoldMin,
          e.ahOverride.getD s.cfg.eqMaxAh)
    ∧ (((admitEntry s e).chan.get c).ctx.map fun x =>
        (x.ageMin, x.holdMin, x.charge, x.flat, x.susp, x.weakFound, x.outcome, x.ceiling)) =
        some (0, 0, 0, 0, 0, 0, none, none)
    ∧ (admitEntry s e).out.charger.get c =
        { enable := true, demand := measuredCode s e.string, limit := min 4095 (4 * s.cfg.eqIlimit) }
    ∧ (admitEntry s e).out.ks.get e.string = c
    ∧ (admitEntry s e).out.kf = s.out.kf ∧ (admitEntry s e).out.ke = s.out.ke
    ∧ ((admitEntry s e).sit.get e.string).role = .equalising
    ∧ ((admitEntry s e).sit.get e.string).assigned = some (.channel c)
    ∧ ((admitEntry s e).hist.get e.string).roundOpen =
        some { kind := e.kind, first := { time := s.clock.count, valid := s.clock.valid } }
    ∧ (admitEntry s e).queue = { entries := s.queue.entries.filter (· != e), gen := (s.queue.gen + 1) % 256 }
    ∧ (admitEntry s e).chan.get c.other = s.chan.get c.other
    ∧ (admitEntry s e).log = s.log ∧ (admitEntry s e).held = s.held ∧ (admitEntry s e).line = s.line
    ∧ (admitEntry s e).latches = s.latches)
    ∧ ∀ (s : State) (levels : BitVec 35) (k : DeliveryKind) (c : Ch) (x : Context) (w : Wait), s.phase ≠ .held →
        Settled s → NoCandidates s → (s.chan.get c).stage = .transferOut → (s.chan.get c).ctx = some x →
        (s.chan.get c).wait = some w → holder s x.string = some c →
        (w.contactor = .ks → OnlyAccepts s levels (.ks x.string) k (if c = .b then .active else .inactive) →
          presents s (.kf x.string) ≠ .inactive → (s.sit.get x.string).onBus = true →
          s.cfg.reserve + 1 ≤ onBusCount s →
          ∃ t, exec (.sampleInstant levels) s = .next t ∧ Sampled s levels t
            ∧ { s with
                base := t.base, inp := t.inp
                chan := s.chan.set c { s.chan.get c with wait := (some
                  { contactor := .kf, start := t.base.ms, limit := s.cfg.contactorMs }) }
                out := { s.out with kf := s.out.kf.set x.string .opened }
                sit := s.sit.set x.string { s.sit.get x.string with onBus := false }
                perm := { s.perm with breach := false } } = t)
        ∧ (∀ v : Nat, w.contactor = .ke → OnlyAccepts s levels (.ke x.string) k .active →
          v = (s.comp.get x.string).floatMv → v < effectiveTarget s { x with k := 0 } →
          ∃ t, exec (.sampleInstant levels) s = .next t ∧ Sampled s levels t
            ∧ t.chan = s.chan.set c
                { s.chan.get c with stage := .ramp, ctx := (some { x with k := 0, stageTimer := 0 }), wait := none }
            ∧ t.present = s.present.set c { code := min 4095 ((24 * v + 8) / 16), cell := some v }
            ∧ t.out.charger = s.out.charger.set c
                { s.out.charger.get c with demand := min 4095 ((24 * v + 8) / 16) }
            ∧ t.out.ke = s.out.ke ∧ t.out.kf = s.out.kf ∧ t.out.ks = s.out.ks ∧ t.sit = s.sit ∧ t.hist = s.hist
            ∧ t.log = s.log ∧ t.line = s.line ∧ t.latches = s.latches ∧ t.held = s.held ∧ t.queue = s.queue)

/-- A TRANSFER_OUT that times out at step 3: the outcome CONTACTOR, EQ_LOCK with reason CONTACTOR, CONTACTOR_FAULT
naming KF without a captured level, the charger off with codes 0, and the return, which commands KF CLOSED and waits
for it (R96, R114, R171). That the limit is counted to the next sample instant is the model's (assumption 1). A
delivery of KE that shows OPEN in HOLD is a disagreement: the same outcome and lock, CONTACTOR_FAULT naming KE with
the captured level, and the return, which finds KE OPEN, commands KF CLOSED and waits for it (R97, R103). -/
def Obligations.TransferOutTimesOut : Prop :=
  (∀ (s : State) (c : Ch) (x : Context) (w : Wait), (s.chan.get c).stage = .transferOut →
    (s.chan.get c).ctx = some x → (s.chan.get c).call = none → (s.chan.get c).wait = some w →
    w.contactor = .kf → w.start + w.limit ≤ s.base.sampleAt →
    s.out.kf.get x.string = .opened → s.out.ke.get x.string = .opened →
    presents s (.kf x.string) ≠ .active → (s.sit.get x.string).onBus = false → s.perm.ventFailed = false →
    s.latches.contactorFault = none → Settled s →
    ∃ t, exec (.transferOutTimeout c) s = .next t
      ∧ (t.chan.get c).stage = .transferBack
      ∧ ((t.chan.get c).wait.map fun v => (v.contactor, v.limit)) = some (.kf, s.cfg.contactorMs)
      ∧ (t.chan.get c).ctx =
          some { x with stageTimer := 0, outcome := some .contactor, exit := some (.aborted .contactor) }
      ∧ t.out.charger.get c = { enable := false, demand := 0, limit := 0 }
      ∧ t.out.kf = s.out.kf.set x.string .closed ∧ t.out.ke = s.out.ke ∧ t.out.ks = s.out.ks
      ∧ t.hist = s.hist.set x.string { s.hist.get x.string with eqLock := some .contactor }
      ∧ t.latches.contactorFault =
          some { string := x.string.num, value := 2, captured := none,
                 time := { time := s.clock.count, valid := s.clock.valid }, again := 0, pending := true }
      ∧ t.chan.get c.other = s.chan.get c.other ∧ t.out.charger.get c.other = s.out.charger.get c.other
      ∧ t.sit = s.sit ∧ t.log = s.log ∧ t.queue = s.queue ∧ t.held = s.held ∧ t.line = s.line
      ∧ t.link = s.link)
    ∧ ∀ (s : State) (levels : BitVec 35) (k : DeliveryKind) (c : Ch) (x : Context), s.phase ≠ .held → Settled s →
        NoCandidates s → OnlyAccepts s levels (.ke x.string) k .inactive → (s.chan.get c).stage = .hold →
        (s.chan.get c).ctx = some x → (s.chan.get c).call = none → (s.chan.get c).wait = none →
        holder s x.string = some c → (s.sit.get x.string).role = .equalising →
        s.out.ke.get x.string = .closed → s.out.kf.get x.string = .opened →
        presents s (.kf x.string) ≠ .active → (s.sit.get x.string).onBus = false →
        s.latches.contactorFault = none →
        ∃ t, exec (.sampleInstant levels) s = .next t ∧ Sampled s levels t
          ∧ t.chan = s.chan.set c
              { s.chan.get c with
                stage := .transferBack
                ctx := (some
                  { x with
                    stageTimer := 0, finalCell := (s.present.get c).cell, outcome := some .contactor
                    exit := some (.aborted .contactor) })
                wait := (some { contactor := .kf, start := t.base.ms, limit := s.cfg.contactorMs }) }
          ∧ t.out.charger = s.out.charger.set c { enable := false, demand := 0, limit := 0 }
          ∧ t.out.ke = s.out.ke.set x.string .opened ∧ t.out.kf = s.out.kf.set x.string .closed
          ∧ t.out.ks = s.out.ks
          ∧ t.hist = s.hist.set x.string { s.hist.get x.string with eqLock := some .contactor }
          ∧ t.latches = { s.latches with contactorFault := (some
              { string := x.string.num, value := 3, captured := (t.inp.get (.ke x.string)).captured,
                time := { time := s.clock.count, valid := s.clock.valid }, again := 0, pending := true }) }
          ∧ t.sit = s.sit ∧ t.log = s.log ∧ t.queue = s.queue ∧ t.held = s.held ∧ t.line = s.line
          ∧ t.link = s.link

/-- A return that times out at step 2, KE not seen open: the string is ISOLATED for KE_STUCK, EQ_LOCK is set, the
round ends with outcome CONTACTOR and its record, whatever its exit was, and the channel is IDLE; every contactor
keeps its command (R115, R116, R62, R161). That the limit is counted to the next sample instant is the model's
(assumption 1). The recovery: KE seen OPEN commands KF CLOSED and turns KE_STUCK into KF_STUCK; KF seen CLOSED then
makes the string FLOAT with KS at A and on bus again (R62, R60). -/
def Obligations.TransferBackTimesOut : Prop :=
  (∀ (s : State) (c : Ch) (x : Context) (w : Wait), (s.chan.get c).stage = .transferBack →
    (s.chan.get c).ctx = some x → (s.chan.get c).call = none → (s.chan.get c).wait = some w →
    w.contactor = .ke → w.start + w.limit ≤ s.base.sampleAt → (s.chan.get c.other).stage = .idle →
    x.waterDeferred = false → s.restartAt = none → NoCandidates s → s.latches.stringIsolated = none →
    Settled s →
    ∃ t, exec (.transferBackTimeout c) s = .next t
      ∧ (t.chan.get c).stage = .idle ∧ (t.chan.get c).ctx = none ∧ (t.chan.get c).wait = none
      ∧ t.sit.get x.string =
          { s.sit.get x.string with role := .isolated, assigned := none, isolation := some .keStuck }
      ∧ t.hist.get x.string = { s.hist.get x.string with eqLock := some .contactor, roundOpen := none }
      ∧ (t.log.ring.getLast?.map fun r => (r.seq, r.string, r.outcome, r.susp)) =
          some (s.log.nextSeq, x.string, .contactor, some x.susp)
      ∧ t.log.nextSeq = (s.log.nextSeq + 1) % 65536
      ∧ t.latches.stringIsolated =
          some { string := x.string.num, value := 2, captured := none,
                 time := { time := s.clock.count, valid := s.clock.valid }, again := 0, pending := true }
      ∧ t.out.kf = s.out.kf ∧ t.out.ke = s.out.ke ∧ t.out.ks = s.out.ks
      ∧ (∀ q : Pos, q ≠ x.string → t.sit.get q = s.sit.get q ∧ t.hist.get q = s.hist.get q)
      ∧ t.queue = s.queue ∧ t.held = s.held ∧ t.line = s.line ∧ t.link = s.link)
    ∧ ∀ (s : State) (levels : BitVec 35) (k : DeliveryKind) (p : Pos), s.phase ≠ .held → Settled s →
        NoCandidates s → (s.sit.get p).role = .isolated → (s.sit.get p).onBus = false →
        ((s.sit.get p).isolation = some .keStuck → OnlyAccepts s levels (.ke p) k .inactive →
          presents s (.kf p) ≠ .active → holder s p = none →
          ∃ t, exec (.sampleInstant levels) s = .next t ∧ Sampled s levels t
            ∧ { s with
                base := t.base, inp := t.inp, out := { s.out with kf := s.out.kf.set p .closed }
                sit := s.sit.set p { s.sit.get p with isolation := some .kfStuck } } = t)
        ∧ ((s.sit.get p).isolation = some .kfStuck → OnlyAccepts s levels (.kf p) k .active →
          s.out.kf.get p = .closed → s.cfg.fitted.testBit (p.num - 1) = true → ChannelsIdle s →
          ∃ t, exec (.sampleInstant levels) s = .next t ∧ Sampled s levels t
            ∧ { s with
                base := t.base, inp := t.inp, out := { s.out with ks := s.out.ks.set p .a }
                sit := s.sit.set p { s.sit.get p with role := .float, isolation := none, onBus := true }
                perm := { s.perm with breach := false } } = t)

/-- A ramp step that does not reach the target: k goes up by one, the stage timer returns to 0, and the demand is
the code of the float setpoint plus k steps, written at once; nothing else changes (R98, R45, R47). The step is due
when the stage timer reaches RAMP_STEP_MIN as it stood at the last second. -/
def Obligations.RampStepRaisesDemand : Prop :=
  ∀ (s : State) (c : Ch) (x : Context) (v : Nat), (s.chan.get c).stage = .ramp →
    (s.chan.get c).ctx = some x → s.base.atSecond.rampStepMin * 60 ≤ x.stageTimer → x.k < 255 → Settled s →
    v = (s.comp.get x.string).floatMv + (x.k + 1) * s.cfg.rampStepMv → v < effectiveTarget s x →
    exec (.rampStep c) s = .next
      { s with
        chan := s.chan.set c { s.chan.get c with ctx := some { x with k := x.k + 1, stageTimer := 0 } }
        present := s.present.set c { code := min 4095 ((24 * v + 8) / 16), cell := some v }
        out := { s.out with charger := (s.out.charger.set c
          { s.out.charger.get c with demand := min 4095 ((24 * v + 8) / 16) }) } }

/-- A minute in HOLD inside a window and short of the hold limit counts in hold_min and the window alone; the minute
that reaches the hold limit inside a window finishes the hold with TIME_LIMIT into SETTLE, with the history update
(R99, R103, R63). -/
def Obligations.HoldMinuteCounts : Prop :=
  ∀ (s : State) (c : Ch) (x : Context), (s.chan.get c).stage = .hold → (s.chan.get c).ctx = some x →
    60 ≤ x.holdSec → x.winMin + 1 < s.cfg.flatWindowMin → s.perm.ventFailed = false → Settled s →
    ((x.holdMin + 1 < x.holdLimit →
      exec (.holdMinute c) s = .next
        { s with chan := s.chan.set c { s.chan.get c with ctx := (some
            { x with holdSec := x.holdSec - 60, holdMin := x.holdMin + 1, winMin := x.winMin + 1 }) } })
    ∧ (x.holdLimit ≤ x.holdMin + 1 →
      ∃ t, exec (.holdMinute c) s = .next t ∧ (t.chan.get c).stage = .settle
        ∧ ((t.chan.get c).ctx.map fun y => (y.outcome, y.holdMin, y.finalCell, y.stageTimer)) =
            some (some .timeLimit, x.holdMin + 1, (s.present.get c).cell, 0)
        ∧ t.hist = s.hist.set x.string
            { s.hist.get x.string with
              hours := 0, throughput := 0,
              lastEq := some { time := s.clock.count, valid := s.clock.valid } }
        ∧ t.sit = s.sit.set x.string { s.sit.get x.string with hourSec := 0, due := false }
        ∧ (t.present.get c).cell = some (s.comp.get x.string).floatMv
        ∧ t.chan.get c.other = s.chan.get c.other ∧ t.log = s.log ∧ t.queue = s.queue ∧ t.line = s.line))

/-- The two tests of a window's end: runaway needs a previous average exceeded by more than FLAT_DELTA and a pilot
that has risen by at least RUNAWAY_DT in the window; flatness counts up within FLAT_DELTA either way, returns to 0
beyond it, and is left alone without a previous average (R51, R52). The Weak Cell List's answer to a cell that the
screening of the same window offers: UPDATED for a string and cell it holds, NEW with WEAK_CELL naming the cell while
fewer than 32 entries stand, and FULL with WEAK_CELL naming LIST_FULL otherwise (R118, R167). -/
def Obligations.FlatnessAndRunaway : Prop :=
  (∀ (s : State) (x : Context) (avg : Nat),
    (∀ r : Nat, runawayRise s x avg = some r ↔
      ∃ (prev : Nat) (t₀ t : Int), x.prevAvg = some prev ∧ x.winTemp = some t₀
        ∧ pilotReading s x.string = some t ∧ prev + s.cfg.flatDelta < avg
        ∧ (s.cfg.runawayDt : Int) ≤ t - t₀ ∧ r = (t - t₀).toNat)
    ∧ (x.prevAvg = none → flatAfter s x avg = x.flat)
    ∧ (∀ prev : Nat, x.prevAvg = some prev → ((avg : Int) - prev).natAbs ≤ s.cfg.flatDelta →
        flatAfter s x avg = x.flat + 1)
    ∧ (∀ prev : Nat, x.prevAvg = some prev → s.cfg.flatDelta < ((avg : Int) - prev).natAbs →
        flatAfter s x avg = 0))
    ∧ ∀ (s : State) (p : Pos) (cell deficit : Nat),
        ((∃ e ∈ s.weak.entries, e.string = p ∧ e.cell = cell) →
          weakOffer s p cell deficit =
            ({ s with weak :=
                { entries := s.weak.entries.map fun e =>
                    if e.string = p ∧ e.cell = cell then
                      { e with deficit := deficit, windows := min 255 (e.windows + 1) }
                    else e
                  gen := (s.weak.gen + 1) % 256 } }, .updated))
        ∧ ((∀ e ∈ s.weak.entries, e.string = p → e.cell ≠ cell) → s.weak.entries.length < 32 →
          s.latches.weakCell = none →
          weakOffer s p cell deficit =
            ({ s with
                weak :=
                  { entries := s.weak.entries ++
                      [{ string := p, cell := cell
                         first := { time := s.clock.count, valid := s.clock.valid }, deficit := deficit
                         windows := 1 }]
                    gen := (s.weak.gen + 1) % 256 }
                latches := { s.latches with weakCell := (some
                  { string := p.num, value := cell, captured := none,
                    time := { time := s.clock.count, valid := s.clock.valid }, again := 0, pending := true }) } },
              .fresh))
        ∧ ((∀ e ∈ s.weak.entries, e.string = p → e.cell ≠ cell) → 32 ≤ s.weak.entries.length →
          s.latches.weakCell = none →
          weakOffer s p cell deficit =
            ({ s with latches := { s.latches with weakCell := (some
                { string := p.num, value := 255, captured := none,
                  time := { time := s.clock.count, valid := s.clock.valid }, again := 0, pending := true }) } },
              .full))

/-- The settle's end: a round of kind EQUALISE starts its return, with the charger off, KE commanded OPEN and the
step timer running; an EQUALISE_THEN_WATER round without WATER_LOCK enters WATER, and a FREE line takes its call at
once and opens the string's valve (R109, R111, R114, R138). The end is due when the stage timer reaches SETTLE_MIN as
it stood at the last second. -/
def Obligations.SettleEndsTheStage : Prop :=
  ∀ (s : State) (c : Ch) (x : Context), (s.chan.get c).stage = .settle → (s.chan.get c).ctx = some x →
    s.base.atSecond.settleMin * 60 ≤ x.stageTimer → s.perm.ventFailed = false → Settled s →
    ((x.kind = .equalise → s.out.ke.get x.string = .closed → presents s (.ke x.string) ≠ .inactive →
      ∃ t, exec (.settleEnd c) s = .next t ∧ (t.chan.get c).stage = .transferBack
        ∧ (t.chan.get c).wait = some { contactor := .ke, start := s.base.ms, limit := s.cfg.contactorMs }
        ∧ (t.chan.get c).ctx = some { x with stageTimer := 0, exit := some .finished }
        ∧ t.out.charger.get c = { enable := false, demand := 0, limit := 0 }
        ∧ t.out.ke = s.out.ke.set x.string .opened ∧ t.out.kf = s.out.kf ∧ t.out.ks = s.out.ks
        ∧ t.chan.get c.other = s.chan.get c.other ∧ t.line = s.line ∧ t.hist = s.hist ∧ t.log = s.log)
    ∧ (x.kind = .equaliseThenWater → (s.hist.get x.string).waterLock = none → s.line.stage = .free →
      s.line.waiting = [] → presents s .resLow ≠ .active →
      ∃ t, exec (.settleEnd c) s = .next t ∧ (t.chan.get c).stage = .water
        ∧ (t.chan.get c).ctx = some { x with stageTimer := 0 }
        ∧ ((t.chan.get c).call.map fun k => (k.serving, k.waitSec)) = some (true, 0)
        ∧ t.line.stage = .priming ∧ t.line.owner = some (.call c) ∧ t.line.string = some x.string
        ∧ t.line.ml = 0 ∧ t.line.pulses = 0 ∧ t.line.doses = 0 ∧ t.line.waiting = []
        ∧ t.out.valve = s.out.valve.set x.string .opened ∧ t.out.pump = s.out.pump
        ∧ (t.out.charger.get c).enable = (s.out.charger.get c).enable
        ∧ (t.present.get c).cell = some (s.comp.get x.string).floatMv
        ∧ t.chan.get c.other = s.chan.get c.other ∧ t.hist = s.hist ∧ t.log = s.log))

/-- A call that has waited PUMP_WAIT_MIN gives up: it leaves the waiting order and is popped, WATER_DEFERRED is set,
and the return starts with exit FINISHED (R112, R148, R114). PUMP_WAIT_MIN is taken as it stood at the last second. -/
def Obligations.WaitingCallGivesUp : Prop :=
  ∀ (s : State) (c : Ch) (x : Context) (k : Call), (s.chan.get c).stage = .water →
    (s.chan.get c).ctx = some x → (s.chan.get c).call = some k → k.serving = false →
    s.base.atSecond.pumpWaitMin * 60 ≤ k.waitSec → s.out.ke.get x.string = .closed →
    presents s (.ke x.string) ≠ .inactive → s.perm.ventFailed = false → Settled s →
    ∃ t, exec (.giveUp c) s = .next t ∧ (t.chan.get c).stage = .transferBack ∧ (t.chan.get c).call = none
      ∧ (t.chan.get c).ctx = some { x with stageTimer := 0, waterDeferred := true, exit := some .finished }
      ∧ (t.chan.get c).wait = some { contactor := .ke, start := s.base.ms, limit := s.cfg.contactorMs }
      ∧ t.line = { s.line with waiting := s.line.waiting.filter (· != c) }
      ∧ t.out.charger.get c = { enable := false, demand := 0, limit := 0 }
      ∧ t.out.ke = s.out.ke.set x.string .opened ∧ t.out.kf = s.out.kf ∧ t.out.valve = s.out.valve
      ∧ t.chan.get c.other = s.chan.get c.other ∧ t.log = s.log ∧ t.queue = s.queue

/-- A context's minute raises its age, on a channel and while held; the minute that brings a held context to
ROUND_SPAN_H ends it EXPIRED: it leaves the list, its string is FLOAT, its record is written and ROUND_EXPIRED
latches with value AGE (R92, R131, R161); of two that end at one instant the younger waits for the older. A return that completes with exit SUSPEND, here at its step 3 and without
surplus, puts the context at the end of the list with its suspensions counted and its window cleared, the string HELD
and the channel IDLE; one above SUSPEND_MAX ends EXPIRED and one that finds the list full ends HELD_FULL, each with
its record (R129, R130). A minute evaluation that finds a held context passing every test resumes it: it leaves the
list, and the free channel takes it as it stands into TRANSFER_OUT, its marker kept (R89, R81). -/
def Obligations.AgeMinuteCounts : Prop :=
  (∀ (s : State) (p : Pos) (c : Ch) (x : Context), holder s p = some c → (s.chan.get c).ctx = some x →
    60 ≤ x.ageSec →
    exec (.ageMinute p) s = .next { s with chan := s.chan.set c { s.chan.get c with ctx := (some
      { x with ageSec := x.ageSec - 60, ageMin := min 65535 (x.ageMin + 1) }) } })
    ∧ (∀ (s : State) (p : Pos) (h : Held), holder s p = none → s.held.entries = [h] → h.ctx.string = p →
        60 ≤ h.ctx.ageSec → Settled s →
        ((min 65535 (h.ctx.ageMin + 1) < s.cfg.roundSpanH * 60 →
          exec (.ageMinute p) s = .next { s with held := { s.held with entries :=
            [{ h with ctx :=
              { h.ctx with ageSec := h.ctx.ageSec - 60, ageMin := min 65535 (h.ctx.ageMin + 1) } }] } })
        ∧ (s.cfg.roundSpanH * 60 ≤ min 65535 (h.ctx.ageMin + 1) → s.latches.roundExpired = none →
          ∃ t, exec (.ageMinute p) s = .next t
            ∧ t.held = { entries := [], gen := (s.held.gen + 1) % 256 }
            ∧ t.sit = s.sit.set p { s.sit.get p with role := .float, assigned := none }
            ∧ t.hist = s.hist.set p { s.hist.get p with roundOpen := none }
            ∧ (t.log.ring.getLast?.map fun r => (r.seq, r.string, r.outcome, r.endTime)) =
                some (s.log.nextSeq, p, .expired, some { time := s.clock.count, valid := s.clock.valid })
            ∧ t.latches.roundExpired =
                some { string := p.num, value := 2, captured := none,
                       time := { time := s.clock.count, valid := s.clock.valid }, again := 0, pending := true }
            ∧ { s with held := t.held, sit := t.sit, hist := t.hist, log := t.log, latches := t.latches } = t)))
    ∧ (∀ (s : State) (p : Pos) (h g : Held), holder s p = none → s.held.entries = [g, h] → h.ctx.string = p →
        g.ctx.string ≠ p → 60 ≤ h.ctx.ageSec → g.ctx.ageSec = h.ctx.ageSec →
        s.cfg.roundSpanH * 60 ≤ min 65535 (h.ctx.ageMin + 1) →
        s.cfg.roundSpanH * 60 ≤ min 65535 (g.ctx.ageMin + 1) → exec (.ageMinute p) s = .next s)
    ∧ (∀ (s : State) (levels : BitVec 35) (k : DeliveryKind) (c : Ch) (x : Context) (w : Wait) (cause : Cause),
        s.phase ≠ .held → Settled s → OnlyAccepts s levels (.kf x.string) k .active →
        (s.chan.get c).stage = .transferBack → (s.chan.get c).ctx = some x → (s.chan.get c).call = none →
        (s.chan.get c).wait = some w → w.contactor = .kf → (s.chan.get c.other).stage = .idle →
        x.exit = some (.suspended cause) → x.waterDeferred = false →
        s.out.kf.get x.string = .closed → s.cfg.fitted.testBit (x.string.num - 1) = true →
        (s.sit.get x.string).role = .equalising → (s.sit.get x.string).onBus = false →
        s.supply.surplus = false → s.queue.entries = [] →
        (x.susp + 1 ≤ s.cfg.suspendMax → s.held.entries.length < 4 →
          ∃ t, exec (.sampleInstant levels) s = .next t ∧ Sampled s levels t
            ∧ t.held =
                { entries := s.held.entries ++
                    [{ ctx :=
                         { x with
                           susp := x.susp + 1, winMin := 0, winSum := 0, winCount := 0, winTemp := none, flat := 0
                           prevAvg := none, exit := none }
                       cause := cause, since := { time := s.clock.count, valid := s.clock.valid } }]
                  gen := (s.held.gen + 1) % 256 }
            ∧ t.chan = s.chan.set c
                { stage := .idle, ctx := none, call := none, wait := none, toStart := (s.chan.get c).toStart }
            ∧ t.sit = s.sit.set x.string
                { s.sit.get x.string with role := .held, assigned := none, onBus := true }
            ∧ t.out.ks = s.out.ks.set x.string .a ∧ t.out.kf = s.out.kf ∧ t.out.ke = s.out.ke
            ∧ (t.out.charger.get c).demand = 0 ∧ t.hist = s.hist ∧ t.log = s.log ∧ t.queue = s.queue
            ∧ t.line = s.line ∧ t.latches = s.latches)
        ∧ ((s.cfg.suspendMax < x.susp + 1 ∨ 4 ≤ s.held.entries.length) →
          ∃ t, exec (.sampleInstant levels) s = .next t ∧ Sampled s levels t
            ∧ t.held = s.held ∧ (t.chan.get c).stage = .idle ∧ (t.chan.get c).ctx = none
            ∧ (t.sit.get x.string).role = .float ∧ (t.sit.get x.string).assigned = none
            ∧ t.hist = s.hist.set x.string { s.hist.get x.string with roundOpen := none }
            ∧ (t.log.ring.getLast?.map fun r => (r.seq, r.string, r.outcome, r.susp)) =
                some (s.log.nextSeq, x.string,
                  if s.cfg.suspendMax < x.susp + 1 then .expired else .heldFull, some (x.susp + 1))
            ∧ (s.cfg.suspendMax < x.susp + 1 → s.latches.roundExpired = none →
                t.latches.roundExpired =
                  some { string := x.string.num, value := 1, captured := none,
                         time := { time := s.clock.count, valid := s.clock.valid }, again := 0, pending := true })))
    ∧ ∀ (s : State) (h : Held) (c : Ch), 60 ≤ s.base.minuteSec → s.restartAt = none → Settled s →
        s.queue.entries = [] → s.held.entries = [h] →
        equaliseBlocked s h.ctx.string h.ctx.kind .held none = .none → freeChannel s = some c →
        busShown (presents s (.ks h.ctx.string)) ≠ some c →
        ∃ t, exec .minuteEvaluation s = .next t
          ∧ t.base = { s.base with minuteSec := s.base.minuteSec - 60 }
          ∧ t.held = { entries := [], gen := (s.held.gen + 1) % 256 }
          ∧ t.chan = s.chan.set c
              { stage := .transferOut, ctx := some { h.ctx with stageTimer := 0 }, call := none
                wait := some { contactor := .ks, start := s.base.ms, limit := s.cfg.contactorMs }
                toStart := some s.base.runSec }
          ∧ t.sit = s.sit.set h.ctx.string
              { s.sit.get h.ctx.string with role := .equalising, assigned := some (.channel c) }
          ∧ t.out.charger.get c =
              { enable := true, demand := measuredCode s h.ctx.string, limit := min 4095 (4 * s.cfg.eqIlimit) }
          ∧ t.out.ks = s.out.ks.set h.ctx.string c ∧ t.out.kf = s.out.kf ∧ t.out.ke = s.out.ke
          ∧ t.hist = s.hist ∧ t.log = s.log ∧ t.queue = s.queue ∧ t.line = s.line ∧ t.latches = s.latches

/-! ### Site Permissions -/

/-- The run-on timer and the purge at PURGE_MIN: the timer stops, and with no other reason for it the fan goes OFF;
nothing else changes when no round is queued or held (R121, R125). PURGE_MIN is taken as it stood at the last second,
at which the timer was running (R120). H2_ALARM accepted ACTIVE starts H2 handling: H2 active, the purge stopped, the fan ON, the H2_ALARM event with
the captured level; a channel in HOLD turns its charger off and returns with exit SUSPEND(H2), and a watering of a
standalone round is HALTED (R124, R145, R108). Accepted INACTIVE it ends H2 active and starts the purge from 0, and
with H2 active clear it changes nothing (R125). -/
def Obligations.FanTimersExpire : Prop :=
  (∀ (s : State) (v : Nat), s.perm.runOn = some v → 0 < v → s.base.atSecond.purgeMin * 60 ≤ v →
    s.perm.gassing = 0 →
    s.perm.h2Active = false → s.perm.purge = none → s.perm.fan = true → s.perm.ventFailed = false → Settled s →
    exec .runOnExpiry s = .next
      { s with
        perm := { s.perm with runOn := none, fan := false, lowSpeed := none }
        out := { s.out with fan := false } })
    ∧ (∀ (s : State) (v : Nat), s.perm.purge = some v → 0 < v → s.base.atSecond.purgeMin * 60 ≤ v →
        s.perm.gassing = 0 →
        s.perm.h2Active = false → s.perm.runOn = none → s.perm.fan = true → s.perm.ventFailed = false →
        NoCandidates s → Settled s →
        exec .purgeEnd s = .next
          { s with
            perm := { s.perm with purge := none, fan := false, lowSpeed := none }
            out := { s.out with fan := false } })
    ∧ (∀ (s : State) (levels : BitVec 35) (k : DeliveryKind), s.phase ≠ .held → Settled s →
        s.perm.ventFailed = false → s.latches.h2Alarm = none →
        OnlyAccepts s levels .h2Alarm k .active → s.perm.h2Active = false →
        (ChannelsIdle s → s.line.stage = .free → s.perm.fan = false →
          ∃ t, exec (.sampleInstant levels) s = .next t ∧ Sampled s levels t
            ∧ { s with
                base := t.base, inp := t.inp
                perm :=
                  { s.perm with
                    h2Active := true, purge := none, fan := true
                    lowSpeed :=
                      if s.perm.speed < s.cfg.fanMinRpm then some (s.perm.lowSpeed.getD 0) else none }
                out := { s.out with fan := true }
                latches := { s.latches with h2Alarm := (some
                  { string := 0, value := 0, captured := (t.inp.get .h2Alarm).captured,
                    time := { time := s.clock.count, valid := s.clock.valid }, again := 0,
                    pending := true }) } } = t)
        ∧ (∀ (c : Ch) (x : Context) (p : Pos), (s.chan.get c).stage = .hold → (s.chan.get c).ctx = some x →
          (s.chan.get c.other).stage = .idle → s.out.ke.get x.string = .closed →
          presents s (.ke x.string) ≠ .inactive → s.line.owner = some .round → s.line.stage.dispensing = true →
          s.line.string = some p → s.out.fan = s.perm.fan →
          ∃ t, exec (.sampleInstant levels) s = .next t ∧ Sampled s levels t
            ∧ t.perm.h2Active = true ∧ t.perm.purge = none ∧ t.perm.fan = true ∧ t.out.fan = true
            ∧ t.chan = s.chan.set c
                { s.chan.get c with
                  stage := .transferBack
                  ctx := (some
                    { x with
                      stageTimer := 0, finalCell := (s.present.get c).cell, exit := some (.suspended .h2) })
                  wait := (some { contactor := .ke, start := t.base.ms, limit := s.cfg.contactorMs }) }
            ∧ t.out.charger.get c = { enable := false, demand := 0, limit := 0 }
            ∧ t.out.ke = s.out.ke.set x.string .opened ∧ t.out.kf = s.out.kf ∧ t.out.pump = false
            ∧ t.out.valve = s.out.valve.set p .closed
            ∧ t.line = { s.line with stage := .closing, timer := 0, outcome := some .halted }
            ∧ t.latches = { s.latches with h2Alarm := (some
                { string := 0, value := 0, captured := (t.inp.get .h2Alarm).captured,
                  time := { time := s.clock.count, valid := s.clock.valid }, again := 0, pending := true }) }
            ∧ t.hist = s.hist ∧ t.log = s.log ∧ t.queue = s.queue ∧ t.held = s.held))
    ∧ ∀ (s : State) (levels : BitVec 35) (k : DeliveryKind), s.phase ≠ .held → Settled s →
        OnlyAccepts s levels .h2Alarm k .inactive →
        (s.perm.h2Active = true → s.perm.fan = true →
          ∃ t, exec (.sampleInstant levels) s = .next t ∧ Sampled s levels t
            ∧ { s with
                base := t.base, inp := t.inp, perm := { s.perm with h2Active := false, purge := some 0 } } = t)
        ∧ (s.perm.h2Active = false →
          ∃ t, exec (.sampleInstant levels) s = .next t ∧ Sampled s levels t
            ∧ { s with base := t.base, inp := t.inp } = t)

/-- The grace timer's expiry suspends a channel in HOLD: the charger goes off, the final cell demand is kept, no
outcome is set, and the return starts with exit SUSPEND(SUPPLY) (R126, R108, R103, R114). Ten seconds of low speed
make the vent FAILED and VENT_FAIL, and 60 s of speed make it OK again (R122, R123). SUPPLY_GRACE_MIN is taken as it
stood at the last second (R120), and a grace timer that started since then, still at 0, does not expire. -/
def Obligations.PermissionTimersAct : Prop :=
  (∀ s : State, s.perm.grace = some 0 → exec .graceExpiry s = .next s)
    ∧ (∀ (s : State) (c : Ch) (x : Context) (v : Nat), s.perm.grace = some v → 0 < v →
    s.base.atSecond.supplyGraceMin * 60 ≤ v →
    (s.chan.get c).stage = .hold → (s.chan.get c).ctx = some x → (s.chan.get c.other).stage = .idle →
    s.out.ke.get x.string = .closed → presents s (.ke x.string) ≠ .inactive → s.perm.ventFailed = false →
    Settled s →
    ∃ t, exec .graceExpiry s = .next t ∧ (t.chan.get c).stage = .transferBack
      ∧ (t.chan.get c).ctx =
          some { x with stageTimer := 0, finalCell := (s.present.get c).cell, exit := some (.suspended .supply) }
      ∧ (t.chan.get c).wait = some { contactor := .ke, start := s.base.ms, limit := s.cfg.contactorMs }
      ∧ t.out.charger.get c = { enable := false, demand := 0, limit := 0 }
      ∧ t.out.ke = s.out.ke.set x.string .opened ∧ t.out.kf = s.out.kf ∧ t.perm.grace = none
      ∧ t.chan.get c.other = s.chan.get c.other ∧ t.hist = s.hist ∧ t.log = s.log ∧ t.held = s.held
      ∧ t.latches = s.latches)
    ∧ (∀ (s : State) (v : Nat), s.perm.lowSpeed = some v → 10 ≤ v → s.perm.ventFailed = false → ChannelsIdle s →
        s.latches.ventFail = none → Settled s →
        exec .lowSpeedExpiry s = .next
          { s with
            perm := { s.perm with ventFailed := true, lowSpeed := none, recovery := none }
            latches := { s.latches with ventFail := (some
              { string := 0, value := s.perm.speed, captured := none,
                time := { time := s.clock.count, valid := s.clock.valid }, again := 0, pending := true }) } })
    ∧ ∀ (s : State) (v : Nat), s.perm.recovery = some v → 60 ≤ v → s.perm.ventFailed = true →
        s.perm.fan = true → s.cfg.fanMinRpm ≤ s.perm.speed → NoCandidates s → Settled s →
        exec .recoveryExpiry s = .next
          { s with perm := { s.perm with ventFailed := false, recovery := none, lowSpeed := none } }

/-! ### The Watering Line -/

/-- The line's timed stage changes: PRIMING after 2 s and PAUSE after DOSE_PAUSE_S enter DOSING with the pump ON, a
new dose counted and dose mL 0; a priming dose without a pulse for PRIME_S closes the line with ALREADY_FULL or
BLOCKED by the probe, and a flow that has stopped for FLOW_STOP_S closes it with FILLED, pump OFF and valve CLOSED
(R137, R139, R141, R142); each setting is taken as it stood at the last second. RES_LOW accepted ACTIVE in PRIMING,
DOSING or PAUSE closes it with RESERVOIR_EMPTY and makes the event with mL delivered and the captured level, and in
any other stage it changes nothing at the line (R144). -/
def Obligations.LineStagesAreTimed : Prop :=
  (∀ s : State, s.line.stage = .priming → 2 ≤ s.line.timer → s.line.doses < 255 → Settled s →
    exec .primingEnd s = .next
      { s with
        line := { s.line with stage := .dosing, timer := 0, doses := s.line.doses + 1, doseMl := 0 }
        out := { s.out with pump := true } })
    ∧ (∀ s : State, s.line.stage = .pause → s.base.atSecond.dosePauseS ≤ s.line.timer → s.line.doses < 255 → Settled s →
        exec .pauseEnd s = .next
          { s with
            line := { s.line with stage := .dosing, timer := 0, doses := s.line.doses + 1, doseMl := 0 }
            out := { s.out with pump := true } })
    ∧ (∀ (s : State) (p : Pos), s.line.stage = .dosing → s.line.string = some p → s.line.pulses = 0 →
        s.base.atSecond.primeS ≤ s.line.timer → Settled s →
        exec .primeTimeout s = .next
          { s with
            line :=
              { s.line with
                stage := .closing, timer := 0
                outcome := some (if presents s (.level p) = .inactive then .alreadyFull else .blocked) }
            out := { s.out with pump := false, valve := s.out.valve.set p .closed } })
    ∧ (∀ (s : State) (p : Pos) (r : Nat), s.line.stage = .dosing → s.line.string = some p → 0 < s.line.pulses →
        s.line.flowRef = some r →
        s.base.atSecond.flowStopS ≤ s.base.runSec - max r (s.base.runSec - s.line.timer) → Settled s →
        exec .flowStop s = .next
          { s with
            line := { s.line with stage := .closing, timer := 0, outcome := some .filled }
            out := { s.out with pump := false, valve := s.out.valve.set p .closed } })
    ∧ ∀ (s : State) (levels : BitVec 35) (k : DeliveryKind), s.phase ≠ .held → Settled s → NoCandidates s →
        OnlyAccepts s levels .resLow k .active →
        (∀ p : Pos, s.line.stage.dispensing = true → s.line.string = some p → s.latches.reservoirEmpty = none →
          ∃ t, exec (.sampleInstant levels) s = .next t ∧ Sampled s levels t
            ∧ { s with
                base := t.base, inp := t.inp
                line := { s.line with stage := .closing, timer := 0, outcome := some .reservoirEmpty }
                out := { s.out with pump := false, valve := s.out.valve.set p .closed }
                latches := { s.latches with reservoirEmpty := (some
                  { string := p.num, value := s.line.ml, captured := (t.inp.get .resLow).captured,
                    time := { time := s.clock.count, valid := s.clock.valid }, again := 0,
                    pending := true }) } } = t)
        ∧ (s.line.stage.dispensing = false →
          ∃ t, exec (.sampleInstant levels) s = .next t ∧ Sampled s levels t
            ∧ { s with base := t.base, inp := t.inp } = t)

/-- The end of CLOSING: a standalone round ends with its record and its string FLOAT, and the line becomes FREE when
nobody waits; a manual dose hands its Manual Dose End to the link and the line returns to MANUAL; a held Manual Dose
End is placed when a place is free (R147, R152, R161). That the counters and the outcome stand on the line that
becomes FREE is the model's reading (assumption 11). -/
def Obligations.ClosingHandsOn : Prop :=
  (∀ (s : State) (p : Pos) (i : RoundIdentity) (o : Outcome), s.line.stage = .closing → 2 ≤ s.line.timer →
    s.line.owner = some .round → s.line.string = some p → s.line.identity = some i → s.line.outcome = some o →
    s.line.waiting = [] → s.restartAt = none → NoCandidates s → Settled s →
    ∃ t, exec .closingEnd s = .next t
      ∧ t.line =
          { s.line with
            stage := .free, owner := none, string := none, identity := none, dose := none, timer := 0
            claimEnded := false }
      ∧ t.sit = s.sit.set p { s.sit.get p with role := .float, assigned := none }
      ∧ t.hist = s.hist.set p { s.hist.get p with roundOpen := none }
      ∧ t.log.ring.getLast? =
          some { seq := s.log.nextSeq, string := p, kind := .water, recovered := false,
                 tagOrigin := some (i.tag, i.origin), outcome := o, first := i.first,
                 endTime := some { time := s.clock.count, valid := s.clock.valid }, susp := some 0, eq := none,
                 water := some { ml := s.line.ml, doses := s.line.doses, outcome := o } }
      ∧ { s with line := t.line, sit := t.sit, hist := t.hist, log := t.log, latches := t.latches } = t)
    ∧ (∀ (s : State) (p : Pos) (d : ManualDose) (o : Outcome), s.line.stage = .closing → 2 ≤ s.line.timer →
        s.line.owner = some .host → s.line.string = some p → s.line.dose = some d → s.line.outcome = some o →
        s.line.claimEnded = false → s.link.outbound.length < 8 → Settled s →
        exec .closingEnd s = .next
          { s with
            line :=
              { s.line with
                stage := .manual, string := none, dose := none, ml := 0, pulses := 0, doses := 0, doseMl := 0
                timer := 0 }
            link := { s.link with outbound := s.link.outbound ++
              [doseEndFrame
                { tag := d.tag, string := p, target := d.target, ml := s.line.ml, pulses := s.line.pulses,
                  outcome := o }] } })
    ∧ ∀ (s : State) (d : DoseEnd), s.line.pendingEnd = some d → s.link.outbound.length < 8 →
        exec .manualDoseEnd s = .next
          { s with
            line := { s.line with pendingEnd := none }
            link := { s.link with outbound := s.link.outbound ++ [doseEndFrame d] } }

/-- A pulse toward a round's or a call's watering in DOSING: at WATER_MAX_ML it ends OVERVOLUME with WATER_LOCK set,
below it a full dose enters PAUSE, and otherwise it is only counted; toward a manual dose it ends DELIVERED at the
target volume (R140, R143, R137). -/
def Obligations.PulsesMeetTheirTests : Prop :=
  ∀ (s : State) (p : Pos) (ml dose : Nat), s.line.stage = .dosing → s.line.string = some p →
    s.line.outcome = none → ml = min 65535 (s.line.ml + s.cfg.flowMlPerPulse) →
    dose = min 65535 (s.line.doseMl + s.cfg.flowMlPerPulse) →
    (linePulse s).line.ml = ml ∧ (linePulse s).line.pulses = min 65535 (s.line.pulses + 1)
    ∧ (linePulse s).line.flowRef = some s.base.runSec ∧ (linePulse s).line.doseMl = dose
    ∧ (s.line.owner ≠ some .host → s.cfg.waterMaxMl ≤ ml →
        (linePulse s).line.stage = .closing ∧ (linePulse s).line.outcome = some .overvolume
        ∧ (linePulse s).hist = s.hist.set p { s.hist.get p with waterLock := some .overvolume }
        ∧ (linePulse s).out = { s.out with pump := false, valve := s.out.valve.set p .closed })
    ∧ (s.line.owner ≠ some .host → ml < s.cfg.waterMaxMl → s.cfg.doseMl ≤ dose →
        (linePulse s).line.stage = .pause ∧ (linePulse s).line.outcome = none
        ∧ (linePulse s).hist = s.hist ∧ (linePulse s).out = { s.out with pump := false })
    ∧ (s.line.owner ≠ some .host → ml < s.cfg.waterMaxMl → dose < s.cfg.doseMl →
        (linePulse s).line.stage = .dosing ∧ (linePulse s).line.outcome = none
        ∧ (linePulse s).hist = s.hist ∧ (linePulse s).out = s.out)
    ∧ (∀ d : ManualDose, s.line.owner = some .host → s.line.dose = some d →
        (d.target ≤ ml →
          (linePulse s).line.stage = .closing ∧ (linePulse s).line.outcome = some .delivered
          ∧ (linePulse s).hist = s.hist
          ∧ (linePulse s).out = { s.out with pump := false, valve := s.out.valve.set p .closed })
        ∧ (ml < d.target → (linePulse s).line.stage = .dosing ∧ (linePulse s).out = s.out))

/-! ### The link -/

/-- Every frame of at most 59 body bytes that comes whole, from HUNT, onto an Inbound Queue with room is appended to
it as it was sent, and changes nothing else: the framer reads back what the frame format writes (R178, R179, R180). -/
def Obligations.FramesArriveAsSent : Prop :=
  ∀ (s : State) (f : Frame), s.phase = .ready → s.link.framer.state = .hunt → f.body.length ≤ 59 →
    s.link.inbound.length < 4 → s.pending = f.bytes.map Instr.receivedByte →
    Sys2Proof.core.run f.bytes.length s =
      .next { s with
        pending := []
        link := { s.link with
          framer := { state := .hunt, len := 0, bytes := [] }
          inbound := s.link.inbound ++ [f] } }

/-- The framer's steps: SOF leaves HUNT, a LEN of 5..64 starts the body, 0x7E in LENGTH makes LINK_ERROR and stays,
any other LEN makes LINK_ERROR and hunts; the last CRC byte appends the frame, or drops it with LINK_ERROR for a CRC
that does not match or a full queue (R180). A sent message frees its place (R181). -/
def Obligations.FramerActs : Prop :=
  (∀ (s : State) (b : Byte), s.phase = .ready → s.link.framer.state = .hunt →
    exec (.receivedByte b) s = .next
      (if b = 0x7E then { s with link := { s.link with framer := { s.link.framer with state := .length } } } else s))
    ∧ (∀ (s : State) (b : Byte), s.phase = .ready → s.link.framer.state = .length →
        (5 ≤ b.toNat → b.toNat ≤ 64 →
          exec (.receivedByte b) s = .next
            { s with link := { s.link with framer := { state := .body, len := b.toNat, bytes := [] } } })
        ∧ ((b.toNat < 5 ∨ 64 < b.toNat) → s.latches.linkError = none →
          exec (.receivedByte b) s = .next
            { s with
              link := { s.link with framer :=
                if b = 0x7E then s.link.framer else { state := .hunt, len := 0, bytes := [] } }
              latches := { s.latches with linkError := (some
                { string := 0, value := 1, captured := none,
                  time := { time := s.clock.count, valid := s.clock.valid }, again := 0, pending := true }) } }))
    ∧ (∀ (s : State) (tag kind c b : Byte) (body : List Byte), s.phase = .ready →
        s.link.framer = { state := .check, len := body.length + 5, bytes := tag :: kind :: body ++ [c] } →
        body.length ≤ 59 → s.latches.linkError = none →
        ([c, b] = crcBytes (crc16 (BitVec.ofNat 8 (body.length + 5) :: tag :: kind :: body)) →
          s.link.inbound.length < 4 →
          exec (.frameReceived b) s = .next { s with link :=
            { s.link with
              framer := { state := .hunt, len := 0, bytes := [] }
              inbound := s.link.inbound ++ [{ tag := tag, kind := kind, body := body }] } })
        ∧ ([c, b] ≠ crcBytes (crc16 (BitVec.ofNat 8 (body.length + 5) :: tag :: kind :: body)) →
          exec (.frameReceived b) s = .next
            { s with
              link := { s.link with framer := { state := .hunt, len := 0, bytes := [] } }
              latches := { s.latches with linkError := (some
                { string := 0, value := 2, captured := none,
                  time := { time := s.clock.count, valid := s.clock.valid }, again := 0, pending := true }) } })
        ∧ ([c, b] = crcBytes (crc16 (BitVec.ofNat 8 (body.length + 5) :: tag :: kind :: body)) →
          4 ≤ s.link.inbound.length →
          exec (.frameReceived b) s = .next
            { s with
              link := { s.link with framer := { state := .hunt, len := 0, bytes := [] } }
              latches := { s.latches with linkError := (some
                { string := 0, value := 3, captured := none,
                  time := { time := s.clock.count, valid := s.clock.valid }, again := 0, pending := true }) } }))
    ∧ ∀ s : State, exec .messageSent s = .next { s with link := { s.link with outbound := s.link.outbound.drop 1 } }

/-- What the part sends of itself: a Notice for the sendable latch of highest priority, whose pending flag is then
clear, whatever latches of higher priority that are not sendable hold (R172); with two free places the record of the transfer's next seq, and when none is left to examine the Log
End (R165). -/
def Obligations.MessagesArePlaced : Prop :=
  (∀ (s : State) (c : Condition) (d : LatchDetail), s.link.outbound.length < 8 → Sendable s c d →
    (∀ (e : Condition) (d' : LatchDetail), e.num < c.num → ¬ Sendable s e d') →
    exec .notice s = .next
      { s with
        latches := s.latches.set c (some { d with pending := false })
        link := { s.link with outbound := s.link.outbound ++ [noticeFrame c d] } })
    ∧ (∀ (s : State) (t : Transfer) (r : Record), s.log.transfer = some t → 0 < t.left →
        s.link.outbound.length ≤ 6 → s.log.ring.find? (fun q => q.seq == t.next) = some r →
        exec .logRecord s = .next
          { s with
            log := { s.log with transfer := (some
              { t with next := (t.next + 1) % 65536, left := t.left - 1, sent := t.sent + 1 }) }
            link := { s.link with outbound := s.link.outbound ++
              [{ tag := 0, kind := 0xE2, body := recordBytes r }] } })
    ∧ ∀ (s : State) (t : Transfer), s.log.transfer = some t → t.left = 0 → s.link.outbound.length ≤ 6 →
        exec .logEnd s = .next
          { s with
            log := { s.log with transfer := none }
            link := { s.link with outbound := s.link.outbound ++
              [{ tag := 0, kind := 0xE3, body := [t.tag, BitVec.ofNat 8 t.n, BitVec.ofNat 8 t.sent] }] } }

/-! ### Requests that report -/

/-- A request that reports answers OK with its payload and changes nothing but the link (R188, R68, R34, R35, R36, R7,
R185, R77, R134, R135, R168, R176). The layouts of the payloads, and that Read Status counts the queues once its frame
is taken and before its reply is placed, are the model's reading (assumption 14), and bytes that the rules leave open its choice (assumption 25). -/
def Obligations.ReportsChangeNothing : Prop :=
  ∀ (s : State) (f : Frame) (rest : List Frame), Taking s f rest →
    (f.kind = 0x01 → f.body = [] →
      exec .identify s = .next { s with link := answered s rest (replyTo f 0 0
        [0x54, 0x45, 0x4E, 0x44, 0x52, 0x49, 0x47, 0x20, 0x38, 0x32, 0x34, 0x45, 1, 1, 42, 64]) })
    ∧ (f.kind = 0x02 →
        (f.body = [0] → exec .readStatus s = .next { s with link := answered s rest (replyTo f 0 0 (partGroup (afterTaking s))) })
        ∧ (f.body = [1] → exec .readStatus s = .next { s with link := answered s rest (replyTo f 0 0 (channelGroup s .a)) })
        ∧ (f.body = [2] → exec .readStatus s = .next { s with link := answered s rest (replyTo f 0 0 (channelGroup s .b)) })
        ∧ (f.body = [3] → exec .readStatus s = .next { s with link := answered s rest (replyTo f 0 0 (lineGroup s)) }))
    ∧ (∀ p : Pos, f.kind = 0x04 → f.body = [BitVec.ofNat 8 p.num] →
        exec .readString s = .next { s with link := answered s rest (replyTo f 0 0 (stringPayload s p)) })
    ∧ (∀ p : Pos, f.kind = 0x05 → s.cfg.fitted.testBit (p.num - 1) = true →
        (f.body = [BitVec.ofNat 8 p.num, 0] →
          exec .readCells s = .next { s with link := answered s rest (replyTo f 0 0 (cellsPayload s p false)) })
        ∧ (f.body = [BitVec.ofNat 8 p.num, 1] →
          exec .readCells s = .next { s with link := answered s rest (replyTo f 0 0 (cellsPayload s p true)) }))
    ∧ (f.kind = 0x06 → f.body = [0] →
        exec .readTemperatures s = .next { s with link := answered s rest (replyTo f 0 0 (temperaturesPayload s)) })
    ∧ (∀ p : Pos, f.kind = 0x06 → f.body = [BitVec.ofNat 8 p.num] →
        exec .readTemperatureDetail s =
          .next { s with link := answered s rest (replyTo f 0 0 (tempDetail (s.temps.pilots.get p))) })
    ∧ (f.kind = 0x07 → f.body = [] →
        exec .readPlant s = .next { s with link := answered s rest (replyTo f 0 0 (plantPayload s)) })
    ∧ (∀ i : SettingId, i.isSet = false → f.kind = 0x09 → f.body = [BitVec.ofNat 8 i.id] →
        exec .readSetting s = .next { s with link := answered s rest (replyTo f 0 0
          (u32 (s.cfg.get i) ++ u32 i.low ++ u32 i.high ++ u32 (Settings.default.get i))) })
    ∧ (∀ n : Nat, 1 ≤ n → n ≤ 12 → f.kind = 0x0C → f.body = [BitVec.ofNat 8 n] →
        exec .readQueue s = .next { s with link := answered s rest (replyTo f 0 0 (queuePayload s n)) })
    ∧ (f.kind = 0x0D → f.body = [0] →
        exec .readHeld s = .next { s with link := answered s rest (replyTo f 0 0 (heldPayload s)) })
    ∧ (∀ (n : Nat) (h : Held), n ≤ 3 → s.held.entries[n]? = some h → f.kind = 0x0D →
        f.body = [BitVec.ofNat 8 (n + 1)] →
        exec .readHeldDetail s = .next { s with link := answered s rest (replyTo f 0 0 (heldDetail s h)) })
    ∧ (∀ n : Nat, 1 ≤ n → n ≤ 32 → f.kind = 0x13 → f.body = [BitVec.ofNat 8 n] →
        exec .readWeak s = .next { s with link := answered s rest (replyTo f 0 0 (weakPayload s n)) })
    ∧ (f.kind = 0x17 → f.body = [0] →
        exec .readConditions s = .next { s with link := answered s rest (replyTo f 0 0
          ((if s.master then 1 else 0) :: Condition.all.flatMap (latchSummary s))) })
    ∧ (∀ c : Condition, f.kind = 0x17 → f.body = [BitVec.ofNat 8 c.num] →
        exec .readConditions s = .next { s with link := answered s rest (replyTo f 0 0 (latchDetail s c)) })

/-- The packed replies have the lengths of R183, their two header bytes apart: Read Plant 56, Read Cells of a string
with a scan 52, Read Temperatures' summary 40, Read Conditions' summary 33, Read Queue at most 56, and a round
record its 33 bytes (R183, R178). -/
def Obligations.PackedRepliesFit : Prop :=
  (∀ s : State, (plantPayload s).length = 56 ∧ (temperaturesPayload s).length = 40
    ∧ (flag s.master ++ Condition.all.flatMap (latchSummary s)).length = 33)
    ∧ (∀ (s : State) (p : Pos), (s.scan.strings.get p).stats.isSome = true →
        (s.scan.strings.get p).cells.length = 24 → (cellsPayload s p false).length = 52)
    ∧ (∀ (s : State) (n : Nat), (queuePayload s n).length ≤ 56)
    ∧ ∀ r : Record, (recordBytes r).length = 33

/-! ### Requests that change the part -/

/-- Set Clock takes the count, makes the clock VALID and answers what it was (R187). A Set Setting of a setting that
blocks read where they use it stores the value clamped to its range and starts the store's write, or only answers
when the value is the working one; while a write runs it is answered STORE_BUSY, and an unknown id NOT_FOUND (R185).
The write's end stores the working values with their checksum. A Set Setting in range of a setting that a block acts
on at once makes the same store write and answer, and with it: RESERVE the reserve test (R127); the setpoint settings
every compensation record and, but for EQ_CELL_MV, the float demand (R43, R48); EQ_ILIMIT the limit codes of channels
in TRANSFER_OUT to WATER (R46); FLAT_COUNT the flat counts in HOLD (R52); SUSPEND_MAX the end of a held context above
it (R131); POLARITY the groups it changes (R16); FITTED the removal or the addition of a position, or RANGE or ENGAGED
(R67); the reservoir's settings the account and its low test (R153, R154); FAN_MIN_RPM the low-speed timer, or the
recovery timer while the vent is FAILED (R122, R123); DUE_DAYS and DUE_AH the DUE flag of every fitted string, here
with no rise, or with the rise of one string, which is not offered with AUTO_QUEUE OFF and is otherwise offered to an
empty queue while both channels are taken (R57, R75). NOTICE_ENABLES is stored and answered as sent but for the bits
of conditions 1 to 3, which R185 ignores: that they are stored and answered as 0 is the model's reading, not the
spec's (assumption 13). -/
def Obligations.ClockAndSettingsAreSet : Prop :=
  (∀ (s : State) (f : Frame) (rest : List Frame) (n : Nat), Taking s f rest → f.kind = 0x03 → n < 4294967296 →
    f.body = u32 n →
    exec .setClock s = .next
      { s with
        clock := { count := n, valid := true }
        link := answered s rest (replyTo f 0 0 (u32 s.clock.count ++ [if s.clock.valid then 1 else 0])) })
    ∧ (∀ (s : State) (f : Frame) (rest : List Frame) (i : SettingId) (v w : Nat), Taking s f rest →
        f.kind = 0x08 → i ∈ actsLater → v < 4294967296 → f.body = BitVec.ofNat 8 i.id :: u32 v →
        w = max i.low (min i.high v) →
        (s.store.writeBusy = true →
          exec .setSetting s = .next { s with link := answered s rest (replyTo f 11 0 []) })
        ∧ (s.store.writeBusy = false → w ≠ s.cfg.get i →
          exec .setSetting s = .next
            { s with
              store :=
                { s.store with
                  working := s.store.working.set i w, checksumOk := false, writeBusy := true
                  defaulted := false }
              link := answered s rest (replyTo f (if w = v then 0 else 1) 0 (u32 w)) })
        ∧ (s.store.writeBusy = false → w = s.cfg.get i →
          exec .setSetting s = .next
            { s with
              store := { s.store with defaulted := false }
              link := answered s rest (replyTo f (if w = v then 0 else 1) 0 (u32 w)) }))
    ∧ (∀ (s : State) (f : Frame) (rest : List Frame) (b : Byte) (v : Nat), Taking s f rest → f.kind = 0x08 →
        (b.toNat = 0 ∨ 42 < b.toNat) → f.body = b :: u32 v →
        exec .setSetting s = .next { s with link := answered s rest (replyTo f 5 0 []) })
    ∧ (∀ s : State, s.store.writeBusy = true →
        exec .storeWriteEnd s = .next { s with store :=
          { s.store with stored := s.store.working, checksumOk := true, writeBusy := false } })
    ∧ (∀ (s : State) (f : Frame) (rest : List Frame) (i : SettingId) (v : Nat), Sets s f rest i v →
        (i = .reserve → ChannelsIdle s → NoCandidates s →
          exec .setSetting s = .next { nowSet s f rest i v with perm := { s.perm with breach := false } })
        ∧ (i ∈ [SettingId.ventMaxGassing, .tempStartMax, .doseMl] → NoCandidates s →
          exec .setSetting s = .next (nowSet s f rest i v))
        ∧ (i = .autoQueue → exec .setSetting s = .next (nowSet s f rest i v))
        ∧ (i ∈ [SettingId.eqCellMv, .floatCellMv, .tcomp, .compLo, .compHi] → ChannelsIdle s →
          ∃ t, exec .setSetting s = .next t
            ∧ (∀ p : Pos, t.comp.get p = compRecord t p)
            ∧ t.out.floatDemand =
                (if i ≠ .eqCellMv ∧ s.out.floatComputed = true
                    ∧ (s.out.floatDemand + 2 ≤ floatCode t ∨ floatCode t + 2 ≤ s.out.floatDemand) then floatCode t
                 else s.out.floatDemand)
            ∧ { nowSet s f rest i v with
                comp := t.comp, out := { s.out with floatDemand := t.out.floatDemand } } = t)
        ∧ (i = .eqIlimit →
          ∃ t, exec .setSetting s = .next t
            ∧ (∀ c : Ch, t.out.charger.get c =
                if (s.chan.get c).stage ∈ [Stage.transferOut, .ramp, .hold, .settle, .water] then
                  { s.out.charger.get c with limit := min 4095 (4 * v) }
                else s.out.charger.get c)
            ∧ { nowSet s f rest i v with out := { s.out with charger := t.out.charger } } = t)
        ∧ (i = .flatCount →
          ∃ t, exec .setSetting s = .next t
            ∧ (∀ c : Ch, t.chan.get c =
                if (s.chan.get c).stage = .hold then
                  { s.chan.get c with ctx := (s.chan.get c).ctx.map fun x =>
                      { x with flat := if v ≤ x.flat then v - 1 else x.flat } }
                else s.chan.get c)
            ∧ { nowSet s f rest i v with chan := t.chan } = t)
        ∧ (∀ h : Held, i = .suspendMax → s.held.entries = [h] →
          (h.ctx.susp ≤ v → exec .setSetting s = .next (nowSet s f rest i v))
          ∧ (v < h.ctx.susp → s.latches.roundExpired = none →
            ∃ t, exec .setSetting s = .next t
              ∧ t.held = { entries := [], gen := (s.held.gen + 1) % 256 }
              ∧ t.sit = s.sit.set h.ctx.string { s.sit.get h.ctx.string with role := .float, assigned := none }
              ∧ t.hist = s.hist.set h.ctx.string { s.hist.get h.ctx.string with roundOpen := none }
              ∧ (t.log.ring.getLast?.map fun r => (r.seq, r.string, r.outcome, r.susp)) =
                  some (s.log.nextSeq, h.ctx.string, .expired, some h.ctx.susp)
              ∧ t.latches.roundExpired =
                  some { string := h.ctx.string.num, value := 1, captured := none,
                         time := { time := s.clock.count, valid := s.clock.valid }, again := 0, pending := true }
              ∧ { nowSet s f rest i v with
                  held := t.held, sit := t.sit, hist := t.hist, log := t.log, latches := t.latches } = t))
        ∧ (i = .reservoirCapMl → s.cfg.reservoirLowMl ≤ min s.reservoir.account v →
          exec .setSetting s = .next
            { nowSet s f rest i v with reservoir := { account := min s.reservoir.account v, low := false } })
        ∧ (i = .reservoirLowMl → v ≤ s.reservoir.account →
          exec .setSetting s = .next { nowSet s f rest i v with reservoir := { s.reservoir with low := false } })
        ∧ (i = .polarity → v < 128 →
          ∃ t, exec .setSetting s = .next t
            ∧ (∀ j : InputId, t.inp.get j =
                if s.cfg.polarity.testBit j.group = v.testBit j.group then s.inp.get j
                else
                  { s.inp.get j with
                    history := [], accepted := none, reacquiring := true,
                    polarity := if v.testBit j.group then .activeLow else .activeHigh })
            ∧ { nowSet s f rest i v with inp := t.inp } = t)
        ∧ (i = .fitted →
          ((v = 0 ∨ 256 ≤ v) →
            exec .setSetting s = .next { s with link := answered s rest (replyTo f 6 1 []) })
          ∧ (∀ p : Pos, 0 < v → v < 256 → s.cfg.fitted.testBit (p.num - 1) = true →
            v.testBit (p.num - 1) = false → (s.sit.get p).role ≠ .float →
            exec .setSetting s = .next { s with link := answered s rest (replyTo f 6 3 []) })
          ∧ (∀ p : Pos, 0 < v → v < 256 → s.cfg.fitted.testBit (p.num - 1) = true →
            v.testBit (p.num - 1) = false → (s.sit.get p).role = .float →
            (∀ q : Pos, q ≠ p → v.testBit (q.num - 1) = s.cfg.fitted.testBit (q.num - 1)) →
            ChannelsIdle s → NoCandidates s → s.queue.gen < 256 →
            ∃ t, exec .setSetting s = .next t
              ∧ t.scan.strings = s.scan.strings.set p { stats := none, cells := [], scanNo := 0 }
              ∧ t.scan.measuring = (if s.scan.measuring = some p then none else s.scan.measuring)
              ∧ (∀ q : Pos, q ≠ p → t.sit.get q = s.sit.get q) ∧ SituationReset false (t.sit.get p)
              ∧ { nowSet s f rest i v with
                  scan := { s.scan with strings := t.scan.strings, measuring := t.scan.measuring }, sit := t.sit
                  perm := (if (s.sit.get p).onBus then { s.perm with breach := false } else s.perm) } = t)
          ∧ (∀ p : Pos, 0 < v → v < 256 → s.cfg.fitted.testBit (p.num - 1) = false →
            v.testBit (p.num - 1) = true →
            (∀ q : Pos, q ≠ p → v.testBit (q.num - 1) = s.cfg.fitted.testBit (q.num - 1)) →
            ChannelsIdle s → NoCandidates s → (s.scan.strings.get p).stats = none →
            (s.temps.pilots.get p).state = .valid →
            (s.hist.get p).hours < s.cfg.dueDays * 24 → (s.hist.get p).throughput < s.cfg.dueAh * 36000 →
            ∃ t, exec .setSetting s = .next t
              ∧ (∀ q : Pos, q ≠ p → t.sit.get q = s.sit.get q)
              ∧ t.sit.get p =
                  { role := .float, isolation := none, assigned := none, senseCell := .pending, sensePilot := .none
                    due := false, levelLow := presents s (.level p) == .active, hourSec := 0
                    onBus := (s.out.kf.get p == .closed) && (presents s (.kf p) == .active) }
              ∧ { nowSet s f rest i v with
                  sit := t.sit
                  perm := (if (t.sit.get p).onBus then { s.perm with breach := false } else s.perm) } = t)))
    ∧ (∀ (s : State) (f : Frame) (rest : List Frame) (v : Nat), Sets s f rest .fanMinRpm v →
        (s.perm.ventFailed = false →
          exec .setSetting s = .next
            { nowSet s f rest .fanMinRpm v with
              perm := { s.perm with lowSpeed :=
                if s.perm.fan = true ∧ s.perm.speed < v then some (s.perm.lowSpeed.getD 0) else none } })
        ∧ (s.perm.ventFailed = true → s.perm.fan = true →
          exec .setSetting s = .next
            { nowSet s f rest .fanMinRpm v with
              perm := { s.perm with recovery :=
                if v ≤ s.perm.speed then some (s.perm.recovery.getD 0) else none } })
        ∧ (s.perm.ventFailed = true → s.perm.fan = false → NoCandidates s →
          exec .setSetting s = .next
            { nowSet s f rest .fanMinRpm v with
              perm := { s.perm with ventFailed := false, recovery := none, lowSpeed := none } }))
    ∧ (∀ (s u : State) (f : Frame) (rest : List Frame) (i : SettingId) (v : Nat), Sets s f rest i v →
        i = .dueDays ∨ i = .dueAh → u = nowSet s f rest i v →
        ((∀ p : Pos, DueNow u p → (s.sit.get p).due = true) →
          ∃ t, exec .setSetting s = .next t
            ∧ (∀ p : Pos, (DueNow u p → t.sit.get p = s.sit.get p)
              ∧ (¬ DueNow u p → s.cfg.fitted.testBit (p.num - 1) = true →
                t.sit.get p = { s.sit.get p with due := false })
              ∧ (s.cfg.fitted.testBit (p.num - 1) = false → t.sit.get p = s.sit.get p))
            ∧ { u with sit := t.sit } = t)
        ∧ (∀ p : Pos, DueNow u p → (s.sit.get p).due = false →
          (∀ q : Pos, q ≠ p → DueNow u q → (s.sit.get q).due = true) → s.latches.stringDue = none →
          ((s.cfg.autoQueue = 0 ∨ (NoCandidates s ∧ (∀ c : Ch, (s.chan.get c).stage ≠ .idle)
              ∧ place s p = none ∧ (s.hist.get p).eqLock = none ∧ (s.hist.get p).waterLock = none)) →
            ∃ t, exec .setSetting s = .next t
              ∧ t.sit.get p = { s.sit.get p with due := true }
              ∧ (∀ q : Pos, q ≠ p → (DueNow u q → t.sit.get q = s.sit.get q)
                ∧ (¬ DueNow u q → s.cfg.fitted.testBit (q.num - 1) = true →
                  t.sit.get q = { s.sit.get q with due := false })
                ∧ (s.cfg.fitted.testBit (q.num - 1) = false → t.sit.get q = s.sit.get q))
              ∧ t.queue =
                  (if s.cfg.autoQueue = 0 then s.queue
                   else
                     { entries :=
                         [{ tag := 0, kind := .equaliseThenWater, string := p, cls := .routine, origin := .autoDue,
                            submit := { time := s.clock.count, valid := s.clock.valid }, notBefore := none,
                            holdOverride := none, ahOverride := none }]
                       gen := (s.queue.gen + 1) % 256 })
              ∧ { u with
                  sit := t.sit, queue := t.queue
                  latches := { s.latches with stringDue := (some
                    { string := p.num, value := if s.cfg.autoQueue = 0 then 1 else 0, captured := none,
                      time := { time := s.clock.count, valid := s.clock.valid }, again := 0, pending := true }) }
                } = t)))
    ∧ ∀ (s : State) (f : Frame) (rest : List Frame) (v w : Nat), Taking s f rest → f.kind = 0x08 → v < 65536 →
        f.body = BitVec.ofNat 8 (SettingId.id .noticeEnables) :: u32 v → w = v - v % 8 →
        s.store.writeBusy = false → w ≠ s.cfg.noticeEnables →
        exec .setSetting s = .next
          { s with
            store :=
              { s.store with
                working := { s.store.working with noticeEnables := w }, checksumOk := false, writeBusy := true
                defaulted := false }
            link := answered s rest (replyTo f 0 0 (u32 w)) }

/-- Submit Round of kind EQUALISE, class ROUTINE, without not_before and overrides, on an empty queue without surplus:
the entry is placed at position 1 and waits; a string with an outstanding round answers DUPLICATE with its place;
Cancel Round of a queued round removes the entry and nothing else, and of a string without a round answers NOT_FOUND
(R74, R71, R76). That the absent overrides are zero bytes in the reply is the model's reading (assumption 14). -/
def Obligations.RoundsAreQueuedAndCancelled : Prop :=
  (∀ (s : State) (f : Frame) (rest : List Frame) (p : Pos), Taking s f rest → f.kind = 0x0A → f.tag ≠ 0 →
    f.body = [BitVec.ofNat 8 p.num, 0, 1, 0, 0, 0, 0, 0, 0, 0, 0, 0] →
    s.cfg.fitted.testBit (p.num - 1) = true →
    (∀ pl : Place, place s p = some pl →
      exec .submitRound s = .next { s with link := answered s rest (replyTo f 4
        (match pl with | .queued => 1 | .held => 2 | .activeChannel => 3 | .activeLine => 4) []) })
    ∧ (place s p = none → (s.hist.get p).eqLock = none → NoCandidates s → s.supply.surplus = false →
      exec .submitRound s = .next
        { s with
          queue :=
            { entries :=
                [{ tag := f.tag, kind := .equalise, string := p, cls := .routine, origin := .request,
                   submit := { time := s.clock.count, valid := s.clock.valid }, notBefore := none,
                   holdOverride := none, ahOverride := none }]
              gen := (s.queue.gen + 1) % 256 }
          link := answered s rest (replyTo f 0 0 [1, 0, 0, 0, 0, 0, 0]) }))
    ∧ ∀ (s : State) (f : Frame) (rest : List Frame) (p : Pos), Taking s f rest → f.kind = 0x0B →
        f.body = [BitVec.ofNat 8 p.num] →
        (place s p = none → exec .cancelRound s = .next { s with link := answered s rest (replyTo f 5 0 []) })
        ∧ (place s p = some .queued →
          exec .cancelRound s = .next
            { s with
              queue :=
                { entries := s.queue.entries.filter (fun e => e.string != p)
                  gen := (s.queue.gen + (s.queue.entries.length
                    - (s.queue.entries.filter (fun e => e.string != p)).length)) % 256 }
              link := answered s rest (replyTo f 0 1 []) })

/-- Supply Grant replaces the grant, clamped to 720 minutes, and recomputes surplus; the grant's minutes run down,
and the last one without the generator loses surplus. With no round queued or held and no channel that needs supply
nothing else changes but the grace timer (R78, R79). Without a grant, GEN_RUN accepted ACTIVE makes surplus present
and stops the grace timer, and accepted INACTIVE it loses surplus, which starts the grace timer from 0 for a channel
in HOLD and changes nothing more with both channels IDLE (R78, R126). -/
def Obligations.SupplyIsGrantedAndRunsDown : Prop :=
  (∀ (s : State) (f : Frame) (rest : List Frame) (n : Nat), Taking s f rest → f.kind = 0x0E → n < 65536 →
    f.body = u16 n → NoCandidates s → ChannelsIdle s →
    ∃ t, exec .supplyGrant s = .next t
      ∧ t.supply =
          { grantMin := min n 720, grantSec := 0
            surplus := (presents s .genRun == .active) || decide (0 < n) }
      ∧ t.link = answered s rest (replyTo f (if 720 < n then 1 else 0) 0
          (u16 (min n 720) ++ [BitVec.ofNat 8 (presents s .genRun).code]
            ++ [if (presents s .genRun == .active) || decide (0 < n) then 1 else 0]))
      ∧ { s with supply := t.supply, link := t.link, perm := { s.perm with grace := t.perm.grace } } = t)
    ∧ (∀ s : State, 2 ≤ s.supply.grantMin → 60 ≤ s.supply.grantSec → s.supply.surplus = true → Settled s →
        exec .grantCountdown s = .next { s with supply :=
          { s.supply with grantMin := s.supply.grantMin - 1, grantSec := s.supply.grantSec - 60 } })
    ∧ (∀ s : State, s.supply.grantMin = 1 → 60 ≤ s.supply.grantSec → s.supply.surplus = true →
        presents s .genRun ≠ .active → ChannelsIdle s → Settled s →
        exec .grantCountdown s = .next { s with supply :=
          { grantMin := 0, grantSec := s.supply.grantSec - 60, surplus := false } })
    ∧ ∀ (s : State) (levels : BitVec 35) (k : DeliveryKind), s.phase ≠ .held → Settled s → s.supply.grantMin = 0 →
        (OnlyAccepts s levels .genRun k .active → s.supply.surplus = false → NoCandidates s →
          ∃ t, exec (.sampleInstant levels) s = .next t ∧ Sampled s levels t
            ∧ { s with
                base := t.base, inp := t.inp, supply := { s.supply with surplus := true }
                perm := { s.perm with grace := none } } = t)
        ∧ (OnlyAccepts s levels .genRun k .inactive → s.supply.surplus = true →
          (ChannelsIdle s →
            ∃ t, exec (.sampleInstant levels) s = .next t ∧ Sampled s levels t
              ∧ { s with base := t.base, inp := t.inp, supply := { s.supply with surplus := false } } = t)
          ∧ (∀ c : Ch, (s.chan.get c).stage = .hold → s.cfg.supplyGraceMin ≠ 0 →
            ∃ t, exec (.sampleInstant levels) s = .next t ∧ Sampled s levels t
              ∧ { s with
                  base := t.base, inp := t.inp, supply := { s.supply with surplus := false }
                  perm := { s.perm with grace := some 0 } } = t))

/-- The host's use of the line: Claim Line takes a FREE line to MANUAL, and is refused H2 while the hydrogen state is
not clear; Release Line gives a claimed line back, and is refused NOT_OWNER otherwise; Manual Dose takes the dose
with its volume clamped and opens the string's valve (R149, R150, R151, R138). The bytes of the BUSY reply, zero for
the absent string, are the model's reading (assumption 14), and so is that the counters and the outcome stand on the
released line (assumption 11). -/
def Obligations.HostUsesTheLine : Prop :=
  ∀ (s : State) (f : Frame) (rest : List Frame), Taking s f rest →
    (f.kind = 0x0F → f.body = [] →
      (h2Clear s = false → exec .claimLine s = .next { s with link := answered s rest (replyTo f 6 4 []) })
      ∧ (h2Clear s = true → s.line.stage = .free →
        exec .claimLine s = .next
          { s with
            line := { s.line with stage := .manual, owner := some .host, timer := 0 }
            link := answered s rest (replyTo f 0 0 [0]) })
      ∧ (h2Clear s = true → s.line.stage = .manual → s.line.string = none → s.line.owner = some .host →
        exec .claimLine s = .next { s with link := answered s rest (replyTo f 2 0 [1, 0, 0, 1, 3]) }))
    ∧ (f.kind = 0x10 → f.body = [] →
      ((s.line.owner ≠ some .host ∨ s.line.claimEnded = true) →
        exec .releaseLine s = .next { s with link := answered s rest (replyTo f 6 5 []) })
      ∧ (s.line.owner = some .host → s.line.claimEnded = false → s.line.stage = .manual →
        s.line.waiting = [] → NoCandidates s →
        exec .releaseLine s = .next
          { s with
            line :=
              { s.line with
                stage := .free, owner := none, string := none, identity := none, dose := none, timer := 0 }
            link := answered s rest (replyTo f 0 0 [0]) }))
    ∧ (∀ (p : Pos) (v w : Nat), f.kind = 0x11 → v < 65536 → f.body = BitVec.ofNat 8 p.num :: u16 v →
      s.line.owner = some .host → s.line.claimEnded = false → s.line.stage = .manual →
      s.line.pendingEnd = none → h2Clear s = true → s.cfg.fitted.testBit (p.num - 1) = true →
      (s.hist.get p).waterLock = none → presents s .resLow ≠ .active →
      w = max 100 (min s.cfg.waterMaxMl v) →
      exec .manualDose s = .next
        { s with
          line :=
            { s.line with
              stage := .priming, string := some p, identity := none
              dose := some { tag := f.tag, target := w }, ml := 0, pulses := 0, doses := 0, doseMl := 0
              outcome := none, timer := 0, flowRef := none }
          out := { s.out with valve := s.out.valve.set p .opened }
          link := answered s rest (replyTo f (if w = v then 0 else 1) 0 (u16 w)) })

/-- Refill replaces the account, clamped to the capacity; Clear Weak removes one string's entries or all of them;
Release Lock clears the locks it names and answers both as they then stand (R155, R169, R65). That an absent lock is a
presence byte and a zero in the reply is the model's reading (assumption 14). -/
def Obligations.HostKeepsTheBooks : Prop :=
  ∀ (s : State) (f : Frame) (rest : List Frame), Taking s f rest →
    (∀ v w : Nat, f.kind = 0x12 → v < 4294967296 → f.body = u32 v → NoCandidates s →
      w = min v s.cfg.reservoirCapMl →
      ∃ t, exec .refill s = .next t
        ∧ t.reservoir = { account := w, low := decide (w < s.cfg.reservoirLowMl) }
        ∧ t.link = answered s rest (replyTo f (if w = v then 0 else 1) 0 (u32 w))
        ∧ (∀ c : Condition, c ≠ .reservoirLow → t.latches.get c = s.latches.get c)
        ∧ { s with reservoir := t.reservoir, link := t.link, latches := t.latches } = t)
    ∧ (∀ n : Nat, f.kind = 0x14 → n ≤ 8 → f.body = [BitVec.ofNat 8 n] →
      ∃ t, exec .clearWeak s = .next t
        ∧ t.weak.entries = s.weak.entries.filter (fun e => decide (n ≠ 0) && decide (e.string.num ≠ n))
        ∧ t.weak.gen = (s.weak.gen + (s.weak.entries.length - t.weak.entries.length)) % 256
        ∧ t.link = answered s rest
            (replyTo f 0 0 [BitVec.ofNat 8 (s.weak.entries.length - t.weak.entries.length)])
        ∧ { s with weak := t.weak, link := t.link } = t)
    ∧ (∀ p : Pos, f.kind = 0x15 → s.cfg.fitted.testBit (p.num - 1) = true →
      (f.body = [BitVec.ofNat 8 p.num, 2] →
        exec .releaseLock s = .next
          { s with
            hist := s.hist.set p { s.hist.get p with eqLock := none, waterLock := none }
            link := answered s rest (replyTo f 0 0 [0, 0, 0, 0]) })
      ∧ (f.body = [BitVec.ofNat 8 p.num, 1] → (s.hist.get p).eqLock = none →
        exec .releaseLock s = .next
          { s with
            hist := s.hist.set p { s.hist.get p with waterLock := none }
            link := answered s rest (replyTo f 0 0 [0, 0, 0, 0]) })
      ∧ (f.body = [BitVec.ofNat 8 p.num, 0] → (s.hist.get p).waterLock = none →
        exec .releaseLock s = .next
          { s with
            hist := s.hist.set p { s.hist.get p with eqLock := none }
            link := answered s rest (replyTo f 0 0 [0, 0, 0, 0]) }))

/-- Set Notice Master sets the flag; Clear Conditions that names one condition, which is set, clears it when no cause
of it persists, and latches VENT_FAIL afresh with a pending notice while the vent is FAILED (R173, R174, R175). That a
set of conditions is two bytes, condition n at bit n - 1, is the model's reading (assumption 14). -/
def Obligations.HostHandlesConditions : Prop :=
  ∀ (s : State) (f : Frame) (rest : List Frame), Taking s f rest →
    (f.kind = 0x16 → (f.body = [0] ∨ f.body = [1]) →
      exec .setNoticeMaster s = .next
        { s with
          master := decide (f.body = [1])
          link := answered s rest (replyTo f 0 0 f.body) })
    ∧ (∀ (c : Condition) (d : LatchDetail), f.kind = 0x18 → f.body = [BitVec.ofNat 8 c.num] →
      s.latches.get c = some d →
      (causePersists s c = false →
        exec .clearConditions s = .next
          { s with
            latches := s.latches.set c none
            link := answered s rest (replyTo f 0 0 (u16 (2 ^ (c.num - 1)) ++ [0, 0])) })
      ∧ (c = .ventFail → s.perm.ventFailed = true →
        exec .clearConditions s = .next
          { s with
            latches := { s.latches with ventFail := (some
              { string := 0, value := s.perm.speed, captured := none,
                time := { time := s.clock.count, valid := s.clock.valid }, again := 0, pending := true }) }
            link := answered s rest (replyTo f 0 0 [0, 8, 0, 8]) }))

/-- Read Log fixes n by the distance back and starts the transfer, here for a seq that is held; a running transfer
answers BUSY; Stop Log ends the transfer and answers what it sent (R164, R166). -/
def Obligations.LogTransferIsStartedAndStopped : Prop :=
  ∀ (s : State) (f : Frame) (rest : List Frame), Taking s f rest →
    (∀ a n back : Nat, f.kind = 0x19 → a < 65536 → 1 ≤ n → n ≤ 64 → f.body = u16 a ++ [BitVec.ofNat 8 n] →
      (s.log.transfer.isSome = true →
        exec .readLog s = .next { s with link := answered s rest (replyTo f 2 0 []) })
      ∧ (s.log.transfer = none → s.log.nextSeq < 65536 → s.log.ring.length ≤ 64 → 1 ≤ back →
        back ≤ s.log.ring.length → back = (s.log.nextSeq + 65536 - a) % 65536 →
        exec .readLog s = .next
          { s with
            log := { s.log with transfer := (some
              { tag := f.tag, n := min n back, next := a, left := min n back, sent := 0 }) }
            link := answered s rest (replyTo f 0 0
              ([BitVec.ofNat 8 (min n back), 0, 1] ++ u16 a ++ u16 s.log.nextSeq
                ++ [BitVec.ofNat 8 s.log.ring.length])) }))
    ∧ (f.kind = 0x1A → f.body = [] →
      exec .stopLog s = .next
        { s with
          log := { s.log with transfer := none }
          link := answered s rest (replyTo f 0 0
            [BitVec.ofNat 8 (match s.log.transfer with | some t => t.sent | none => 0)]) })

/-! ### Laws of the whole part -/

/-- No step makes a list longer than the manual lets it be (R71, R130, R161, R167, R181). -/
def Obligations.CapacitiesAreKept : Prop :=
  ∀ s t : State, Capacities s → step s = .next t → Capacities t

/-- Every step leaves each channel's demand output at its present code (R47), and the charger of an IDLE or returning
channel disabled (R91, R114). -/
def Obligations.ChargersKeepTheirLaws : Prop :=
  (∀ s t : State, DemandShown s → step s = .next t → DemandShown t)
    ∧ ∀ s t : State, ChargerOff s → step s = .next t → ChargerOff t

/-- Every step leaves the places where rounds stand and the roles of their strings in agreement, so that no string
ever has two rounds in the plant (R61, R69), and a part held in reset without any round in the plant (R54, R91, R130,
R136). -/
def Obligations.RolesStayInAgreement : Prop :=
  ∀ s t : State, RolesAgree s → HeldClean s → step s = .next t → RolesAgree t ∧ HeldClean t

/-- No step ever commands a string's KE closed while its KF is commanded closed (R1), and every step leaves the on-bus
flags as the KF commands and feedbacks give them (R60). -/
def Obligations.BusesStayApart : Prop :=
  ∀ s t : State, RolesAgree s → BusesApart s → step s = .next t → BusesApart t

/-- Every step leaves at most the line's own valve open and the pump on in DOSING alone (R137). -/
def Obligations.LineOutputsAreKept : Prop :=
  ∀ s t : State, LineOutputs s → step s = .next t → LineOutputs t

/-- Every step leaves the log's seqs in order up to next_seq (R161). -/
def Obligations.SeqsAreKeptInOrder : Prop :=
  ∀ s t : State, SeqsInOrder s → step s = .next t → SeqsInOrder t

/-- Every step leaves the working and stored settings in their ranges (R184, R185), and from the load of the settings
on the Reservoir Account within RESERVOIR_CAP_ML (R153). -/
def Obligations.SettingsAreKeptInRange : Prop :=
  (∀ s t : State, SettingsInRange s → step s = .next t → SettingsInRange t)
    ∧ ∀ s t : State, AccountWithinCap s → step s = .next t → AccountWithinCap t

/-- The state after reset meets every law of the part. -/
def Obligations.ResetMeetsTheLaws : Prop :=
  Capacities State.reset ∧ DemandShown State.reset ∧ ChargerOff State.reset ∧ LineOutputs State.reset
    ∧ SeqsInOrder State.reset ∧ SettingsInRange State.reset ∧ RolesAgree State.reset ∧ BusesApart State.reset
    ∧ HeldClean State.reset ∧ AccountWithinCap State.reset
end

