-- ==== Sys2Proof/Laws/State.lean ====
section
/-! SUPPORT. Families of like units read after they are written, and one lemma per field of State for each of
the plain updates of Machine/Ops.lean and Machine/Link.lean, all true by unfolding. -/

namespace Sys2Proof.Machine

/-- Reading the position just written. -/
@[simp] theorem eight_get_set_same {α : Type} (e : Eight α) (p : Pos) (v : α) : (e.set p v).get p = v := by
  cases p <;> rfl

/-- Reading another position than the one written. -/
@[simp] theorem eight_get_set_other {α : Type} (e : Eight α) (p q : Pos) (v : α) (h : q ≠ p) :
    (e.set p v).get q = e.get q := by
  cases p <;> cases q <;> first | rfl | exact absurd rfl h

/-- Writing a position back as it stands changes nothing. -/
@[simp] theorem eight_set_get {α : Type} (e : Eight α) (p : Pos) : e.set p (e.get p) = e := by
  cases p <;> rfl

/-- Reading a family built from a value for each position. -/
@[simp] theorem eight_get_of {α : Type} (f : Pos → α) (p : Pos) : (Eight.of f).get p = f p := by
  cases p <;> rfl

/-- Reading a constant family. -/
@[simp] theorem eight_get_const {α : Type} (v : α) (p : Pos) : (Eight.const v).get p = v := by
  cases p <;> rfl

/-- Two families that read alike everywhere are the same. -/
theorem eight_ext {α : Type} (e e' : Eight α) (h : ∀ p, e.get p = e'.get p) : e = e' := by
  have h1 := h .p1; have h2 := h .p2; have h3 := h .p3; have h4 := h .p4
  have h5 := h .p5; have h6 := h .p6; have h7 := h .p7; have h8 := h .p8
  cases e; cases e'; simp_all [Eight.get]

/-- Reading the channel just written. -/
@[simp] theorem two_get_set_same {α : Type} (t : Two α) (c : Ch) (v : α) : (t.set c v).get c = v := by
  cases c <;> rfl

/-- Reading the other channel than the one written. -/
@[simp] theorem two_get_set_other {α : Type} (t : Two α) (c d : Ch) (v : α) (h : d ≠ c) :
    (t.set c v).get d = t.get d := by
  cases c <;> cases d <;> first | rfl | exact absurd rfl h

/-- The last write to a channel stands. -/
@[simp] theorem two_set_set {α : Type} (t : Two α) (c : Ch) (v w : α) : (t.set c v).set c w = t.set c w := by
  cases c <;> rfl

/-- Reading the latch just written. -/
@[simp] theorem latches_get_set_same (l : Latches) (c : Condition) (d : Option LatchDetail) :
    (l.set c d).get c = d := by
  cases c <;> rfl

/-- Reading another latch than the one written. -/
@[simp] theorem latches_get_set_other (l : Latches) (c e : Condition) (d : Option LatchDetail) (h : e ≠ c) :
    (l.set c d).get e = l.get e := by
  cases c <;> cases e <;> first | rfl | exact absurd rfl h

/-- Reading the filter record just written. -/
@[simp] theorem inputs_get_set_same (n : Inputs) (i : InputId) (f : Filter) : (n.set i f).get i = f := by
  cases i <;> simp [Inputs.set, Inputs.get]

/-- Reading another filter record than the one written. -/
@[simp] theorem inputs_get_set_other (n : Inputs) (i j : InputId) (f : Filter) (h : j ≠ i) :
    (n.set i f).get j = n.get j := by
  cases i <;> cases j <;> simp_all [Inputs.set, Inputs.get]

/-- An input read after any input was replaced. -/
theorem inputs_get_set (i : Inputs) (n m : InputId) (f : Filter) :
    (i.set n f).get m = if m = n then f else i.get m := by
  by_cases e : m = n
  · subst e; simp
  · simp [e]

/-- The setting just written reads as written. -/
@[simp] theorem settings_get_set_same (t : Settings) (i : SettingId) (v : Nat) : (t.set i v).get i = v := by
  cases i <;> rfl

section
variable (s : State) (p : Pos) (f : StringSituation → StringSituation)
@[simp] theorem modSit_phase : (State.modSit s p f).phase = s.phase := rfl
@[simp] theorem modSit_restartAt : (State.modSit s p f).restartAt = s.restartAt := rfl
@[simp] theorem modSit_base : (State.modSit s p f).base = s.base := rfl
@[simp] theorem modSit_clock : (State.modSit s p f).clock = s.clock := rfl
@[simp] theorem modSit_out : (State.modSit s p f).out = s.out := rfl
@[simp] theorem modSit_inp : (State.modSit s p f).inp = s.inp := rfl
@[simp] theorem modSit_scan : (State.modSit s p f).scan = s.scan := rfl
@[simp] theorem modSit_temps : (State.modSit s p f).temps = s.temps := rfl
@[simp] theorem modSit_flow : (State.modSit s p f).flow = s.flow := rfl
@[simp] theorem modSit_tach : (State.modSit s p f).tach = s.tach := rfl
@[simp] theorem modSit_comp : (State.modSit s p f).comp = s.comp := rfl
@[simp] theorem modSit_present : (State.modSit s p f).present = s.present := rfl
@[simp] theorem modSit_hist : (State.modSit s p f).hist = s.hist := rfl
@[simp] theorem modSit_sit : (State.modSit s p f).sit = s.sit.set p (f (s.sit.get p)) := rfl
@[simp] theorem modSit_queue : (State.modSit s p f).queue = s.queue := rfl
@[simp] theorem modSit_supply : (State.modSit s p f).supply = s.supply := rfl
@[simp] theorem modSit_chan : (State.modSit s p f).chan = s.chan := rfl
@[simp] theorem modSit_perm : (State.modSit s p f).perm = s.perm := rfl
@[simp] theorem modSit_held : (State.modSit s p f).held = s.held := rfl
@[simp] theorem modSit_line : (State.modSit s p f).line = s.line := rfl
@[simp] theorem modSit_reservoir : (State.modSit s p f).reservoir = s.reservoir := rfl
@[simp] theorem modSit_weak : (State.modSit s p f).weak = s.weak := rfl
@[simp] theorem modSit_log : (State.modSit s p f).log = s.log := rfl
@[simp] theorem modSit_latches : (State.modSit s p f).latches = s.latches := rfl
@[simp] theorem modSit_master : (State.modSit s p f).master = s.master := rfl
@[simp] theorem modSit_store : (State.modSit s p f).store = s.store := rfl
@[simp] theorem modSit_link : (State.modSit s p f).link = s.link := rfl
@[simp] theorem modSit_due : (State.modSit s p f).due = s.due := rfl
@[simp] theorem modSit_freeDrawn : (State.modSit s p f).freeDrawn = s.freeDrawn := rfl
@[simp] theorem modSit_pending : (State.modSit s p f).pending = s.pending := rfl
end

section
variable (s : State) (p : Pos) (f : StringHistory → StringHistory)
@[simp] theorem modHist_phase : (State.modHist s p f).phase = s.phase := rfl
@[simp] theorem modHist_restartAt : (State.modHist s p f).restartAt = s.restartAt := rfl
@[simp] theorem modHist_base : (State.modHist s p f).base = s.base := rfl
@[simp] theorem modHist_clock : (State.modHist s p f).clock = s.clock := rfl
@[simp] theorem modHist_out : (State.modHist s p f).out = s.out := rfl
@[simp] theorem modHist_inp : (State.modHist s p f).inp = s.inp := rfl
@[simp] theorem modHist_scan : (State.modHist s p f).scan = s.scan := rfl
@[simp] theorem modHist_temps : (State.modHist s p f).temps = s.temps := rfl
@[simp] theorem modHist_flow : (State.modHist s p f).flow = s.flow := rfl
@[simp] theorem modHist_tach : (State.modHist s p f).tach = s.tach := rfl
@[simp] theorem modHist_comp : (State.modHist s p f).comp = s.comp := rfl
@[simp] theorem modHist_present : (State.modHist s p f).present = s.present := rfl
@[simp] theorem modHist_hist : (State.modHist s p f).hist = s.hist.set p (f (s.hist.get p)) := rfl
@[simp] theorem modHist_sit : (State.modHist s p f).sit = s.sit := rfl
@[simp] theorem modHist_queue : (State.modHist s p f).queue = s.queue := rfl
@[simp] theorem modHist_supply : (State.modHist s p f).supply = s.supply := rfl
@[simp] theorem modHist_chan : (State.modHist s p f).chan = s.chan := rfl
@[simp] theorem modHist_perm : (State.modHist s p f).perm = s.perm := rfl
@[simp] theorem modHist_held : (State.modHist s p f).held = s.held := rfl
@[simp] theorem modHist_line : (State.modHist s p f).line = s.line := rfl
@[simp] theorem modHist_reservoir : (State.modHist s p f).reservoir = s.reservoir := rfl
@[simp] theorem modHist_weak : (State.modHist s p f).weak = s.weak := rfl
@[simp] theorem modHist_log : (State.modHist s p f).log = s.log := rfl
@[simp] theorem modHist_latches : (State.modHist s p f).latches = s.latches := rfl
@[simp] theorem modHist_master : (State.modHist s p f).master = s.master := rfl
@[simp] theorem modHist_store : (State.modHist s p f).store = s.store := rfl
@[simp] theorem modHist_link : (State.modHist s p f).link = s.link := rfl
@[simp] theorem modHist_due : (State.modHist s p f).due = s.due := rfl
@[simp] theorem modHist_freeDrawn : (State.modHist s p f).freeDrawn = s.freeDrawn := rfl
@[simp] theorem modHist_pending : (State.modHist s p f).pending = s.pending := rfl
end

section
variable (s : State) (c : Ch) (f : Channel → Channel)
@[simp] theorem modChan_phase : (State.modChan s c f).phase = s.phase := rfl
@[simp] theorem modChan_restartAt : (State.modChan s c f).restartAt = s.restartAt := rfl
@[simp] theorem modChan_base : (State.modChan s c f).base = s.base := rfl
@[simp] theorem modChan_clock : (State.modChan s c f).clock = s.clock := rfl
@[simp] theorem modChan_out : (State.modChan s c f).out = s.out := rfl
@[simp] theorem modChan_inp : (State.modChan s c f).inp = s.inp := rfl
@[simp] theorem modChan_scan : (State.modChan s c f).scan = s.scan := rfl
@[simp] theorem modChan_temps : (State.modChan s c f).temps = s.temps := rfl
@[simp] theorem modChan_flow : (State.modChan s c f).flow = s.flow := rfl
@[simp] theorem modChan_tach : (State.modChan s c f).tach = s.tach := rfl
@[simp] theorem modChan_comp : (State.modChan s c f).comp = s.comp := rfl
@[simp] theorem modChan_present : (State.modChan s c f).present = s.present := rfl
@[simp] theorem modChan_hist : (State.modChan s c f).hist = s.hist := rfl
@[simp] theorem modChan_sit : (State.modChan s c f).sit = s.sit := rfl
@[simp] theorem modChan_queue : (State.modChan s c f).queue = s.queue := rfl
@[simp] theorem modChan_supply : (State.modChan s c f).supply = s.supply := rfl
@[simp] theorem modChan_chan : (State.modChan s c f).chan = s.chan.set c (f (s.chan.get c)) := rfl
@[simp] theorem modChan_perm : (State.modChan s c f).perm = s.perm := rfl
@[simp] theorem modChan_held : (State.modChan s c f).held = s.held := rfl
@[simp] theorem modChan_line : (State.modChan s c f).line = s.line := rfl
@[simp] theorem modChan_reservoir : (State.modChan s c f).reservoir = s.reservoir := rfl
@[simp] theorem modChan_weak : (State.modChan s c f).weak = s.weak := rfl
@[simp] theorem modChan_log : (State.modChan s c f).log = s.log := rfl
@[simp] theorem modChan_latches : (State.modChan s c f).latches = s.latches := rfl
@[simp] theorem modChan_master : (State.modChan s c f).master = s.master := rfl
@[simp] theorem modChan_store : (State.modChan s c f).store = s.store := rfl
@[simp] theorem modChan_link : (State.modChan s c f).link = s.link := rfl
@[simp] theorem modChan_due : (State.modChan s c f).due = s.due := rfl
@[simp] theorem modChan_freeDrawn : (State.modChan s c f).freeDrawn = s.freeDrawn := rfl
@[simp] theorem modChan_pending : (State.modChan s c f).pending = s.pending := rfl
end

section
variable (s : State) (c : Ch) (f : Context → Context)
@[simp] theorem modCtx_phase : (State.modCtx s c f).phase = s.phase := rfl
@[simp] theorem modCtx_restartAt : (State.modCtx s c f).restartAt = s.restartAt := rfl
@[simp] theorem modCtx_base : (State.modCtx s c f).base = s.base := rfl
@[simp] theorem modCtx_clock : (State.modCtx s c f).clock = s.clock := rfl
@[simp] theorem modCtx_out : (State.modCtx s c f).out = s.out := rfl
@[simp] theorem modCtx_inp : (State.modCtx s c f).inp = s.inp := rfl
@[simp] theorem modCtx_scan : (State.modCtx s c f).scan = s.scan := rfl
@[simp] theorem modCtx_temps : (State.modCtx s c f).temps = s.temps := rfl
@[simp] theorem modCtx_flow : (State.modCtx s c f).flow = s.flow := rfl
@[simp] theorem modCtx_tach : (State.modCtx s c f).tach = s.tach := rfl
@[simp] theorem modCtx_comp : (State.modCtx s c f).comp = s.comp := rfl
@[simp] theorem modCtx_present : (State.modCtx s c f).present = s.present := rfl
@[simp] theorem modCtx_hist : (State.modCtx s c f).hist = s.hist := rfl
@[simp] theorem modCtx_sit : (State.modCtx s c f).sit = s.sit := rfl
@[simp] theorem modCtx_queue : (State.modCtx s c f).queue = s.queue := rfl
@[simp] theorem modCtx_supply : (State.modCtx s c f).supply = s.supply := rfl
@[simp] theorem modCtx_perm : (State.modCtx s c f).perm = s.perm := rfl
@[simp] theorem modCtx_held : (State.modCtx s c f).held = s.held := rfl
@[simp] theorem modCtx_line : (State.modCtx s c f).line = s.line := rfl
@[simp] theorem modCtx_reservoir : (State.modCtx s c f).reservoir = s.reservoir := rfl
@[simp] theorem modCtx_weak : (State.modCtx s c f).weak = s.weak := rfl
@[simp] theorem modCtx_log : (State.modCtx s c f).log = s.log := rfl
@[simp] theorem modCtx_latches : (State.modCtx s c f).latches = s.latches := rfl
@[simp] theorem modCtx_master : (State.modCtx s c f).master = s.master := rfl
@[simp] theorem modCtx_store : (State.modCtx s c f).store = s.store := rfl
@[simp] theorem modCtx_link : (State.modCtx s c f).link = s.link := rfl
@[simp] theorem modCtx_due : (State.modCtx s c f).due = s.due := rfl
@[simp] theorem modCtx_freeDrawn : (State.modCtx s c f).freeDrawn = s.freeDrawn := rfl
@[simp] theorem modCtx_pending : (State.modCtx s c f).pending = s.pending := rfl
end

section
variable (s : State) (c : Ch) (f : Call → Call)
@[simp] theorem modCall_phase : (State.modCall s c f).phase = s.phase := rfl
@[simp] theorem modCall_restartAt : (State.modCall s c f).restartAt = s.restartAt := rfl
@[simp] theorem modCall_base : (State.modCall s c f).base = s.base := rfl
@[simp] theorem modCall_clock : (State.modCall s c f).clock = s.clock := rfl
@[simp] theorem modCall_out : (State.modCall s c f).out = s.out := rfl
@[simp] theorem modCall_inp : (State.modCall s c f).inp = s.inp := rfl
@[simp] theorem modCall_scan : (State.modCall s c f).scan = s.scan := rfl
@[simp] theorem modCall_temps : (State.modCall s c f).temps = s.temps := rfl
@[simp] theorem modCall_flow : (State.modCall s c f).flow = s.flow := rfl
@[simp] theorem modCall_tach : (State.modCall s c f).tach = s.tach := rfl
@[simp] theorem modCall_comp : (State.modCall s c f).comp = s.comp := rfl
@[simp] theorem modCall_present : (State.modCall s c f).present = s.present := rfl
@[simp] theorem modCall_hist : (State.modCall s c f).hist = s.hist := rfl
@[simp] theorem modCall_sit : (State.modCall s c f).sit = s.sit := rfl
@[simp] theorem modCall_queue : (State.modCall s c f).queue = s.queue := rfl
@[simp] theorem modCall_supply : (State.modCall s c f).supply = s.supply := rfl
@[simp] theorem modCall_perm : (State.modCall s c f).perm = s.perm := rfl
@[simp] theorem modCall_held : (State.modCall s c f).held = s.held := rfl
@[simp] theorem modCall_line : (State.modCall s c f).line = s.line := rfl
@[simp] theorem modCall_reservoir : (State.modCall s c f).reservoir = s.reservoir := rfl
@[simp] theorem modCall_weak : (State.modCall s c f).weak = s.weak := rfl
@[simp] theorem modCall_log : (State.modCall s c f).log = s.log := rfl
@[simp] theorem modCall_latches : (State.modCall s c f).latches = s.latches := rfl
@[simp] theorem modCall_master : (State.modCall s c f).master = s.master := rfl
@[simp] theorem modCall_store : (State.modCall s c f).store = s.store := rfl
@[simp] theorem modCall_link : (State.modCall s c f).link = s.link := rfl
@[simp] theorem modCall_due : (State.modCall s c f).due = s.due := rfl
@[simp] theorem modCall_freeDrawn : (State.modCall s c f).freeDrawn = s.freeDrawn := rfl
@[simp] theorem modCall_pending : (State.modCall s c f).pending = s.pending := rfl
end

section
variable (s : State) (f : Permissions → Permissions)
@[simp] theorem modPerm_phase : (State.modPerm s f).phase = s.phase := rfl
@[simp] theorem modPerm_restartAt : (State.modPerm s f).restartAt = s.restartAt := rfl
@[simp] theorem modPerm_base : (State.modPerm s f).base = s.base := rfl
@[simp] theorem modPerm_clock : (State.modPerm s f).clock = s.clock := rfl
@[simp] theorem modPerm_out : (State.modPerm s f).out = s.out := rfl
@[simp] theorem modPerm_inp : (State.modPerm s f).inp = s.inp := rfl
@[simp] theorem modPerm_scan : (State.modPerm s f).scan = s.scan := rfl
@[simp] theorem modPerm_temps : (State.modPerm s f).temps = s.temps := rfl
@[simp] theorem modPerm_flow : (State.modPerm s f).flow = s.flow := rfl
@[simp] theorem modPerm_tach : (State.modPerm s f).tach = s.tach := rfl
@[simp] theorem modPerm_comp : (State.modPerm s f).comp = s.comp := rfl
@[simp] theorem modPerm_present : (State.modPerm s f).present = s.present := rfl
@[simp] theorem modPerm_hist : (State.modPerm s f).hist = s.hist := rfl
@[simp] theorem modPerm_sit : (State.modPerm s f).sit = s.sit := rfl
@[simp] theorem modPerm_queue : (State.modPerm s f).queue = s.queue := rfl
@[simp] theorem modPerm_supply : (State.modPerm s f).supply = s.supply := rfl
@[simp] theorem modPerm_chan : (State.modPerm s f).chan = s.chan := rfl
@[simp] theorem modPerm_perm : (State.modPerm s f).perm = f s.perm := rfl
@[simp] theorem modPerm_held : (State.modPerm s f).held = s.held := rfl
@[simp] theorem modPerm_line : (State.modPerm s f).line = s.line := rfl
@[simp] theorem modPerm_reservoir : (State.modPerm s f).reservoir = s.reservoir := rfl
@[simp] theorem modPerm_weak : (State.modPerm s f).weak = s.weak := rfl
@[simp] theorem modPerm_log : (State.modPerm s f).log = s.log := rfl
@[simp] theorem modPerm_latches : (State.modPerm s f).latches = s.latches := rfl
@[simp] theorem modPerm_master : (State.modPerm s f).master = s.master := rfl
@[simp] theorem modPerm_store : (State.modPerm s f).store = s.store := rfl
@[simp] theorem modPerm_link : (State.modPerm s f).link = s.link := rfl
@[simp] theorem modPerm_due : (State.modPerm s f).due = s.due := rfl
@[simp] theorem modPerm_freeDrawn : (State.modPerm s f).freeDrawn = s.freeDrawn := rfl
@[simp] theorem modPerm_pending : (State.modPerm s f).pending = s.pending := rfl
end

section
variable (s : State) (f : Line → Line)
@[simp] theorem modLine_phase : (State.modLine s f).phase = s.phase := rfl
@[simp] theorem modLine_restartAt : (State.modLine s f).restartAt = s.restartAt := rfl
@[simp] theorem modLine_base : (State.modLine s f).base = s.base := rfl
@[simp] theorem modLine_clock : (State.modLine s f).clock = s.clock := rfl
@[simp] theorem modLine_out : (State.modLine s f).out = s.out := rfl
@[simp] theorem modLine_inp : (State.modLine s f).inp = s.inp := rfl
@[simp] theorem modLine_scan : (State.modLine s f).scan = s.scan := rfl
@[simp] theorem modLine_temps : (State.modLine s f).temps = s.temps := rfl
@[simp] theorem modLine_flow : (State.modLine s f).flow = s.flow := rfl
@[simp] theorem modLine_tach : (State.modLine s f).tach = s.tach := rfl
@[simp] theorem modLine_comp : (State.modLine s f).comp = s.comp := rfl
@[simp] theorem modLine_present : (State.modLine s f).present = s.present := rfl
@[simp] theorem modLine_hist : (State.modLine s f).hist = s.hist := rfl
@[simp] theorem modLine_sit : (State.modLine s f).sit = s.sit := rfl
@[simp] theorem modLine_queue : (State.modLine s f).queue = s.queue := rfl
@[simp] theorem modLine_supply : (State.modLine s f).supply = s.supply := rfl
@[simp] theorem modLine_chan : (State.modLine s f).chan = s.chan := rfl
@[simp] theorem modLine_perm : (State.modLine s f).perm = s.perm := rfl
@[simp] theorem modLine_held : (State.modLine s f).held = s.held := rfl
@[simp] theorem modLine_line : (State.modLine s f).line = f s.line := rfl
@[simp] theorem modLine_reservoir : (State.modLine s f).reservoir = s.reservoir := rfl
@[simp] theorem modLine_weak : (State.modLine s f).weak = s.weak := rfl
@[simp] theorem modLine_log : (State.modLine s f).log = s.log := rfl
@[simp] theorem modLine_latches : (State.modLine s f).latches = s.latches := rfl
@[simp] theorem modLine_master : (State.modLine s f).master = s.master := rfl
@[simp] theorem modLine_store : (State.modLine s f).store = s.store := rfl
@[simp] theorem modLine_link : (State.modLine s f).link = s.link := rfl
@[simp] theorem modLine_due : (State.modLine s f).due = s.due := rfl
@[simp] theorem modLine_freeDrawn : (State.modLine s f).freeDrawn = s.freeDrawn := rfl
@[simp] theorem modLine_pending : (State.modLine s f).pending = s.pending := rfl
end

section
variable (s : State)
@[simp] theorem wantReserve_phase : (State.wantReserve s).phase = s.phase := rfl
@[simp] theorem wantReserve_restartAt : (State.wantReserve s).restartAt = s.restartAt := rfl
@[simp] theorem wantReserve_base : (State.wantReserve s).base = s.base := rfl
@[simp] theorem wantReserve_clock : (State.wantReserve s).clock = s.clock := rfl
@[simp] theorem wantReserve_out : (State.wantReserve s).out = s.out := rfl
@[simp] theorem wantReserve_inp : (State.wantReserve s).inp = s.inp := rfl
@[simp] theorem wantReserve_scan : (State.wantReserve s).scan = s.scan := rfl
@[simp] theorem wantReserve_temps : (State.wantReserve s).temps = s.temps := rfl
@[simp] theorem wantReserve_flow : (State.wantReserve s).flow = s.flow := rfl
@[simp] theorem wantReserve_tach : (State.wantReserve s).tach = s.tach := rfl
@[simp] theorem wantReserve_comp : (State.wantReserve s).comp = s.comp := rfl
@[simp] theorem wantReserve_present : (State.wantReserve s).present = s.present := rfl
@[simp] theorem wantReserve_hist : (State.wantReserve s).hist = s.hist := rfl
@[simp] theorem wantReserve_sit : (State.wantReserve s).sit = s.sit := rfl
@[simp] theorem wantReserve_queue : (State.wantReserve s).queue = s.queue := rfl
@[simp] theorem wantReserve_supply : (State.wantReserve s).supply = s.supply := rfl
@[simp] theorem wantReserve_chan : (State.wantReserve s).chan = s.chan := rfl
@[simp] theorem wantReserve_perm : (State.wantReserve s).perm = s.perm := rfl
@[simp] theorem wantReserve_held : (State.wantReserve s).held = s.held := rfl
@[simp] theorem wantReserve_line : (State.wantReserve s).line = s.line := rfl
@[simp] theorem wantReserve_reservoir : (State.wantReserve s).reservoir = s.reservoir := rfl
@[simp] theorem wantReserve_weak : (State.wantReserve s).weak = s.weak := rfl
@[simp] theorem wantReserve_log : (State.wantReserve s).log = s.log := rfl
@[simp] theorem wantReserve_latches : (State.wantReserve s).latches = s.latches := rfl
@[simp] theorem wantReserve_master : (State.wantReserve s).master = s.master := rfl
@[simp] theorem wantReserve_store : (State.wantReserve s).store = s.store := rfl
@[simp] theorem wantReserve_link : (State.wantReserve s).link = s.link := rfl
@[simp] theorem wantReserve_due : (State.wantReserve s).due = { s.due with reserve := true } := rfl
@[simp] theorem wantReserve_freeDrawn : (State.wantReserve s).freeDrawn = s.freeDrawn := rfl
@[simp] theorem wantReserve_pending : (State.wantReserve s).pending = s.pending := rfl
end

section
variable (s : State)
@[simp] theorem wantAdmission_phase : (State.wantAdmission s).phase = s.phase := rfl
@[simp] theorem wantAdmission_restartAt : (State.wantAdmission s).restartAt = s.restartAt := rfl
@[simp] theorem wantAdmission_base : (State.wantAdmission s).base = s.base := rfl
@[simp] theorem wantAdmission_clock : (State.wantAdmission s).clock = s.clock := rfl
@[simp] theorem wantAdmission_out : (State.wantAdmission s).out = s.out := rfl
@[simp] theorem wantAdmission_inp : (State.wantAdmission s).inp = s.inp := rfl
@[simp] theorem wantAdmission_scan : (State.wantAdmission s).scan = s.scan := rfl
@[simp] theorem wantAdmission_temps : (State.wantAdmission s).temps = s.temps := rfl
@[simp] theorem wantAdmission_flow : (State.wantAdmission s).flow = s.flow := rfl
@[simp] theorem wantAdmission_tach : (State.wantAdmission s).tach = s.tach := rfl
@[simp] theorem wantAdmission_comp : (State.wantAdmission s).comp = s.comp := rfl
@[simp] theorem wantAdmission_present : (State.wantAdmission s).present = s.present := rfl
@[simp] theorem wantAdmission_hist : (State.wantAdmission s).hist = s.hist := rfl
@[simp] theorem wantAdmission_sit : (State.wantAdmission s).sit = s.sit := rfl
@[simp] theorem wantAdmission_queue : (State.wantAdmission s).queue = s.queue := rfl
@[simp] theorem wantAdmission_supply : (State.wantAdmission s).supply = s.supply := rfl
@[simp] theorem wantAdmission_chan : (State.wantAdmission s).chan = s.chan := rfl
@[simp] theorem wantAdmission_perm : (State.wantAdmission s).perm = s.perm := rfl
@[simp] theorem wantAdmission_held : (State.wantAdmission s).held = s.held := rfl
@[simp] theorem wantAdmission_line : (State.wantAdmission s).line = s.line := rfl
@[simp] theorem wantAdmission_reservoir : (State.wantAdmission s).reservoir = s.reservoir := rfl
@[simp] theorem wantAdmission_weak : (State.wantAdmission s).weak = s.weak := rfl
@[simp] theorem wantAdmission_log : (State.wantAdmission s).log = s.log := rfl
@[simp] theorem wantAdmission_latches : (State.wantAdmission s).latches = s.latches := rfl
@[simp] theorem wantAdmission_master : (State.wantAdmission s).master = s.master := rfl
@[simp] theorem wantAdmission_store : (State.wantAdmission s).store = s.store := rfl
@[simp] theorem wantAdmission_link : (State.wantAdmission s).link = s.link := rfl
@[simp] theorem wantAdmission_due : (State.wantAdmission s).due = { s.due with admission := true } := rfl
@[simp] theorem wantAdmission_freeDrawn : (State.wantAdmission s).freeDrawn = s.freeDrawn := rfl
@[simp] theorem wantAdmission_pending : (State.wantAdmission s).pending = s.pending := rfl
end

section
variable (s : State) (c : Ch) (v : Bool)
@[simp] theorem setEnable_phase : (setEnable s c v).phase = s.phase := rfl
@[simp] theorem setEnable_restartAt : (setEnable s c v).restartAt = s.restartAt := rfl
@[simp] theorem setEnable_base : (setEnable s c v).base = s.base := rfl
@[simp] theorem setEnable_clock : (setEnable s c v).clock = s.clock := rfl
@[simp] theorem setEnable_inp : (setEnable s c v).inp = s.inp := rfl
@[simp] theorem setEnable_scan : (setEnable s c v).scan = s.scan := rfl
@[simp] theorem setEnable_temps : (setEnable s c v).temps = s.temps := rfl
@[simp] theorem setEnable_flow : (setEnable s c v).flow = s.flow := rfl
@[simp] theorem setEnable_tach : (setEnable s c v).tach = s.tach := rfl
@[simp] theorem setEnable_comp : (setEnable s c v).comp = s.comp := rfl
@[simp] theorem setEnable_present : (setEnable s c v).present = s.present := rfl
@[simp] theorem setEnable_hist : (setEnable s c v).hist = s.hist := rfl
@[simp] theorem setEnable_sit : (setEnable s c v).sit = s.sit := rfl
@[simp] theorem setEnable_queue : (setEnable s c v).queue = s.queue := rfl
@[simp] theorem setEnable_supply : (setEnable s c v).supply = s.supply := rfl
@[simp] theorem setEnable_chan : (setEnable s c v).chan = s.chan := rfl
@[simp] theorem setEnable_perm : (setEnable s c v).perm = s.perm := rfl
@[simp] theorem setEnable_held : (setEnable s c v).held = s.held := rfl
@[simp] theorem setEnable_line : (setEnable s c v).line = s.line := rfl
@[simp] theorem setEnable_reservoir : (setEnable s c v).reservoir = s.reservoir := rfl
@[simp] theorem setEnable_weak : (setEnable s c v).weak = s.weak := rfl
@[simp] theorem setEnable_log : (setEnable s c v).log = s.log := rfl
@[simp] theorem setEnable_latches : (setEnable s c v).latches = s.latches := rfl
@[simp] theorem setEnable_master : (setEnable s c v).master = s.master := rfl
@[simp] theorem setEnable_store : (setEnable s c v).store = s.store := rfl
@[simp] theorem setEnable_link : (setEnable s c v).link = s.link := rfl
@[simp] theorem setEnable_due : (setEnable s c v).due = s.due := rfl
@[simp] theorem setEnable_freeDrawn : (setEnable s c v).freeDrawn = s.freeDrawn := rfl
@[simp] theorem setEnable_pending : (setEnable s c v).pending = s.pending := rfl
end

section
variable (s : State) (c : Ch) (n : Nat)
@[simp] theorem setLimit_phase : (setLimit s c n).phase = s.phase := rfl
@[simp] theorem setLimit_restartAt : (setLimit s c n).restartAt = s.restartAt := rfl
@[simp] theorem setLimit_base : (setLimit s c n).base = s.base := rfl
@[simp] theorem setLimit_clock : (setLimit s c n).clock = s.clock := rfl
@[simp] theorem setLimit_inp : (setLimit s c n).inp = s.inp := rfl
@[simp] theorem setLimit_scan : (setLimit s c n).scan = s.scan := rfl
@[simp] theorem setLimit_temps : (setLimit s c n).temps = s.temps := rfl
@[simp] theorem setLimit_flow : (setLimit s c n).flow = s.flow := rfl
@[simp] theorem setLimit_tach : (setLimit s c n).tach = s.tach := rfl
@[simp] theorem setLimit_comp : (setLimit s c n).comp = s.comp := rfl
@[simp] theorem setLimit_present : (setLimit s c n).present = s.present := rfl
@[simp] theorem setLimit_hist : (setLimit s c n).hist = s.hist := rfl
@[simp] theorem setLimit_sit : (setLimit s c n).sit = s.sit := rfl
@[simp] theorem setLimit_queue : (setLimit s c n).queue = s.queue := rfl
@[simp] theorem setLimit_supply : (setLimit s c n).supply = s.supply := rfl
@[simp] theorem setLimit_chan : (setLimit s c n).chan = s.chan := rfl
@[simp] theorem setLimit_perm : (setLimit s c n).perm = s.perm := rfl
@[simp] theorem setLimit_held : (setLimit s c n).held = s.held := rfl
@[simp] theorem setLimit_line : (setLimit s c n).line = s.line := rfl
@[simp] theorem setLimit_reservoir : (setLimit s c n).reservoir = s.reservoir := rfl
@[simp] theorem setLimit_weak : (setLimit s c n).weak = s.weak := rfl
@[simp] theorem setLimit_log : (setLimit s c n).log = s.log := rfl
@[simp] theorem setLimit_latches : (setLimit s c n).latches = s.latches := rfl
@[simp] theorem setLimit_master : (setLimit s c n).master = s.master := rfl
@[simp] theorem setLimit_store : (setLimit s c n).store = s.store := rfl
@[simp] theorem setLimit_link : (setLimit s c n).link = s.link := rfl
@[simp] theorem setLimit_due : (setLimit s c n).due = s.due := rfl
@[simp] theorem setLimit_freeDrawn : (setLimit s c n).freeDrawn = s.freeDrawn := rfl
@[simp] theorem setLimit_pending : (setLimit s c n).pending = s.pending := rfl
end

section
variable (s : State) (c : Ch) (n : Nat) (v : Option Nat)
@[simp] theorem writeDemand_phase : (writeDemand s c n v).phase = s.phase := rfl
@[simp] theorem writeDemand_restartAt : (writeDemand s c n v).restartAt = s.restartAt := rfl
@[simp] theorem writeDemand_base : (writeDemand s c n v).base = s.base := rfl
@[simp] theorem writeDemand_clock : (writeDemand s c n v).clock = s.clock := rfl
@[simp] theorem writeDemand_inp : (writeDemand s c n v).inp = s.inp := rfl
@[simp] theorem writeDemand_scan : (writeDemand s c n v).scan = s.scan := rfl
@[simp] theorem writeDemand_temps : (writeDemand s c n v).temps = s.temps := rfl
@[simp] theorem writeDemand_flow : (writeDemand s c n v).flow = s.flow := rfl
@[simp] theorem writeDemand_tach : (writeDemand s c n v).tach = s.tach := rfl
@[simp] theorem writeDemand_comp : (writeDemand s c n v).comp = s.comp := rfl
@[simp] theorem writeDemand_present : (writeDemand s c n v).present = s.present.set c { code := n, cell := v } := rfl
@[simp] theorem writeDemand_hist : (writeDemand s c n v).hist = s.hist := rfl
@[simp] theorem writeDemand_sit : (writeDemand s c n v).sit = s.sit := rfl
@[simp] theorem writeDemand_queue : (writeDemand s c n v).queue = s.queue := rfl
@[simp] theorem writeDemand_supply : (writeDemand s c n v).supply = s.supply := rfl
@[simp] theorem writeDemand_chan : (writeDemand s c n v).chan = s.chan := rfl
@[simp] theorem writeDemand_perm : (writeDemand s c n v).perm = s.perm := rfl
@[simp] theorem writeDemand_held : (writeDemand s c n v).held = s.held := rfl
@[simp] theorem writeDemand_line : (writeDemand s c n v).line = s.line := rfl
@[simp] theorem writeDemand_reservoir : (writeDemand s c n v).reservoir = s.reservoir := rfl
@[simp] theorem writeDemand_weak : (writeDemand s c n v).weak = s.weak := rfl
@[simp] theorem writeDemand_log : (writeDemand s c n v).log = s.log := rfl
@[simp] theorem writeDemand_latches : (writeDemand s c n v).latches = s.latches := rfl
@[simp] theorem writeDemand_master : (writeDemand s c n v).master = s.master := rfl
@[simp] theorem writeDemand_store : (writeDemand s c n v).store = s.store := rfl
@[simp] theorem writeDemand_link : (writeDemand s c n v).link = s.link := rfl
@[simp] theorem writeDemand_due : (writeDemand s c n v).due = s.due := rfl
@[simp] theorem writeDemand_freeDrawn : (writeDemand s c n v).freeDrawn = s.freeDrawn := rfl
@[simp] theorem writeDemand_pending : (writeDemand s c n v).pending = s.pending := rfl
end

section
variable (s : State) (p : Pos) (v : Contact)
@[simp] theorem commandKe_phase : (commandKe s p v).phase = s.phase := rfl
@[simp] theorem commandKe_restartAt : (commandKe s p v).restartAt = s.restartAt := rfl
@[simp] theorem commandKe_base : (commandKe s p v).base = s.base := rfl
@[simp] theorem commandKe_clock : (commandKe s p v).clock = s.clock := rfl
@[simp] theorem commandKe_out : (commandKe s p v).out = { s.out with ke := s.out.ke.set p v } := rfl
@[simp] theorem commandKe_inp : (commandKe s p v).inp = s.inp := rfl
@[simp] theorem commandKe_scan : (commandKe s p v).scan = s.scan := rfl
@[simp] theorem commandKe_temps : (commandKe s p v).temps = s.temps := rfl
@[simp] theorem commandKe_flow : (commandKe s p v).flow = s.flow := rfl
@[simp] theorem commandKe_tach : (commandKe s p v).tach = s.tach := rfl
@[simp] theorem commandKe_comp : (commandKe s p v).comp = s.comp := rfl
@[simp] theorem commandKe_present : (commandKe s p v).present = s.present := rfl
@[simp] theorem commandKe_hist : (commandKe s p v).hist = s.hist := rfl
@[simp] theorem commandKe_sit : (commandKe s p v).sit = s.sit := rfl
@[simp] theorem commandKe_queue : (commandKe s p v).queue = s.queue := rfl
@[simp] theorem commandKe_supply : (commandKe s p v).supply = s.supply := rfl
@[simp] theorem commandKe_chan : (commandKe s p v).chan = s.chan := rfl
@[simp] theorem commandKe_perm : (commandKe s p v).perm = s.perm := rfl
@[simp] theorem commandKe_held : (commandKe s p v).held = s.held := rfl
@[simp] theorem commandKe_line : (commandKe s p v).line = s.line := rfl
@[simp] theorem commandKe_reservoir : (commandKe s p v).reservoir = s.reservoir := rfl
@[simp] theorem commandKe_weak : (commandKe s p v).weak = s.weak := rfl
@[simp] theorem commandKe_log : (commandKe s p v).log = s.log := rfl
@[simp] theorem commandKe_latches : (commandKe s p v).latches = s.latches := rfl
@[simp] theorem commandKe_master : (commandKe s p v).master = s.master := rfl
@[simp] theorem commandKe_store : (commandKe s p v).store = s.store := rfl
@[simp] theorem commandKe_link : (commandKe s p v).link = s.link := rfl
@[simp] theorem commandKe_due : (commandKe s p v).due = s.due := rfl
@[simp] theorem commandKe_freeDrawn : (commandKe s p v).freeDrawn = s.freeDrawn := rfl
@[simp] theorem commandKe_pending : (commandKe s p v).pending = s.pending := rfl
end

section
variable (s : State) (p : Pos) (v : Ch)
@[simp] theorem commandKs_phase : (commandKs s p v).phase = s.phase := rfl
@[simp] theorem commandKs_restartAt : (commandKs s p v).restartAt = s.restartAt := rfl
@[simp] theorem commandKs_base : (commandKs s p v).base = s.base := rfl
@[simp] theorem commandKs_clock : (commandKs s p v).clock = s.clock := rfl
@[simp] theorem commandKs_out : (commandKs s p v).out = { s.out with ks := s.out.ks.set p v } := rfl
@[simp] theorem commandKs_inp : (commandKs s p v).inp = s.inp := rfl
@[simp] theorem commandKs_scan : (commandKs s p v).scan = s.scan := rfl
@[simp] theorem commandKs_temps : (commandKs s p v).temps = s.temps := rfl
@[simp] theorem commandKs_flow : (commandKs s p v).flow = s.flow := rfl
@[simp] theorem commandKs_tach : (commandKs s p v).tach = s.tach := rfl
@[simp] theorem commandKs_comp : (commandKs s p v).comp = s.comp := rfl
@[simp] theorem commandKs_present : (commandKs s p v).present = s.present := rfl
@[simp] theorem commandKs_hist : (commandKs s p v).hist = s.hist := rfl
@[simp] theorem commandKs_sit : (commandKs s p v).sit = s.sit := rfl
@[simp] theorem commandKs_queue : (commandKs s p v).queue = s.queue := rfl
@[simp] theorem commandKs_supply : (commandKs s p v).supply = s.supply := rfl
@[simp] theorem commandKs_chan : (commandKs s p v).chan = s.chan := rfl
@[simp] theorem commandKs_perm : (commandKs s p v).perm = s.perm := rfl
@[simp] theorem commandKs_held : (commandKs s p v).held = s.held := rfl
@[simp] theorem commandKs_line : (commandKs s p v).line = s.line := rfl
@[simp] theorem commandKs_reservoir : (commandKs s p v).reservoir = s.reservoir := rfl
@[simp] theorem commandKs_weak : (commandKs s p v).weak = s.weak := rfl
@[simp] theorem commandKs_log : (commandKs s p v).log = s.log := rfl
@[simp] theorem commandKs_latches : (commandKs s p v).latches = s.latches := rfl
@[simp] theorem commandKs_master : (commandKs s p v).master = s.master := rfl
@[simp] theorem commandKs_store : (commandKs s p v).store = s.store := rfl
@[simp] theorem commandKs_link : (commandKs s p v).link = s.link := rfl
@[simp] theorem commandKs_due : (commandKs s p v).due = s.due := rfl
@[simp] theorem commandKs_freeDrawn : (commandKs s p v).freeDrawn = s.freeDrawn := rfl
@[simp] theorem commandKs_pending : (commandKs s p v).pending = s.pending := rfl
end

section
variable (s : State) (v : Bool)
@[simp] theorem setPump_phase : (setPump s v).phase = s.phase := rfl
@[simp] theorem setPump_restartAt : (setPump s v).restartAt = s.restartAt := rfl
@[simp] theorem setPump_base : (setPump s v).base = s.base := rfl
@[simp] theorem setPump_clock : (setPump s v).clock = s.clock := rfl
@[simp] theorem setPump_out : (setPump s v).out = { s.out with pump := v } := rfl
@[simp] theorem setPump_inp : (setPump s v).inp = s.inp := rfl
@[simp] theorem setPump_scan : (setPump s v).scan = s.scan := rfl
@[simp] theorem setPump_temps : (setPump s v).temps = s.temps := rfl
@[simp] theorem setPump_flow : (setPump s v).flow = s.flow := rfl
@[simp] theorem setPump_tach : (setPump s v).tach = s.tach := rfl
@[simp] theorem setPump_comp : (setPump s v).comp = s.comp := rfl
@[simp] theorem setPump_present : (setPump s v).present = s.present := rfl
@[simp] theorem setPump_hist : (setPump s v).hist = s.hist := rfl
@[simp] theorem setPump_sit : (setPump s v).sit = s.sit := rfl
@[simp] theorem setPump_queue : (setPump s v).queue = s.queue := rfl
@[simp] theorem setPump_supply : (setPump s v).supply = s.supply := rfl
@[simp] theorem setPump_chan : (setPump s v).chan = s.chan := rfl
@[simp] theorem setPump_perm : (setPump s v).perm = s.perm := rfl
@[simp] theorem setPump_held : (setPump s v).held = s.held := rfl
@[simp] theorem setPump_line : (setPump s v).line = s.line := rfl
@[simp] theorem setPump_reservoir : (setPump s v).reservoir = s.reservoir := rfl
@[simp] theorem setPump_weak : (setPump s v).weak = s.weak := rfl
@[simp] theorem setPump_log : (setPump s v).log = s.log := rfl
@[simp] theorem setPump_latches : (setPump s v).latches = s.latches := rfl
@[simp] theorem setPump_master : (setPump s v).master = s.master := rfl
@[simp] theorem setPump_store : (setPump s v).store = s.store := rfl
@[simp] theorem setPump_link : (setPump s v).link = s.link := rfl
@[simp] theorem setPump_due : (setPump s v).due = s.due := rfl
@[simp] theorem setPump_freeDrawn : (setPump s v).freeDrawn = s.freeDrawn := rfl
@[simp] theorem setPump_pending : (setPump s v).pending = s.pending := rfl
end

section
variable (s : State) (p : Pos) (v : Contact)
@[simp] theorem setValve_phase : (setValve s p v).phase = s.phase := rfl
@[simp] theorem setValve_restartAt : (setValve s p v).restartAt = s.restartAt := rfl
@[simp] theorem setValve_base : (setValve s p v).base = s.base := rfl
@[simp] theorem setValve_clock : (setValve s p v).clock = s.clock := rfl
@[simp] theorem setValve_out : (setValve s p v).out = { s.out with valve := s.out.valve.set p v } := rfl
@[simp] theorem setValve_inp : (setValve s p v).inp = s.inp := rfl
@[simp] theorem setValve_scan : (setValve s p v).scan = s.scan := rfl
@[simp] theorem setValve_temps : (setValve s p v).temps = s.temps := rfl
@[simp] theorem setValve_flow : (setValve s p v).flow = s.flow := rfl
@[simp] theorem setValve_tach : (setValve s p v).tach = s.tach := rfl
@[simp] theorem setValve_comp : (setValve s p v).comp = s.comp := rfl
@[simp] theorem setValve_present : (setValve s p v).present = s.present := rfl
@[simp] theorem setValve_hist : (setValve s p v).hist = s.hist := rfl
@[simp] theorem setValve_sit : (setValve s p v).sit = s.sit := rfl
@[simp] theorem setValve_queue : (setValve s p v).queue = s.queue := rfl
@[simp] theorem setValve_supply : (setValve s p v).supply = s.supply := rfl
@[simp] theorem setValve_chan : (setValve s p v).chan = s.chan := rfl
@[simp] theorem setValve_perm : (setValve s p v).perm = s.perm := rfl
@[simp] theorem setValve_held : (setValve s p v).held = s.held := rfl
@[simp] theorem setValve_line : (setValve s p v).line = s.line := rfl
@[simp] theorem setValve_reservoir : (setValve s p v).reservoir = s.reservoir := rfl
@[simp] theorem setValve_weak : (setValve s p v).weak = s.weak := rfl
@[simp] theorem setValve_log : (setValve s p v).log = s.log := rfl
@[simp] theorem setValve_latches : (setValve s p v).latches = s.latches := rfl
@[simp] theorem setValve_master : (setValve s p v).master = s.master := rfl
@[simp] theorem setValve_store : (setValve s p v).store = s.store := rfl
@[simp] theorem setValve_link : (setValve s p v).link = s.link := rfl
@[simp] theorem setValve_due : (setValve s p v).due = s.due := rfl
@[simp] theorem setValve_freeDrawn : (setValve s p v).freeDrawn = s.freeDrawn := rfl
@[simp] theorem setValve_pending : (setValve s p v).pending = s.pending := rfl
end

section
variable (s : State) (c : Condition) (n v : Nat) (l : Option Level)
@[simp] theorem event_phase : (State.event s c n v l).phase = s.phase := rfl
@[simp] theorem event_restartAt : (State.event s c n v l).restartAt = s.restartAt := rfl
@[simp] theorem event_base : (State.event s c n v l).base = s.base := rfl
@[simp] theorem event_clock : (State.event s c n v l).clock = s.clock := rfl
@[simp] theorem event_out : (State.event s c n v l).out = s.out := rfl
@[simp] theorem event_inp : (State.event s c n v l).inp = s.inp := rfl
@[simp] theorem event_scan : (State.event s c n v l).scan = s.scan := rfl
@[simp] theorem event_temps : (State.event s c n v l).temps = s.temps := rfl
@[simp] theorem event_flow : (State.event s c n v l).flow = s.flow := rfl
@[simp] theorem event_tach : (State.event s c n v l).tach = s.tach := rfl
@[simp] theorem event_comp : (State.event s c n v l).comp = s.comp := rfl
@[simp] theorem event_present : (State.event s c n v l).present = s.present := rfl
@[simp] theorem event_hist : (State.event s c n v l).hist = s.hist := rfl
@[simp] theorem event_sit : (State.event s c n v l).sit = s.sit := rfl
@[simp] theorem event_queue : (State.event s c n v l).queue = s.queue := rfl
@[simp] theorem event_supply : (State.event s c n v l).supply = s.supply := rfl
@[simp] theorem event_chan : (State.event s c n v l).chan = s.chan := rfl
@[simp] theorem event_perm : (State.event s c n v l).perm = s.perm := rfl
@[simp] theorem event_held : (State.event s c n v l).held = s.held := rfl
@[simp] theorem event_line : (State.event s c n v l).line = s.line := rfl
@[simp] theorem event_reservoir : (State.event s c n v l).reservoir = s.reservoir := rfl
@[simp] theorem event_weak : (State.event s c n v l).weak = s.weak := rfl
@[simp] theorem event_log : (State.event s c n v l).log = s.log := rfl
@[simp] theorem event_master : (State.event s c n v l).master = s.master := rfl
@[simp] theorem event_store : (State.event s c n v l).store = s.store := rfl
@[simp] theorem event_link : (State.event s c n v l).link = s.link := rfl
@[simp] theorem event_due : (State.event s c n v l).due = s.due := rfl
@[simp] theorem event_freeDrawn : (State.event s c n v l).freeDrawn = s.freeDrawn := rfl
@[simp] theorem event_pending : (State.event s c n v l).pending = s.pending := rfl
end

section
variable (s : State) (n : Nat)
@[simp] theorem writeFloat_phase : (writeFloat s n).phase = s.phase := rfl
@[simp] theorem writeFloat_restartAt : (writeFloat s n).restartAt = s.restartAt := rfl
@[simp] theorem writeFloat_base : (writeFloat s n).base = s.base := rfl
@[simp] theorem writeFloat_clock : (writeFloat s n).clock = s.clock := rfl
@[simp] theorem writeFloat_out : (writeFloat s n).out = { s.out with floatDemand := n, floatComputed := true } := rfl
@[simp] theorem writeFloat_inp : (writeFloat s n).inp = s.inp := rfl
@[simp] theorem writeFloat_scan : (writeFloat s n).scan = s.scan := rfl
@[simp] theorem writeFloat_temps : (writeFloat s n).temps = s.temps := rfl
@[simp] theorem writeFloat_flow : (writeFloat s n).flow = s.flow := rfl
@[simp] theorem writeFloat_tach : (writeFloat s n).tach = s.tach := rfl
@[simp] theorem writeFloat_comp : (writeFloat s n).comp = s.comp := rfl
@[simp] theorem writeFloat_present : (writeFloat s n).present = s.present := rfl
@[simp] theorem writeFloat_hist : (writeFloat s n).hist = s.hist := rfl
@[simp] theorem writeFloat_sit : (writeFloat s n).sit = s.sit := rfl
@[simp] theorem writeFloat_queue : (writeFloat s n).queue = s.queue := rfl
@[simp] theorem writeFloat_supply : (writeFloat s n).supply = s.supply := rfl
@[simp] theorem writeFloat_chan : (writeFloat s n).chan = s.chan := rfl
@[simp] theorem writeFloat_perm : (writeFloat s n).perm = s.perm := rfl
@[simp] theorem writeFloat_held : (writeFloat s n).held = s.held := rfl
@[simp] theorem writeFloat_line : (writeFloat s n).line = s.line := rfl
@[simp] theorem writeFloat_reservoir : (writeFloat s n).reservoir = s.reservoir := rfl
@[simp] theorem writeFloat_weak : (writeFloat s n).weak = s.weak := rfl
@[simp] theorem writeFloat_log : (writeFloat s n).log = s.log := rfl
@[simp] theorem writeFloat_latches : (writeFloat s n).latches = s.latches := rfl
@[simp] theorem writeFloat_master : (writeFloat s n).master = s.master := rfl
@[simp] theorem writeFloat_store : (writeFloat s n).store = s.store := rfl
@[simp] theorem writeFloat_link : (writeFloat s n).link = s.link := rfl
@[simp] theorem writeFloat_due : (writeFloat s n).due = s.due := rfl
@[simp] theorem writeFloat_freeDrawn : (writeFloat s n).freeDrawn = s.freeDrawn := rfl
@[simp] theorem writeFloat_pending : (writeFloat s n).pending = s.pending := rfl
end

section
variable (s : State) (c : Ch)
@[simp] theorem stopWait_phase : (stopWait s c).phase = s.phase := rfl
@[simp] theorem stopWait_restartAt : (stopWait s c).restartAt = s.restartAt := rfl
@[simp] theorem stopWait_base : (stopWait s c).base = s.base := rfl
@[simp] theorem stopWait_clock : (stopWait s c).clock = s.clock := rfl
@[simp] theorem stopWait_out : (stopWait s c).out = s.out := rfl
@[simp] theorem stopWait_inp : (stopWait s c).inp = s.inp := rfl
@[simp] theorem stopWait_scan : (stopWait s c).scan = s.scan := rfl
@[simp] theorem stopWait_temps : (stopWait s c).temps = s.temps := rfl
@[simp] theorem stopWait_flow : (stopWait s c).flow = s.flow := rfl
@[simp] theorem stopWait_tach : (stopWait s c).tach = s.tach := rfl
@[simp] theorem stopWait_comp : (stopWait s c).comp = s.comp := rfl
@[simp] theorem stopWait_present : (stopWait s c).present = s.present := rfl
@[simp] theorem stopWait_hist : (stopWait s c).hist = s.hist := rfl
@[simp] theorem stopWait_sit : (stopWait s c).sit = s.sit := rfl
@[simp] theorem stopWait_queue : (stopWait s c).queue = s.queue := rfl
@[simp] theorem stopWait_supply : (stopWait s c).supply = s.supply := rfl
@[simp] theorem stopWait_perm : (stopWait s c).perm = s.perm := rfl
@[simp] theorem stopWait_held : (stopWait s c).held = s.held := rfl
@[simp] theorem stopWait_line : (stopWait s c).line = s.line := rfl
@[simp] theorem stopWait_reservoir : (stopWait s c).reservoir = s.reservoir := rfl
@[simp] theorem stopWait_weak : (stopWait s c).weak = s.weak := rfl
@[simp] theorem stopWait_log : (stopWait s c).log = s.log := rfl
@[simp] theorem stopWait_latches : (stopWait s c).latches = s.latches := rfl
@[simp] theorem stopWait_master : (stopWait s c).master = s.master := rfl
@[simp] theorem stopWait_store : (stopWait s c).store = s.store := rfl
@[simp] theorem stopWait_link : (stopWait s c).link = s.link := rfl
@[simp] theorem stopWait_due : (stopWait s c).due = s.due := rfl
@[simp] theorem stopWait_freeDrawn : (stopWait s c).freeDrawn = s.freeDrawn := rfl
@[simp] theorem stopWait_pending : (stopWait s c).pending = s.pending := rfl
end

section
variable (s : State) (c : Ch) (k : Contactor)
@[simp] theorem startWait_phase : (startWait s c k).phase = s.phase := rfl
@[simp] theorem startWait_restartAt : (startWait s c k).restartAt = s.restartAt := rfl
@[simp] theorem startWait_base : (startWait s c k).base = s.base := rfl
@[simp] theorem startWait_clock : (startWait s c k).clock = s.clock := rfl
@[simp] theorem startWait_out : (startWait s c k).out = s.out := rfl
@[simp] theorem startWait_inp : (startWait s c k).inp = s.inp := rfl
@[simp] theorem startWait_scan : (startWait s c k).scan = s.scan := rfl
@[simp] theorem startWait_temps : (startWait s c k).temps = s.temps := rfl
@[simp] theorem startWait_flow : (startWait s c k).flow = s.flow := rfl
@[simp] theorem startWait_tach : (startWait s c k).tach = s.tach := rfl
@[simp] theorem startWait_comp : (startWait s c k).comp = s.comp := rfl
@[simp] theorem startWait_present : (startWait s c k).present = s.present := rfl
@[simp] theorem startWait_hist : (startWait s c k).hist = s.hist := rfl
@[simp] theorem startWait_sit : (startWait s c k).sit = s.sit := rfl
@[simp] theorem startWait_queue : (startWait s c k).queue = s.queue := rfl
@[simp] theorem startWait_supply : (startWait s c k).supply = s.supply := rfl
@[simp] theorem startWait_perm : (startWait s c k).perm = s.perm := rfl
@[simp] theorem startWait_held : (startWait s c k).held = s.held := rfl
@[simp] theorem startWait_line : (startWait s c k).line = s.line := rfl
@[simp] theorem startWait_reservoir : (startWait s c k).reservoir = s.reservoir := rfl
@[simp] theorem startWait_weak : (startWait s c k).weak = s.weak := rfl
@[simp] theorem startWait_log : (startWait s c k).log = s.log := rfl
@[simp] theorem startWait_latches : (startWait s c k).latches = s.latches := rfl
@[simp] theorem startWait_master : (startWait s c k).master = s.master := rfl
@[simp] theorem startWait_store : (startWait s c k).store = s.store := rfl
@[simp] theorem startWait_link : (startWait s c k).link = s.link := rfl
@[simp] theorem startWait_due : (startWait s c k).due = s.due := rfl
@[simp] theorem startWait_freeDrawn : (startWait s c k).freeDrawn = s.freeDrawn := rfl
@[simp] theorem startWait_pending : (startWait s c k).pending = s.pending := rfl
end

section
variable (s : State) (f : Framer)
@[simp] theorem setFramer_phase : (setFramer s f).phase = s.phase := rfl
@[simp] theorem setFramer_restartAt : (setFramer s f).restartAt = s.restartAt := rfl
@[simp] theorem setFramer_base : (setFramer s f).base = s.base := rfl
@[simp] theorem setFramer_clock : (setFramer s f).clock = s.clock := rfl
@[simp] theorem setFramer_out : (setFramer s f).out = s.out := rfl
@[simp] theorem setFramer_inp : (setFramer s f).inp = s.inp := rfl
@[simp] theorem setFramer_scan : (setFramer s f).scan = s.scan := rfl
@[simp] theorem setFramer_temps : (setFramer s f).temps = s.temps := rfl
@[simp] theorem setFramer_flow : (setFramer s f).flow = s.flow := rfl
@[simp] theorem setFramer_tach : (setFramer s f).tach = s.tach := rfl
@[simp] theorem setFramer_comp : (setFramer s f).comp = s.comp := rfl
@[simp] theorem setFramer_present : (setFramer s f).present = s.present := rfl
@[simp] theorem setFramer_hist : (setFramer s f).hist = s.hist := rfl
@[simp] theorem setFramer_sit : (setFramer s f).sit = s.sit := rfl
@[simp] theorem setFramer_queue : (setFramer s f).queue = s.queue := rfl
@[simp] theorem setFramer_supply : (setFramer s f).supply = s.supply := rfl
@[simp] theorem setFramer_chan : (setFramer s f).chan = s.chan := rfl
@[simp] theorem setFramer_perm : (setFramer s f).perm = s.perm := rfl
@[simp] theorem setFramer_held : (setFramer s f).held = s.held := rfl
@[simp] theorem setFramer_line : (setFramer s f).line = s.line := rfl
@[simp] theorem setFramer_reservoir : (setFramer s f).reservoir = s.reservoir := rfl
@[simp] theorem setFramer_weak : (setFramer s f).weak = s.weak := rfl
@[simp] theorem setFramer_log : (setFramer s f).log = s.log := rfl
@[simp] theorem setFramer_latches : (setFramer s f).latches = s.latches := rfl
@[simp] theorem setFramer_master : (setFramer s f).master = s.master := rfl
@[simp] theorem setFramer_store : (setFramer s f).store = s.store := rfl
@[simp] theorem setFramer_link : (setFramer s f).link = { s.link with framer := f } := rfl
@[simp] theorem setFramer_due : (setFramer s f).due = s.due := rfl
@[simp] theorem setFramer_freeDrawn : (setFramer s f).freeDrawn = s.freeDrawn := rfl
@[simp] theorem setFramer_pending : (setFramer s f).pending = s.pending := rfl
end

section
variable (s : State) (f : Frame)
@[simp] theorem placeMessage_phase : (placeMessage s f).phase = s.phase := rfl
@[simp] theorem placeMessage_restartAt : (placeMessage s f).restartAt = s.restartAt := rfl
@[simp] theorem placeMessage_base : (placeMessage s f).base = s.base := rfl
@[simp] theorem placeMessage_clock : (placeMessage s f).clock = s.clock := rfl
@[simp] theorem placeMessage_out : (placeMessage s f).out = s.out := rfl
@[simp] theorem placeMessage_inp : (placeMessage s f).inp = s.inp := rfl
@[simp] theorem placeMessage_scan : (placeMessage s f).scan = s.scan := rfl
@[simp] theorem placeMessage_temps : (placeMessage s f).temps = s.temps := rfl
@[simp] theorem placeMessage_flow : (placeMessage s f).flow = s.flow := rfl
@[simp] theorem placeMessage_tach : (placeMessage s f).tach = s.tach := rfl
@[simp] theorem placeMessage_comp : (placeMessage s f).comp = s.comp := rfl
@[simp] theorem placeMessage_present : (placeMessage s f).present = s.present := rfl
@[simp] theorem placeMessage_hist : (placeMessage s f).hist = s.hist := rfl
@[simp] theorem placeMessage_sit : (placeMessage s f).sit = s.sit := rfl
@[simp] theorem placeMessage_queue : (placeMessage s f).queue = s.queue := rfl
@[simp] theorem placeMessage_supply : (placeMessage s f).supply = s.supply := rfl
@[simp] theorem placeMessage_chan : (placeMessage s f).chan = s.chan := rfl
@[simp] theorem placeMessage_perm : (placeMessage s f).perm = s.perm := rfl
@[simp] theorem placeMessage_held : (placeMessage s f).held = s.held := rfl
@[simp] theorem placeMessage_line : (placeMessage s f).line = s.line := rfl
@[simp] theorem placeMessage_reservoir : (placeMessage s f).reservoir = s.reservoir := rfl
@[simp] theorem placeMessage_weak : (placeMessage s f).weak = s.weak := rfl
@[simp] theorem placeMessage_log : (placeMessage s f).log = s.log := rfl
@[simp] theorem placeMessage_latches : (placeMessage s f).latches = s.latches := rfl
@[simp] theorem placeMessage_master : (placeMessage s f).master = s.master := rfl
@[simp] theorem placeMessage_store : (placeMessage s f).store = s.store := rfl
@[simp] theorem placeMessage_link : (placeMessage s f).link = { s.link with outbound := s.link.outbound ++ [f] } := rfl
@[simp] theorem placeMessage_due : (placeMessage s f).due = s.due := rfl
@[simp] theorem placeMessage_freeDrawn : (placeMessage s f).freeDrawn = s.freeDrawn := rfl
@[simp] theorem placeMessage_pending : (placeMessage s f).pending = s.pending := rfl
end

section
variable (s : State)
@[simp] theorem afterTaking_phase : (afterTaking s).phase = s.phase := rfl
@[simp] theorem afterTaking_restartAt : (afterTaking s).restartAt = s.restartAt := rfl
@[simp] theorem afterTaking_base : (afterTaking s).base = s.base := rfl
@[simp] theorem afterTaking_clock : (afterTaking s).clock = s.clock := rfl
@[simp] theorem afterTaking_out : (afterTaking s).out = s.out := rfl
@[simp] theorem afterTaking_inp : (afterTaking s).inp = s.inp := rfl
@[simp] theorem afterTaking_scan : (afterTaking s).scan = s.scan := rfl
@[simp] theorem afterTaking_temps : (afterTaking s).temps = s.temps := rfl
@[simp] theorem afterTaking_flow : (afterTaking s).flow = s.flow := rfl
@[simp] theorem afterTaking_tach : (afterTaking s).tach = s.tach := rfl
@[simp] theorem afterTaking_comp : (afterTaking s).comp = s.comp := rfl
@[simp] theorem afterTaking_present : (afterTaking s).present = s.present := rfl
@[simp] theorem afterTaking_hist : (afterTaking s).hist = s.hist := rfl
@[simp] theorem afterTaking_sit : (afterTaking s).sit = s.sit := rfl
@[simp] theorem afterTaking_queue : (afterTaking s).queue = s.queue := rfl
@[simp] theorem afterTaking_supply : (afterTaking s).supply = s.supply := rfl
@[simp] theorem afterTaking_chan : (afterTaking s).chan = s.chan := rfl
@[simp] theorem afterTaking_perm : (afterTaking s).perm = s.perm := rfl
@[simp] theorem afterTaking_held : (afterTaking s).held = s.held := rfl
@[simp] theorem afterTaking_line : (afterTaking s).line = s.line := rfl
@[simp] theorem afterTaking_reservoir : (afterTaking s).reservoir = s.reservoir := rfl
@[simp] theorem afterTaking_weak : (afterTaking s).weak = s.weak := rfl
@[simp] theorem afterTaking_log : (afterTaking s).log = s.log := rfl
@[simp] theorem afterTaking_latches : (afterTaking s).latches = s.latches := rfl
@[simp] theorem afterTaking_master : (afterTaking s).master = s.master := rfl
@[simp] theorem afterTaking_store : (afterTaking s).store = s.store := rfl
@[simp] theorem afterTaking_link : (afterTaking s).link = { s.link with inbound := s.link.inbound.drop 1 } := rfl
@[simp] theorem afterTaking_due : (afterTaking s).due = s.due := rfl
@[simp] theorem afterTaking_freeDrawn : (afterTaking s).freeDrawn = s.freeDrawn := rfl
@[simp] theorem afterTaking_pending : (afterTaking s).pending = s.pending := rfl
end

section
variable (s : State) (n : Nat)
@[simp] theorem atLeastMs_phase : (atLeastMs s n).phase = s.phase := rfl
@[simp] theorem atLeastMs_restartAt : (atLeastMs s n).restartAt = s.restartAt := rfl
@[simp] theorem atLeastMs_base : (atLeastMs s n).base = { s.base with ms := max s.base.ms n } := rfl
@[simp] theorem atLeastMs_clock : (atLeastMs s n).clock = s.clock := rfl
@[simp] theorem atLeastMs_out : (atLeastMs s n).out = s.out := rfl
@[simp] theorem atLeastMs_inp : (atLeastMs s n).inp = s.inp := rfl
@[simp] theorem atLeastMs_scan : (atLeastMs s n).scan = s.scan := rfl
@[simp] theorem atLeastMs_temps : (atLeastMs s n).temps = s.temps := rfl
@[simp] theorem atLeastMs_flow : (atLeastMs s n).flow = s.flow := rfl
@[simp] theorem atLeastMs_tach : (atLeastMs s n).tach = s.tach := rfl
@[simp] theorem atLeastMs_comp : (atLeastMs s n).comp = s.comp := rfl
@[simp] theorem atLeastMs_present : (atLeastMs s n).present = s.present := rfl
@[simp] theorem atLeastMs_hist : (atLeastMs s n).hist = s.hist := rfl
@[simp] theorem atLeastMs_sit : (atLeastMs s n).sit = s.sit := rfl
@[simp] theorem atLeastMs_queue : (atLeastMs s n).queue = s.queue := rfl
@[simp] theorem atLeastMs_supply : (atLeastMs s n).supply = s.supply := rfl
@[simp] theorem atLeastMs_chan : (atLeastMs s n).chan = s.chan := rfl
@[simp] theorem atLeastMs_perm : (atLeastMs s n).perm = s.perm := rfl
@[simp] theorem atLeastMs_held : (atLeastMs s n).held = s.held := rfl
@[simp] theorem atLeastMs_line : (atLeastMs s n).line = s.line := rfl
@[simp] theorem atLeastMs_reservoir : (atLeastMs s n).reservoir = s.reservoir := rfl
@[simp] theorem atLeastMs_weak : (atLeastMs s n).weak = s.weak := rfl
@[simp] theorem atLeastMs_log : (atLeastMs s n).log = s.log := rfl
@[simp] theorem atLeastMs_latches : (atLeastMs s n).latches = s.latches := rfl
@[simp] theorem atLeastMs_master : (atLeastMs s n).master = s.master := rfl
@[simp] theorem atLeastMs_store : (atLeastMs s n).store = s.store := rfl
@[simp] theorem atLeastMs_link : (atLeastMs s n).link = s.link := rfl
@[simp] theorem atLeastMs_due : (atLeastMs s n).due = s.due := rfl
@[simp] theorem atLeastMs_freeDrawn : (atLeastMs s n).freeDrawn = s.freeDrawn := rfl
@[simp] theorem atLeastMs_pending : (atLeastMs s n).pending = s.pending := rfl
end

section
variable (s : State) (r : Record)
@[simp] theorem writeRecord_phase : (writeRecord s r).phase = s.phase := rfl
@[simp] theorem writeRecord_restartAt : (writeRecord s r).restartAt = s.restartAt := rfl
@[simp] theorem writeRecord_base : (writeRecord s r).base = s.base := rfl
@[simp] theorem writeRecord_clock : (writeRecord s r).clock = s.clock := rfl
@[simp] theorem writeRecord_out : (writeRecord s r).out = s.out := rfl
@[simp] theorem writeRecord_inp : (writeRecord s r).inp = s.inp := rfl
@[simp] theorem writeRecord_scan : (writeRecord s r).scan = s.scan := rfl
@[simp] theorem writeRecord_temps : (writeRecord s r).temps = s.temps := rfl
@[simp] theorem writeRecord_flow : (writeRecord s r).flow = s.flow := rfl
@[simp] theorem writeRecord_tach : (writeRecord s r).tach = s.tach := rfl
@[simp] theorem writeRecord_comp : (writeRecord s r).comp = s.comp := rfl
@[simp] theorem writeRecord_present : (writeRecord s r).present = s.present := rfl
@[simp] theorem writeRecord_sit : (writeRecord s r).sit = s.sit := rfl
@[simp] theorem writeRecord_queue : (writeRecord s r).queue = s.queue := rfl
@[simp] theorem writeRecord_supply : (writeRecord s r).supply = s.supply := rfl
@[simp] theorem writeRecord_chan : (writeRecord s r).chan = s.chan := rfl
@[simp] theorem writeRecord_perm : (writeRecord s r).perm = s.perm := rfl
@[simp] theorem writeRecord_held : (writeRecord s r).held = s.held := rfl
@[simp] theorem writeRecord_line : (writeRecord s r).line = s.line := rfl
@[simp] theorem writeRecord_reservoir : (writeRecord s r).reservoir = s.reservoir := rfl
@[simp] theorem writeRecord_weak : (writeRecord s r).weak = s.weak := rfl
@[simp] theorem writeRecord_master : (writeRecord s r).master = s.master := rfl
@[simp] theorem writeRecord_store : (writeRecord s r).store = s.store := rfl
@[simp] theorem writeRecord_link : (writeRecord s r).link = s.link := rfl
@[simp] theorem writeRecord_due : (writeRecord s r).due = s.due := rfl
@[simp] theorem writeRecord_freeDrawn : (writeRecord s r).freeDrawn = s.freeDrawn := rfl
@[simp] theorem writeRecord_pending : (writeRecord s r).pending = s.pending := rfl
end

end Sys2Proof.Machine
end

