-- ==== Sys2Proof/Laws/Ops.lean ====
section
/-! SUPPORT. One lemma for each shared operation that says what it can do. A lemma named `<op>_frame` writes the
operation's result as an update of the state before it, so that it says of every field it does not name that the
field is unchanged; the others say what the named fields become. -/

namespace Sys2Proof.Machine

open Sys2Proof.Safety

/-! ### Settling -/

/-- With nothing due the settling stops, whatever is left of its bound. -/
theorem settleWith_of_settled (n : Nat) (s : State) (h : Settled s) : settleWith n s = s := by
  have hr : s.due.reserve = false := by rw [h]
  have ha : s.due.admission = false := by rw [h]
  cases n with
  | zero => rfl
  | succ n => simp [settleWith, hr, ha]

/-- A settled state stays as it is. -/
theorem settle_of_settled (s : State) (h : Settled s) : settle s = s := settleWith_of_settled 16 s h

/-- A reserve test that is due is made first (assumption 8). -/
theorem settleWith_reserve (n : Nat) (s : State) (h : s.due.reserve = true) :
    settleWith (n + 1) s = settleWith n (reserveTest { s with due := { s.due with reserve := false } }) := by
  simp [settleWith, h]

/-- An evaluation that is due is made when no reserve test is. -/
theorem settleWith_admission (n : Nat) (s : State) (hr : s.due.reserve = false) (h : s.due.admission = true) :
    settleWith (n + 1) s = settleWith n (evaluate { s with due := { s.due with admission := false } }) := by
  simp [settleWith, h, hr]

/-- The outcome of a command that left nothing due. -/
theorem settled_of_settled (s : State) (h : Settled s) : settled s = .next s := by
  simp [settled, settle_of_settled s h]

/-- An evaluation with no round queued or held admits nothing. -/
theorem evaluate_of_no_candidates (s : State) (h : NoCandidates s) : evaluate s = s := by
  obtain ⟨hq, hh⟩ := h
  simp [evaluate, evaluatePasses, hq, hh]

/-- While restarting no evaluation is made (R81). -/
theorem evaluate_of_restarting (s : State) (h : s.restartAt.isSome = true) : evaluate s = s := by
  simp [evaluate, restarting, h]

/-- The reserve test with both channels IDLE clears the breach and does nothing else (R127). -/
theorem reserveTest_of_idle (s : State) (h : ChannelsIdle s) :
    reserveTest s = { s with perm := { s.perm with breach := false } } := by
  obtain ⟨ha, hb⟩ := h
  simp [reserveTest, isIdle, ha, hb, Two.get, State.modPerm]

/-- The settling when an evaluation is all that may be due and it admits nothing. -/
theorem settleWith_of_idle_evaluation (n : Nat) (s : State) (hr : s.due.reserve = false)
    (he : evaluate { s with due := { reserve := false, admission := false } }
      = { s with due := { reserve := false, admission := false } }) :
    settleWith (n + 1) s = { s with due := { reserve := false, admission := false } } := by
  have e : ∀ r a : Bool, s.due = ⟨r, a⟩ →
      settleWith (n + 1) s = { s with due := { reserve := false, admission := false } } := by
    intro r a hd
    have hrf : r = false := by rw [hd] at hr; exact hr
    subst hrf
    cases a with
    | false => rw [settleWith_of_settled (n + 1) s hd, ← hd]
    | true =>
      rw [settleWith_admission n s hr (by rw [hd]), hd, he]
      exact settleWith_of_settled n _ rfl
  exact e s.due.reserve s.due.admission rfl

/-- The settling when an evaluation is all that may be due and it admits nothing. -/
theorem settle_of_idle_evaluation (s : State) (hr : s.due.reserve = false)
    (he : evaluate { s with due := { reserve := false, admission := false } }
      = { s with due := { reserve := false, admission := false } }) :
    settle s = { s with due := { reserve := false, admission := false } } :=
  settleWith_of_idle_evaluation 15 s hr he

/-- The settling of an evaluation that has no candidate. -/
theorem settle_of_no_candidates (s : State) (hr : s.due.reserve = false) (h : NoCandidates s) :
    settle s = { s with due := { reserve := false, admission := false } } :=
  settle_of_idle_evaluation s hr (evaluate_of_no_candidates _ h)

/-- The settling while restarting, when no reserve test is due. -/
theorem settle_of_restarting (s : State) (hr : s.due.reserve = false) (h : s.restartAt.isSome = true) :
    settle s = { s with due := { reserve := false, admission := false } } :=
  settle_of_idle_evaluation s hr (evaluate_of_restarting _ h)

/-- The settling with both channels IDLE and no candidate: a reserve test that was due clears the breach. -/
theorem settle_of_idle (s : State) (hi : ChannelsIdle s) (h : NoCandidates s) :
    settle s =
      { s with
        due := { reserve := false, admission := false }
        perm := if s.due.reserve then { s.perm with breach := false } else s.perm } := by
  by_cases hr : s.due.reserve = true
  · rw [if_pos hr]
    have e := reserveTest_of_idle { s with due := { s.due with reserve := false } } hi
    exact ((settleWith_reserve 15 s hr).trans (congrArg (settleWith 15) e)).trans
      (settleWith_of_idle_evaluation 14 _ rfl (evaluate_of_no_candidates _ h))
  · have hr' : s.due.reserve = false := by simpa using hr
    rw [settle_of_no_candidates s hr' h, if_neg hr]

/-! ### The timers of Site Permissions -/

/-- When a timer has reached a number of seconds: it runs, has been at a second, and stands there at least. -/
theorem timerAt_iff (t : Option Nat) (sec : Nat) : timerAt t sec = true ↔ ∃ v, t = some v ∧ 0 < v ∧ sec ≤ v := by
  cases t <;> simp [timerAt]

/-! ### Taking a frame -/

/-- A frame of a request's own, with a body length that fits, is served by the request's rule (R181). -/
theorem serve_taken (s : State) (mine : Frame → Bool) (fits : Nat → Bool) (act : State → Frame → State)
    (f : Frame) (rest : List Frame) (h : Taking s f rest) (hm : mine f = true)
    (hf : fits f.body.length = true) :
    serve s mine fits act = settled (act (afterTaking s) f) := by
  obtain ⟨h1, h2, h3, h4, -⟩ := h
  have hfree : 0 < freePlaces s := by simp [freePlaces, Config.outboundCap]; omega
  simp [serve, takable, h1, hfree, h4, hm, hf, restarting, h2]

/-- A frame of a request's own whose body length does not fit is answered BAD_FORM (R182). -/
theorem serve_malformed (s : State) (mine : Frame → Bool) (fits : Nat → Bool) (act : State → Frame → State)
    (f : Frame) (rest : List Frame) (h : Taking s f rest) (hm : mine f = true)
    (hf : fits f.body.length = false) :
    serve s mine fits act = .next (reply (afterTaking s) f .badForm []) := by
  obtain ⟨h1, h2, h3, h4, -⟩ := h
  have hfree : 0 < freePlaces s := by simp [freePlaces, Config.outboundCap]; omega
  simp [serve, takable, h1, hfree, h4, hm, hf, restarting, h2]

/-- While restarting a request's frame is answered BUSY (R190). -/
theorem serve_restarting (s : State) (mine : Frame → Bool) (fits : Nat → Bool) (act : State → Frame → State)
    (f : Frame) (rest : List Frame) (h1 : s.phase = .ready) (h2 : s.restartAt.isSome = true)
    (h3 : s.link.outbound.length < 8) (h4 : s.link.inbound = f :: rest) (hm : mine f = true) :
    serve s mine fits act = .next (reply (afterTaking s) f .busy []) := by
  have hfree : 0 < freePlaces s := by simp [freePlaces, Config.outboundCap]; omega
  simp [serve, takable, h1, hfree, h4, hm, restarting, h2]

/-- The state once the head frame is taken, with its link written out. -/
theorem afterTaking_eq (s : State) (f : Frame) (rest : List Frame) (h : s.link.inbound = f :: rest) :
    afterTaking s = { s with link := { s.link with inbound := rest } } := by
  simp [afterTaking, h]

/-- A reply to a request below KIND 0x80, placed after its frame was taken. -/
theorem reply_link (s : State) (f : Frame) (st : Status) (payload : List Byte) (hk : f.kind.toNat < 128) :
    reply s f st payload =
      { s with link := { s.link with outbound := (s.link.outbound ++
          [replyTo f (BitVec.ofNat 8 st.code) 0 payload]) } } := by
  have : ¬ 128 ≤ f.kind.toNat := by omega
  simp [reply, placeMessage, replyFrame, replyKind, replyTo, this, u8]

/-! ### Outputs and the on-bus flags -/

/-- A recomputation of an on-bus flag writes that flag alone, and makes tests due (R60). -/
theorem recomputeOnBus_frame (s : State) (p : Pos) :
    { s with sit := (recomputeOnBus s p).sit, due := (recomputeOnBus s p).due } = recomputeOnBus s p := by
  unfold recomputeOnBus; dsimp only; split <;> rfl

/-- The flag after its recomputation is the determination (R60). -/
theorem recomputeOnBus_sit (s : State) (p : Pos) :
    (recomputeOnBus s p).sit = s.sit.set p { s.sit.get p with onBus := onBusNow s p } := by
  unfold recomputeOnBus; dsimp only; split
  · rename_i h
    rw [h]
    exact (eight_set_get s.sit p).symm
  · rfl

/-- A recomputation that does not change the flag does nothing. -/
theorem recomputeOnBus_same (s : State) (p : Pos) (h : onBusNow s p = (s.sit.get p).onBus) :
    recomputeOnBus s p = s := by
  simp [recomputeOnBus, h]

/-- KF's command changes the output and what the on-bus recomputation changes (R1, R60). -/
theorem commandKf_frame (s : State) (p : Pos) (c : Contact) :
    { s with out := { s.out with kf := s.out.kf.set p c }, sit := (commandKf s p c).sit,
             due := (commandKf s p c).due } = commandKf s p c := by
  unfold commandKf recomputeOnBus; dsimp only; split <;> rfl

/-! ### The vent monitor, the fan, stage changes -/

/-- The vent monitor changes Site Permissions, and may make an evaluation due (R122, R123). -/
theorem ventMonitor_frame (s : State) :
    { s with perm := (ventMonitor s).perm, due := (ventMonitor s).due } = ventMonitor s := by
  unfold ventMonitor; dsimp only; split
  · split <;> rfl
  · rfl

/-- A vent that is OK stays OK at the monitor, which sets the low-speed timer alone (R122). -/
theorem ventMonitor_ok (s : State) (h : s.perm.ventFailed = false) :
    ventMonitor s =
      s.modPerm fun m => { m with
        lowSpeed := runWhile (m.fan && decide (m.speed < s.cfg.fanMinRpm)) m.lowSpeed } := by
  simp [ventMonitor, h, State.modPerm]

/-- The fan's recomputation changes Site Permissions, the fan output, and may make an evaluation due (R121). -/
theorem recomputeFan_frame (s : State) :
    { s with perm := (recomputeFan s).perm, out := (recomputeFan s).out, due := (recomputeFan s).due }
      = recomputeFan s := by
  unfold recomputeFan; dsimp only; split
  · rfl
  · rw [← ventMonitor_frame]

/-- A fan command that does not change is not written. -/
theorem recomputeFan_same (s : State) (h : fanWanted s = s.perm.fan) : recomputeFan s = s := by
  simp [recomputeFan, h]

/-- A stage-change delivery changes Site Permissions and the fan output, and may make tests due (R121, R126,
R127). -/
theorem stageDelivered_frame (s : State) (st : Stage) :
    { s with perm := (stageDelivered s st).perm, out := (stageDelivered s st).out,
             due := (stageDelivered s st).due } = stageDelivered s st := by
  unfold stageDelivered; dsimp only
  generalize hu : (s.modPerm _) = u
  have hf := recomputeFan_frame u
  split <;> (rw [← hf, ← hu]; rfl)

/-- A direct write of the demand changes the present record and the demand output (R47). -/
theorem writeDirect_frame (s : State) (c : Ch) :
    { s with present := (writeDirect s c).present, out := (writeDirect s c).out } = writeDirect s c := by
  unfold writeDirect; dsimp only
  split
  · rfl
  · split <;> try rfl
    all_goals (split <;> rfl)

/-- A recomputation's write likewise (R47). -/
theorem writeHysteresis_frame (s : State) (c : Ch) :
    { s with present := (writeHysteresis s c).present, out := (writeHysteresis s c).out }
      = writeHysteresis s c := by
  unfold writeHysteresis; dsimp only
  split
  · rfl
  · split
    · rfl
    · split <;> rfl

/-- A stage change (R91): the channels with the new stage and the stage timer at 0, the demand, Site Permissions and
the outputs they command, and what becomes due. -/
theorem setStage_frame (s : State) (c : Ch) (st : Stage) :
    { s with
      chan := (State.modCtx (s.modChan c fun ch => { ch with stage := st }) c fun x => { x with stageTimer := 0 }).chan
      present := (setStage s c st).present, out := (setStage s c st).out, perm := (setStage s c st).perm
      due := (setStage s c st).due } = setStage s c st := by
  unfold setStage; dsimp only
  rw [← stageDelivered_frame, ← writeDirect_frame]
  rfl

/-- A fan that is recomputed leaves every output but the fan's (R121). -/
theorem recomputeFan_outputs (s : State) : { (recomputeFan s).out with fan := s.out.fan } = s.out := by
  unfold recomputeFan; dsimp only; split
  · rfl
  · rw [← ventMonitor_frame]

/-- With the vent OK a recomputation of the fan makes nothing due. -/
theorem recomputeFan_due (s : State) (h : s.perm.ventFailed = false) : (recomputeFan s).due = s.due := by
  unfold recomputeFan; dsimp only; split
  · rfl
  · rw [ventMonitor_ok _ (by exact h)]; rfl

/-- A stage-change delivery leaves every output but the fan's. -/
theorem stageDelivered_outputs (s : State) (st : Stage) :
    { (stageDelivered s st).out with fan := s.out.fan } = s.out := by
  unfold stageDelivered; dsimp only
  split <;> exact recomputeFan_outputs (s.modPerm _)

/-- With the vent OK the delivery of a stage other than IDLE makes nothing due. -/
theorem stageDelivered_due (s : State) (st : Stage) (h : s.perm.ventFailed = false) (hst : st ≠ .idle) :
    (stageDelivered s st).due = s.due := by
  unfold stageDelivered; dsimp only
  rw [if_neg hst]; exact recomputeFan_due (s.modPerm _) h

/-- A direct write leaves every output but its channel's demand (R47). -/
theorem writeDirect_outputs (s : State) (c : Ch) :
    { s.out with charger := (writeDirect s c).out.charger } = (writeDirect s c).out := by
  unfold writeDirect; dsimp only
  split
  · rfl
  · split <;> try rfl
    all_goals (split <;> rfl)

/-- The channels after a stage change: the stage is new and the stage timer 0 (R91). -/
theorem setStage_chan (s : State) (c : Ch) (st : Stage) :
    (setStage s c st).chan =
      s.chan.set c
        { s.chan.get c with stage := st, ctx := (s.chan.get c).ctx.map fun x => { x with stageTimer := 0 } } := by
  rw [← setStage_frame]
  show (State.modCtx _ _ _).chan = _
  unfold State.modCtx State.modChan
  cases c <;> rfl

/-- A stage change leaves every output but a charger's demand and the fan. -/
theorem setStage_outputs (s : State) (c : Ch) (st : Stage) :
    { s.out with charger := (setStage s c st).out.charger, fan := (setStage s c st).out.fan }
      = (setStage s c st).out := by
  unfold setStage; dsimp only
  generalize hu : (State.modCtx _ c _) = u
  have ho : s.out = u.out := by rw [← hu]; rfl
  have h1 := stageDelivered_outputs (writeDirect u c) st
  have h2 := writeDirect_outputs u c
  rw [ho]
  generalize stageDelivered (writeDirect u c) st = v at h1 ⊢
  rw [← h2] at h1
  generalize v.out = o at h1 ⊢
  cases o
  simp only [Outputs.mk.injEq] at h1 ⊢
  obtain ⟨a1, a2, a3, -, a5, a6, a7, a8, -⟩ := h1
  exact ⟨a1.symm, a2.symm, a3.symm, trivial, a5.symm, a6.symm, a7.symm, a8.symm, trivial⟩

/-- The demand on entering TRANSFER_OUT is the measured-voltage code, on entering TRANSFER_BACK 0 (R45). -/
theorem setStage_charger (s : State) (c : Ch) (st : Stage) (x : Context) (h : (s.chan.get c).ctx = some x)
    (hst : st = .transferOut ∨ st = .transferBack) :
    (setStage s c st).out.charger =
      s.out.charger.set c { s.out.charger.get c with
        demand := if st = .transferOut then measuredCode s x.string else 0 } := by
  unfold setStage; dsimp only
  generalize hu : (State.modCtx _ c _) = u
  have hc : u.chan.get c = { s.chan.get c with stage := st, ctx := some { x with stageTimer := 0 } } := by
    rw [← hu]; simp [State.modCtx, State.modChan, h]
  have ho : u.out = s.out := by rw [← hu]; rfl
  have hs : u.scan = s.scan := by rw [← hu]; rfl
  have h1 := congrArg Outputs.charger (stageDelivered_outputs (writeDirect u c) st)
  dsimp only at h1
  rw [h1]
  unfold writeDirect; dsimp only
  rw [hc]
  rcases hst with rfl | rfl
  · simp [writeDemand, ho, measuredCode, hs]
  · simp [writeDemand, ho]

/-- With the vent OK a change to a stage other than IDLE makes nothing due. -/
theorem setStage_due (s : State) (c : Ch) (st : Stage) (h : s.perm.ventFailed = false) (hst : st ≠ .idle) :
    (setStage s c st).due = s.due := by
  unfold setStage; dsimp only
  generalize hu : (State.modCtx _ c _) = u
  have hp : u.perm = s.perm := by rw [← hu]; rfl
  have hd : u.due = s.due := by rw [← hu]; rfl
  have hw := writeDirect_frame u c
  rw [stageDelivered_due _ _ (by rw [← hw]; exact hp ▸ h) hst, ← hw]
  exact hd

/-- Step 2 of the return with KE commanded CLOSED and not seen open: KE is commanded OPEN and the step waits (R114,
R95). -/
theorem backStep2_waits (s : State) (c : Ch) (x : Context) (h : (s.chan.get c).ctx = some x)
    (hke : s.out.ke.get x.string = .closed) (hp : presents s (.ke x.string) ≠ .inactive) :
    backStep2 s c = startWait (commandKe s x.string .opened) c .ke := by
  have hs : heldString s c = some x.string := by simp [heldString, h]
  unfold backStep2; rw [hs]; dsimp only
  rw [if_pos hke]
  exact if_neg hp

/-- Step 2 of the transfer out with KS not seen at the channel's bus: KS is commanded there and the step waits (R94,
R95). -/
theorem outStep2_waits (s : State) (c : Ch) (x : Context) (h : (s.chan.get c).ctx = some x)
    (hp : busShown (presents s (.ks x.string)) ≠ some c) :
    outStep2 s c = startWait (commandKs s x.string c) c .ks := by
  have hs : heldString s c = some x.string := by simp [heldString, h]
  unfold outStep2; rw [hs]; dsimp only
  exact if_neg hp

/-! ### The String Table and the account -/

/-- A SENSE fault's recomputation changes the position's situation and may latch SENSE_FAULT (R59). -/
theorem recomputeSense_frame (s : State) (p : Pos) :
    { s with sit := (recomputeSense s p).sit, latches := (recomputeSense s p).latches } = recomputeSense s p := by
  unfold recomputeSense; split
  · dsimp only; split <;> rfl
  · rfl

/-- The two parts of a fitted position's SENSE fault after their recomputation (R59). -/
theorem recomputeSense_sit (s : State) (p : Pos) :
    (recomputeSense s p).sit =
      if fitted s p then
        s.sit.set p { s.sit.get p with senseCell := senseCellNow s p, sensePilot := sensePilotNow s p }
      else s.sit := by
  unfold recomputeSense; split
  · dsimp only; split <;> rfl
  · rfl

/-- The low test changes its own mark and may latch RESERVOIR_LOW (R154). -/
theorem reservoirTest_frame (s : State) :
    { s with reservoir := { s.reservoir with low := accountLow s }, latches := (reservoirTest s).latches }
      = reservoirTest s := by
  unfold reservoirTest; dsimp only; split <;> rfl

/-- A DUE evaluation of a string that is not due clears DUE alone (R57). -/
theorem dueEvaluate_of_not_due (s : State) (p : Pos) (h : isDue s p = false) :
    dueEvaluate s p = s.modSit p fun t => { t with due := false } := by
  simp [dueEvaluate, h]

/-- A string that is due with DUE already set: nothing more happens (R57). -/
theorem dueEvaluate_of_due (s : State) (p : Pos) (hf : fitted s p = true) (h : isDue s p = true)
    (hd : (s.sit.get p).due = true) : dueEvaluate s p = s := by
  simp [dueEvaluate, hf, h, hd]

/-- A sample that is not negative leaves the throughput alone (R56). -/
theorem throughputAdd_of_nonneg (s : State) (p : Pos) (v : Int) (h : 0 ≤ v) : throughputAdd s p v = s := by
  have : ¬v < 0 := by omega
  simp [throughputAdd, this]

/-- An offer of a weak cell changes the list and the latches (R167). -/
theorem weakOffer_frame (s : State) (p : Pos) (cell deficit : Nat) :
    { s with weak := (weakOffer s p cell deficit).1.weak, latches := (weakOffer s p cell deficit).1.latches }
      = (weakOffer s p cell deficit).1 := by
  unfold weakOffer; split
  · rfl
  · split <;> rfl

/-! ### Records and the queue -/

/-- Writing a record (R161). -/
theorem writeRecord_frame (s : State) (r : Record) :
    { s with log := (writeRecord s r).log, hist := (writeRecord s r).hist, latches := (writeRecord s r).latches }
      = writeRecord s r := rfl

/-- The log after a record: the oldest displaced from a full ring, the record last with the seq next_seq (R161). -/
theorem writeRecord_log (s : State) (r : Record) :
    (writeRecord s r).log =
      { s.log with
        ring := s.log.ring.drop (s.log.ring.length + 1 - 64) ++ [{ r with seq := s.log.nextSeq }]
        nextSeq := (s.log.nextSeq + 1) % 65536 } := rfl

/-- The histories after a record: the string's marker is gone (R161). -/
theorem writeRecord_hist (s : State) (r : Record) :
    (writeRecord s r).hist = s.hist.set r.string { s.hist.get r.string with roundOpen := none } := rfl

/-- An offer changes the queue, and makes an evaluation due when it is taken (R75). -/
theorem offer_frame (s : State) (p : Pos) (k : Kind) (o : Origin) (tag : Byte) :
    { s with queue := (offer s p k o tag).1.queue, due := (offer s p k o tag).1.due }
      = (offer s p k o tag).1 := by
  unfold offer; split
  · rfl
  · split
    · rfl
    · split <;> rfl

/-- A condition event on a clear latch sets it with its detail and a pending notice (R171). -/
theorem event_of_clear (s : State) (c : Condition) (n v : Nat) (l : Option Level) (h : s.latches.get c = none) :
    s.event c n v l =
      { s with latches := s.latches.set c (some
          { string := n, value := v, captured := l, time := s.stamp, again := 0, pending := true }) } := by
  simp [State.event, h]

/-- A condition event on a set latch counts again (R171). -/
theorem event_of_set (s : State) (c : Condition) (n v : Nat) (l : Option Level) (d : LatchDetail)
    (h : s.latches.get c = some d) :
    s.event c n v l =
      { s with latches := s.latches.set c (some { d with again := min 255 (d.again + 1) }) } := by
  simp [State.event, h, satAdd]

/-! ### The line -/

/-- The end of a watering changes the line record and the outputs (R137). -/
theorem closeLine_frame (s : State) (o : Outcome) :
    { s with line := { s.line with stage := .closing, timer := 0, outcome := some o }, out := (closeLine s o).out }
      = closeLine s o := by
  unfold closeLine; dsimp only; split <;> rfl

/-- The pump is OFF and the string's valve CLOSED after it (R137). -/
theorem closeLine_out (s : State) (o : Outcome) (p : Pos) (h : s.line.string = some p) :
    (closeLine s o).out = { s.out with pump := false, valve := s.out.valve.set p .closed } := by
  simp [closeLine, h, State.modLine, setPump, setValve]

/-- The taking of a watering changes the line, the outputs and, when RES_LOW is active, the latches (R138). -/
theorem lineTake_frame (s : State) (o : Owner) (p : Pos) (i : Option RoundIdentity) (d : Option ManualDose) :
    { s with line := (lineTake s o p i d).line, out := (lineTake s o p i d).out,
             latches := (lineTake s o p i d).latches } = lineTake s o p i d := by
  unfold lineTake; dsimp only; split
  · unfold endReservoirEmpty; dsimp only; rw [← closeLine_frame]; rfl
  · rfl

/-- With RES_LOW not active the taking enters PRIMING with the valve open (R138). -/
theorem lineTake_priming (s : State) (o : Owner) (p : Pos) (i : Option RoundIdentity) (d : Option ManualDose)
    (h : presents s .resLow ≠ .active) :
    lineTake s o p i d =
      { s with
        line :=
          { s.line with
            stage := .priming, owner := some o, string := some p, identity := i, dose := d, ml := 0, pulses := 0,
            doses := 0, doseMl := 0, outcome := none, timer := 0, flowRef := none }
        out := { s.out with valve := s.out.valve.set p .opened } } := by
  have h' : ¬ (s.inp.resLow.presented = .active) := h
  simp [lineTake, presents, Inputs.get, h', State.modLine, setValve]

/-- The line's taking of a call: the call's own mark besides what a taking changes (R138, R148). -/
theorem lineTakeCall_frame (s : State) (c : Ch) :
    { s with
      chan := (lineTakeCall s c).chan, line := (lineTakeCall s c).line, out := (lineTakeCall s c).out
      latches := (lineTakeCall s c).latches } = lineTakeCall s c := by
  unfold lineTakeCall; split
  · rfl
  · dsimp only; rw [← lineTake_frame]; rfl

/-- With nobody waiting the line becomes FREE and an evaluation is due (R147). -/
theorem lineNext_free (s : State) (h : s.line.waiting = []) :
    lineNext s =
      { s with
        line :=
          { s.line with
            stage := .free, owner := none, string := none, identity := none, dose := none, claimEnded := false,
            timer := 0 }
        due := { s.due with admission := true } } := by
  simp [lineNext, State.modLine, State.wantAdmission, h]

/-- The stop of a line that dispenses nothing does nothing (R146). -/
theorem lineStop_of_idle (s : State) (h : s.line.stage.dispensing = false) : lineStop s = s := by
  simp [lineStop, h]

/-! ### Sample instants -/

/-- The inputs with the samples of an instant appended, input by input, from an order number on. -/
def samplesOf (levels : BitVec 35) : List InputId → Inputs → Inputs
  | [], i => i
  | j :: l, i => samplesOf levels l (i.set j ((i.get j).sample (broughtLevel levels j)).1)

/-- A list of inputs stands in the order of R8 from an order number on. -/
def inOrder : Nat → List InputId → Bool
  | _, [] => true
  | n, j :: l => decide (inputIndex j = n) && inOrder (n + 1) l

/-- The inputs of R8 stand in its order. -/
theorem inOrder_all : inOrder 0 InputId.all = true := by decide

/-- Both parts of a list in order stand in order, the second from where the first ends. -/
theorem inOrder_append : ∀ (l m : List InputId) (n : Nat), inOrder n (l ++ m) = true →
    inOrder n l = true ∧ inOrder (n + l.length) m = true
  | [], m, n, h => ⟨rfl, by simpa using h⟩
  | j :: l, m, n, h => by
    simp only [List.cons_append, inOrder, Bool.and_eq_true] at h
    obtain ⟨h1, h2⟩ := inOrder_append l m (n + 1) h.2
    exact ⟨by simp only [inOrder, Bool.and_eq_true]; exact ⟨h.1, h1⟩, by
      rw [List.length_cons]; rwa [show n + (l.length + 1) = n + 1 + l.length by omega]⟩

/-- An input before the order number is not in the list. -/
theorem not_mem_of_inOrder : ∀ (l : List InputId) (n : Nat) (j : InputId), inOrder n l = true → inputIndex j < n →
    j ∉ l
  | [], _, _, _, _ => by simp
  | i :: l, n, j, h, hj => by
    simp only [inOrder, Bool.and_eq_true, decide_eq_true_eq] at h
    simp only [List.mem_cons, not_or]
    exact ⟨fun e => by subst e; omega, not_mem_of_inOrder l (n + 1) j h.2 (by omega)⟩

/-- An input of the list stands before its end. -/
theorem index_lt : ∀ (l : List InputId) (n : Nat) (j : InputId), inOrder n l = true → j ∈ l →
    inputIndex j < n + l.length
  | i :: l, n, j, h, hj => by
    simp only [inOrder, Bool.and_eq_true, decide_eq_true_eq] at h
    rw [List.length_cons]
    rcases List.mem_cons.mp hj with rfl | hj
    · omega
    · have := index_lt l (n + 1) j h.2 hj; omega

/-- Each input of the list has its sample, and every other is as it was. -/
theorem samplesOf_get : ∀ (levels : BitVec 35) (l : List InputId) (n : Nat) (i : Inputs) (j : InputId),
    inOrder n l = true →
    (samplesOf levels l i).get j =
      if j ∈ l then ((i.get j).sample (broughtLevel levels j)).1 else i.get j
  | _, [], _, _, _, _ => by simp [samplesOf]
  | levels, m :: l, n, i, j, h => by
    simp only [inOrder, Bool.and_eq_true, decide_eq_true_eq] at h
    rw [samplesOf, samplesOf_get levels l (n + 1) _ j h.2]
    by_cases e : j = m
    · subst e
      have := not_mem_of_inOrder l (n + 1) j h.2 (by omega)
      simp [this]
    · simp [e]

/-- The samples of a list are those of its parts, one after the other. -/
theorem sampleInputs_append : ∀ (levels : BitVec 35) (l m : List InputId) (n : Nat) (s : State),
    sampleInputs levels n (l ++ m) s = sampleInputs levels (n + l.length) m (sampleInputs levels n l s)
  | _, [], _, _, _ => by simp [sampleInputs]
  | levels, j :: l, m, n, s => by
    rw [List.cons_append, sampleInputs, sampleInputs, sampleInputs_append levels l m (n + 1)]
    rw [List.length_cons, show n + (l.length + 1) = n + 1 + l.length by omega]

/-- Samples that accept nothing change the inputs alone. -/
theorem sampleInputs_of_none : ∀ (levels : BitVec 35) (l : List InputId) (n : Nat) (s : State),
    inOrder n l = true → (∀ j ∈ l, ((s.inp.get j).sample (broughtLevel levels j)).2 = none) →
    sampleInputs levels n l s = { s with inp := samplesOf levels l s.inp }
  | _, [], _, _, _, _ => rfl
  | levels, j :: l, n, s, h, hn => by
    simp only [inOrder, Bool.and_eq_true, decide_eq_true_eq] at h
    have hl : levelAt levels n = broughtLevel levels j := by rw [← h.1]; rfl
    have h1 : sampleInput s j (levelAt levels n) =
        { s with inp := s.inp.set j ((s.inp.get j).sample (broughtLevel levels j)).1 } := by
      unfold sampleInput; rw [hl]; simp only [hn j (by simp)]
    rw [sampleInputs, h1, sampleInputs_of_none levels l (n + 1) _ h.2]
    · rfl
    · intro i hi
      have : i ≠ j := fun e => not_mem_of_inOrder l (n + 1) i h.2 (by subst e; omega) hi
      simp only [inputs_get_set, if_neg this]
      exact hn i (by simp [hi])

/-- A sample instant at which one input alone is accepted: the delivery acts on a state whose inputs present what
they presented, but for the accepted one, and what it leaves stands with every input's sample. -/
theorem execSampleInstant_of_onlyAccepts (s : State) (levels : BitVec 35) (i : InputId) (k : DeliveryKind)
    (v : Presented) (hp : s.phase ≠ .held) (h : OnlyAccepts s levels i k v) :
    ∃ inp : Inputs, inp.get i = ((s.inp.get i).sample (broughtLevel levels i)).1
      ∧ (∀ j : InputId, (inp.get j).presented = if j = i then v else (s.inp.get j).presented)
      ∧ ∀ t : State, settle (deliver { sampleTick s with inp := inp } i k) = t → t.inp = inp →
          ∃ inp' : Inputs, exec (.sampleInstant levels) s = .next { t with inp := inp' }
            ∧ (∀ j : InputId, inp'.get j = ((s.inp.get j).sample (broughtLevel levels j)).1) := by
  obtain ⟨hk, hv, hq⟩ := h
  have quiet : ∀ (f : Filter) (l : Level), (f.sample l).2 = none → (f.sample l).1.presented = f.presented := by
    intro f l hf
    simp only [Filter.sample] at hf ⊢
    cases hv : agreed (appendSample f.history l) with
    | none => rfl
    | some w =>
      simp only [hv] at hf ⊢
      by_cases e : f.accepted = some w
      · simp [e]
      · simp [e] at hf
  obtain ⟨l, m, hlm⟩ := List.append_of_mem (show i ∈ InputId.all by cases i <;> first | decide | (rename_i p; cases p <;> decide))
  have ho := inOrder_append l (i :: m) 0 (hlm ▸ inOrder_all)
  have hi := ho.2
  simp only [inOrder, Bool.and_eq_true, decide_eq_true_eq] at hi
  have hil : i ∉ l := fun hm => by have := index_lt l 0 i ho.1 hm; omega
  have him : i ∉ m := not_mem_of_inOrder m _ i hi.2 (by omega)
  let s0 := sampleTick s
  let inpA := samplesOf levels l s.inp
  have hA : ∀ j, inpA.get j = if j ∈ l then ((s.inp.get j).sample (broughtLevel levels j)).1 else s.inp.get j :=
    fun j => samplesOf_get levels l 0 s.inp j ho.1
  let inpB := inpA.set i ((s.inp.get i).sample (broughtLevel levels i)).1
  have hB : ∀ j, inpB.get j = if j = i then ((s.inp.get i).sample (broughtLevel levels i)).1 else inpA.get j :=
    fun j => inputs_get_set _ _ _ _
  refine ⟨inpB, by rw [hB, if_pos rfl], fun j => ?_, fun t ht hti => ?_⟩
  · rw [hB]
    split
    · exact hv
    · rename_i e
      rw [hA]; split
      · exact quiet _ _ (hq j e)
      · rfl
  · refine ⟨samplesOf levels m inpB, ?_, fun j => ?_⟩
    · have hr : running s = true := by simp [running, hp]
      show execSampleInstant levels s = _
      unfold execSampleInstant
      rw [if_pos hr, hlm, sampleInputs_append, sampleInputs]
      have h1 : sampleInputs levels 0 l (sampleTick s) = { s0 with inp := inpA } :=
        sampleInputs_of_none levels l 0 s0 ho.1 (fun j hj => hq j (fun e => hil (e ▸ hj)))
      rw [h1]
      have hl : levelAt levels (0 + l.length) = broughtLevel levels i := by rw [← hi.1]; rfl
      have h2 : sampleInput { s0 with inp := inpA } i (levelAt levels (0 + l.length)) = t := by
        unfold sampleInput; rw [hl]
        have : ({ s0 with inp := inpA } : State).inp.get i = s.inp.get i := by
          show inpA.get i = _; rw [hA, if_neg hil]
        simp only [this, hk]
        exact ht
      rw [h2, sampleInputs_of_none levels m _ t hi.2]
      · rw [hti]
      · intro j hj
        have e : j ≠ i := fun e => him (e ▸ hj)
        have hjl : j ∉ l := by
          intro hm; exact not_mem_of_inOrder m _ j hi.2 (by have := index_lt l 0 j ho.1 hm; omega) hj
        rw [hti, hB, if_neg e, hA, if_neg hjl]
        exact hq j e
    · rw [samplesOf_get levels m _ _ j hi.2, hB, hA]
      by_cases e : j = i
      · subst e; simp [him]
      · by_cases hjm : j ∈ m
        · have hjl : j ∉ l := by
            intro hm; exact not_mem_of_inOrder m _ j hi.2 (by have := index_lt l 0 j ho.1 hm; omega) hjm
          simp [e, hjm, hjl]
        · have hj : j ∈ InputId.all := by cases j <;> first | decide | (rename_i p; cases p <;> decide)
          rw [hlm] at hj
          have : j ∈ l := by simpa [e, hjm] using hj
          simp [e, hjm, this]
/-- A served call's result is the only field of a dropped call's context that follows the line (R159). -/
theorem withServed_frame (s : State) (c : Ch) (x : Context) :
    { withServed s c x with water := x.water } = x := by
  unfold withServed
  split
  · split <;> rfl
  · rfl

end Sys2Proof.Machine
end

