-- ==== Sys2Proof/WellFormed.lean ====
section
/-! DEFINITION. Which commands can arise at the part's terminals at all: a scan completion brings one
measurement for each of the 24 cells of a string (R18, R20). Every other operand is bounded by its type
or, where the manual bounds it, by the part itself (a current clamps at 200.0 A, R23; a count stops at
1,048,575, R25). -/

namespace Sys2Proof

/-- Cells of a string (1.1 of the overview). -/
def cellsPerString : Nat := 24

/-- A command whose operands have the shape the part's inputs give them. -/
def Instr.wellFormed : Instr → Bool
  | .scanCompletion cells => cells.length == cellsPerString
  | .powerOn | .resetN | .resetRelease | .ready | .sampleInstant _ | .slotStart | .currentSample _
  | .conversionCompletion _ _ | .flowPulse | .flowRest | .tachEdge _ | .tachTimeout | .hourRollover _
  | .grantCountdown | .minuteEvaluation | .transferOutTimeout _ | .transferBackTimeout _ | .rampStep _
  | .holdMinute _ | .settleEnd _ | .giveUp _ | .ageMinute _ | .runOnExpiry | .lowSpeedExpiry
  | .recoveryExpiry | .purgeEnd | .graceExpiry | .primingEnd | .primeTimeout | .flowStop | .pauseEnd
  | .closingEnd | .manualDoseEnd | .notice | .logRecord | .logEnd | .messageSent | .frameReceived _
  | .unknownKind | .identify | .readStatus | .setClock | .readString | .readCells | .readTemperatures
  | .readTemperatureDetail | .readPlant | .setSetting | .storeWriteEnd | .readSetting | .submitRound
  | .cancelRound | .readQueue | .readHeld | .readHeldDetail | .supplyGrant | .claimLine | .releaseLine
  | .manualDose | .refill | .readWeak | .clearWeak | .releaseLock | .setNoticeMaster | .readConditions
  | .clearConditions | .readLog | .stopLog | .restart | .finalStep | .receivedByte _ => true

end Sys2Proof
end

