-- ==== Sys2Proof/Laws/PerInstr.lean ====
section
/-! SUPPORT. The family of statements made command by command: which operands a command can carry. -/

namespace Sys2Proof.Laws.WellFormedness

open Sys2Proof

/-- A command is well formed when the part's inputs can bring its operands: a scan completion brings one measurement
for each of a string's 24 cells (R18, R20); every other command is well formed with any operand. -/
def Statement (i : Instr) : Prop :=
  i.wellFormed = true ↔ ∀ cells : List Nat, i = .scanCompletion cells → cells.length = 24

theorem powerOn : Statement .powerOn := ⟨nofun, fun _ => rfl⟩
theorem resetN : Statement .resetN := ⟨nofun, fun _ => rfl⟩
theorem resetRelease : Statement .resetRelease := ⟨nofun, fun _ => rfl⟩
theorem ready : Statement .ready := ⟨nofun, fun _ => rfl⟩
theorem sampleInstant (levels : BitVec 35) : Statement (.sampleInstant levels) := ⟨nofun, fun _ => rfl⟩
theorem slotStart : Statement .slotStart := ⟨nofun, fun _ => rfl⟩
theorem scanCompletion (cells : List Nat) : Statement (.scanCompletion cells) := by
  simp [Statement, Instr.wellFormed, cellsPerString]

theorem currentSample (amps : Eight Int) : Statement (.currentSample amps) := ⟨nofun, fun _ => rfl⟩
theorem conversionCompletion (gateTh : Nat) (gateRef : Nat) : Statement (.conversionCompletion gateTh gateRef) := ⟨nofun, fun _ => rfl⟩
theorem flowPulse : Statement .flowPulse := ⟨nofun, fun _ => rfl⟩
theorem flowRest : Statement .flowRest := ⟨nofun, fun _ => rfl⟩
theorem tachEdge (atMicros : Nat) : Statement (.tachEdge atMicros) := ⟨nofun, fun _ => rfl⟩
theorem tachTimeout : Statement .tachTimeout := ⟨nofun, fun _ => rfl⟩
theorem hourRollover (p : Pos) : Statement (.hourRollover p) := ⟨nofun, fun _ => rfl⟩
theorem grantCountdown : Statement .grantCountdown := ⟨nofun, fun _ => rfl⟩
theorem minuteEvaluation : Statement .minuteEvaluation := ⟨nofun, fun _ => rfl⟩
theorem transferOutTimeout (c : Ch) : Statement (.transferOutTimeout c) := ⟨nofun, fun _ => rfl⟩
theorem transferBackTimeout (c : Ch) : Statement (.transferBackTimeout c) := ⟨nofun, fun _ => rfl⟩
theorem rampStep (c : Ch) : Statement (.rampStep c) := ⟨nofun, fun _ => rfl⟩
theorem holdMinute (c : Ch) : Statement (.holdMinute c) := ⟨nofun, fun _ => rfl⟩
theorem settleEnd (c : Ch) : Statement (.settleEnd c) := ⟨nofun, fun _ => rfl⟩
theorem giveUp (c : Ch) : Statement (.giveUp c) := ⟨nofun, fun _ => rfl⟩
theorem ageMinute (p : Pos) : Statement (.ageMinute p) := ⟨nofun, fun _ => rfl⟩
theorem runOnExpiry : Statement .runOnExpiry := ⟨nofun, fun _ => rfl⟩
theorem lowSpeedExpiry : Statement .lowSpeedExpiry := ⟨nofun, fun _ => rfl⟩
theorem recoveryExpiry : Statement .recoveryExpiry := ⟨nofun, fun _ => rfl⟩
theorem purgeEnd : Statement .purgeEnd := ⟨nofun, fun _ => rfl⟩
theorem graceExpiry : Statement .graceExpiry := ⟨nofun, fun _ => rfl⟩
theorem primingEnd : Statement .primingEnd := ⟨nofun, fun _ => rfl⟩
theorem primeTimeout : Statement .primeTimeout := ⟨nofun, fun _ => rfl⟩
theorem flowStop : Statement .flowStop := ⟨nofun, fun _ => rfl⟩
theorem pauseEnd : Statement .pauseEnd := ⟨nofun, fun _ => rfl⟩
theorem closingEnd : Statement .closingEnd := ⟨nofun, fun _ => rfl⟩
theorem manualDoseEnd : Statement .manualDoseEnd := ⟨nofun, fun _ => rfl⟩
theorem notice : Statement .notice := ⟨nofun, fun _ => rfl⟩
theorem logRecord : Statement .logRecord := ⟨nofun, fun _ => rfl⟩
theorem logEnd : Statement .logEnd := ⟨nofun, fun _ => rfl⟩
theorem messageSent : Statement .messageSent := ⟨nofun, fun _ => rfl⟩
theorem frameReceived (byte : Byte) : Statement (.frameReceived byte) := ⟨nofun, fun _ => rfl⟩
theorem unknownKind : Statement .unknownKind := ⟨nofun, fun _ => rfl⟩
theorem identify : Statement .identify := ⟨nofun, fun _ => rfl⟩
theorem readStatus : Statement .readStatus := ⟨nofun, fun _ => rfl⟩
theorem setClock : Statement .setClock := ⟨nofun, fun _ => rfl⟩
theorem readString : Statement .readString := ⟨nofun, fun _ => rfl⟩
theorem readCells : Statement .readCells := ⟨nofun, fun _ => rfl⟩
theorem readTemperatures : Statement .readTemperatures := ⟨nofun, fun _ => rfl⟩
theorem readTemperatureDetail : Statement .readTemperatureDetail := ⟨nofun, fun _ => rfl⟩
theorem readPlant : Statement .readPlant := ⟨nofun, fun _ => rfl⟩
theorem setSetting : Statement .setSetting := ⟨nofun, fun _ => rfl⟩
theorem storeWriteEnd : Statement .storeWriteEnd := ⟨nofun, fun _ => rfl⟩
theorem readSetting : Statement .readSetting := ⟨nofun, fun _ => rfl⟩
theorem submitRound : Statement .submitRound := ⟨nofun, fun _ => rfl⟩
theorem cancelRound : Statement .cancelRound := ⟨nofun, fun _ => rfl⟩
theorem readQueue : Statement .readQueue := ⟨nofun, fun _ => rfl⟩
theorem readHeld : Statement .readHeld := ⟨nofun, fun _ => rfl⟩
theorem readHeldDetail : Statement .readHeldDetail := ⟨nofun, fun _ => rfl⟩
theorem supplyGrant : Statement .supplyGrant := ⟨nofun, fun _ => rfl⟩
theorem claimLine : Statement .claimLine := ⟨nofun, fun _ => rfl⟩
theorem releaseLine : Statement .releaseLine := ⟨nofun, fun _ => rfl⟩
theorem manualDose : Statement .manualDose := ⟨nofun, fun _ => rfl⟩
theorem refill : Statement .refill := ⟨nofun, fun _ => rfl⟩
theorem readWeak : Statement .readWeak := ⟨nofun, fun _ => rfl⟩
theorem clearWeak : Statement .clearWeak := ⟨nofun, fun _ => rfl⟩
theorem releaseLock : Statement .releaseLock := ⟨nofun, fun _ => rfl⟩
theorem setNoticeMaster : Statement .setNoticeMaster := ⟨nofun, fun _ => rfl⟩
theorem readConditions : Statement .readConditions := ⟨nofun, fun _ => rfl⟩
theorem clearConditions : Statement .clearConditions := ⟨nofun, fun _ => rfl⟩
theorem readLog : Statement .readLog := ⟨nofun, fun _ => rfl⟩
theorem stopLog : Statement .stopLog := ⟨nofun, fun _ => rfl⟩
theorem restart : Statement .restart := ⟨nofun, fun _ => rfl⟩
theorem finalStep : Statement .finalStep := ⟨nofun, fun _ => rfl⟩
theorem receivedByte (byte : Byte) : Statement (.receivedByte byte) := ⟨nofun, fun _ => rfl⟩

end Sys2Proof.Laws.WellFormedness
end

