-- ==== Sys2Proof/Tests/Slice0.lean ====
section
/-! SUPPORT. Tests on fixed values, each with its source in the manual; and for each statement with hypotheses
the situations that meet them, one theorem for each of its clauses. -/

namespace Sys2Proof.Tests

open Sys2Proof Sys2Proof.Machine Sys2Proof.Safety

/-! ### Well-formed commands and table words -/

/-- A scan brings 24 measurements (R18, R20). -/
theorem test_scanCompletion_of_24_is_wellFormed :
    (Instr.scanCompletion (List.replicate 24 2250)).wellFormed = true := by decide
/-- One measurement missing. -/
theorem test_scanCompletion_of_23_is_refused :
    (Instr.scanCompletion (List.replicate 23 2250)).wellFormed = false := by decide
/-- One measurement too many. -/
theorem test_scanCompletion_of_25_is_refused :
    (Instr.scanCompletion (List.replicate 25 2250)).wellFormed = false := by decide
/-- The table gives no row any bits, so a word spells no command and fetching one changes nothing. -/
theorem test_no_word_spells_a_command :
    decodeTableWord 8 0x41 = none ∧ (State.reset.withFetchWord 8 0x41).pending = [] := by decide

/-! ### Inputs: the example of section 1.11 -/

/-- The probe's record at 1000 ms. -/
def probe : Filter :=
  { history := [.low, .low, .low], accepted := some .low, presented := .inactive, captured := some .low,
    polarity := .activeHigh, reacquiring := false }

/-- The record after a row of samples. -/
def after (f : Filter) (l : List Level) : Filter := l.foldl (fun f v => (f.sample v).1) f

/-- Section 1.11: the splash's two samples are rejected. -/
theorem test_splash_is_rejected : after probe [.high, .high, .low, .low, .low] = probe := by decide
/-- Section 1.11, 1900 ms: the third HIGH is accepted, presented ACTIVE, delivered as an EDGE. -/
theorem test_third_high_is_accepted :
    (((after probe [.high, .high]).sample .high).1.presented, ((after probe [.high, .high]).sample .high).2)
      = (Presented.active, some DeliveryKind.edge) := by decide
/-- Section 1.11, 2300 ms: after the polarity change the same level is re-acquired as INACTIVE. -/
theorem test_polarity_change_reacquires :
    let f := after ((after probe [.high, .high, .high]).reinit .activeLow) [.high, .high]
    (f.presented, (f.sample .high).1.presented, (f.sample .high).2)
      = (Presented.active, Presented.inactive, some DeliveryKind.reacquired) := by decide

/-! ### Measurements: sections 2.4, 2.6 and 2.9 -/

/-- The measurements of section 2.4's first scan. -/
def scan1 : List Nat :=
  List.replicate 3 2260 ++ [2170] ++ List.replicate 13 2260 ++ [2340, 2260, 2260, 2340, 2260, 2260, 2260]

/-- Section 2.4: the tie of cells 18 and 21 goes to cell 18. -/
theorem test_statistics_of_the_first_scan :
    statsOf (scan1.map cellEntry) =
      { sum := 54310, mean := 2262, minMv := 2170, minCell := 4, maxMv := 2340, maxCell := 18,
        anyOpen := false, anyOver := false } := by decide +kernel
/-- Section 2.4: a broken sense wire, cell 9 at 12 mV and cell 10 at 4508 mV. -/
theorem test_statistics_of_a_broken_tap :
    statsOf (((scan1.set 8 12).set 9 4508).map cellEntry) =
      { sum := 52802, mean := 2200, minMv := 12, minCell := 9, maxMv := 3000, maxCell := 10,
        anyOpen := true, anyOver := true } := by decide +kernel
/-- R19 at its bounds: 499 is OPEN, 500 and 3000 are plain, 3001 is stored as 3000 with OVER. -/
theorem test_cell_entry_bounds :
    [499, 500, 3000, 3001].map cellEntry =
      [⟨499, false, true⟩, ⟨500, false, false⟩, ⟨3000, false, false⟩, ⟨3000, true, false⟩] := by decide
/-- Sections 2.6 and 3.2: the power-on example's T1, T2, T4 and TA. -/
theorem test_temperatures_of_the_power_on_example :
    [(57600, 48000), (50100, 48010), (61950, 47990), (52200, 48000)].map
      (fun c => (classify c.1 c.2, (temperatureOf (ratioQ c.1 c.2)).1)) =
      [(.valid, 298), (.valid, 262), (.valid, 319), (.valid, 273)] := by decide
/-- Section 2.6: T3's count of 41 is OPEN; R26's windows at their bounds. -/
theorem test_classify_bounds :
    [(41, 48000), (800, 20000), (799, 20000), (120000, 80000), (120001, 80000), (800, 19999), (800, 80001)].map
      (fun c => classify c.1 c.2) =
      [.opened, .valid, .opened, .valid, .shorted, .opened, .opened] := by decide
/-- R38, R39: the table's ends and the clamps beyond them. -/
theorem test_temperature_clamps :
    [7939, 7938, 305, 304].map temperatureOf = [(-200, .low), (-200, .none), (600, .none), (600, .high)] := by
  decide
/-- R42's worked values. -/
theorem test_offsets :
    [compOffset 30 298, compOffset 30 306, compOffset 30 200, compOffset 25 252, compOffset 25 248]
      = [14, 17, -15, 1, -1] := by decide
/-- Section 3.9: the codes of 2386 mV and 2216 mV, and those at the compensation clamps. -/
theorem test_codes : [2386, 2216, 2460, 2290, 2355, 2185, 2550, 2350, 2209].map cellCode
    = [3579, 3324, 3690, 3435, 3533, 3278, 3825, 3525, 3314] := by decide

/-! ### The link -/

/-- R179: the check value over the nine characters "123456789". -/
theorem test_crc : crc16 ("123456789".toList.map fun c => BitVec.ofNat 8 c.toNat) = 0x29B1 :=
  by decide +kernel

/-! ### Situations -/

/-- A part that is ready, with default settings: strings 1 to 4 FLOAT, channels IDLE, the line FREE. -/
def up : State := { State.reset with phase := .ready, reservoir := { account := 50000, low := false } }

/-- A frame with a body. -/
def frame (kind : Byte) (body : List Byte) : Frame := { tag := 7, kind := kind, body := body }

/-- A state whose Inbound Queue holds one frame and whose Outbound Queue has one free place. -/
def asking (s : State) (f : Frame) : State :=
  { s with link := { s.link with inbound := [f], outbound := List.replicate 7 (frame 0xE0 []) } }

/-- A frame asked of a ready part that is not restarting and is between steps can be taken. -/
theorem taking_asking (s : State) (f : Frame) (h1 : s.phase = .ready) (h2 : s.restartAt = none)
    (h3 : Settled s) : Taking (asking s f) f [] :=
  ⟨h1, h2, show (List.replicate 7 (frame 0xE0 [])).length < 8 from by decide, rfl, h3⟩

/-- A context of an equalise of string 1. -/
def round : Context :=
  newContext up
    { tag := 40, kind := .equalise, string := .p1, cls := .routine, origin := .request,
      submit := { time := 0, valid := true }, notBefore := none, holdOverride := none, ahOverride := none }

/-- Channel A in a stage with a context; string 1 tied to channel A's bus, as a transfer out leaves it. -/
def onA (st : Stage) (x : Context) : State :=
  { up with
    chan := ⟨{ stage := st, ctx := some x, call := none, wait := none, toStart := some 0 }, .reset⟩
    out := { up.out with kf := up.out.kf.set .p1 .opened, ke := up.out.ke.set .p1 .closed }
    sit := up.sit.set .p1 { up.sit.p1 with role := .equalising, assigned := some (.channel .a) } }

/-- The line in a stage with a string. -/
def lineIn (st : LineStage) (p : Pos) (l : Line) : State :=
  { up with line := { l with stage := st, string := some p } }

/-- A WATER entry for string 3, as the AUTO_LEVEL offer of section 1.11 makes it. -/
def waterEntry : Entry :=
  { tag := 0, kind := .water, string := .p3, cls := .routine, origin := .autoLevel,
    submit := { time := 0, valid := true }, notBefore := none, holdOverride := none, ahOverride := none }

/-! ### Steps on fixed values -/

/-- Section 2.9: 33,400 µs between edges is 898 rpm. -/
theorem test_tach_speed :
    (match exec (.tachEdge 66700) { up with tach := { up.tach with reference := some 33300 } } with
     | .next t => t.tach.speed
     | _ => 0) = 898 := by decide
/-- Section 6.11: a ramp step from k 0 gives 2236 mV and code 3354. -/
theorem test_ramp_step :
    (match exec (.rampStep .a)
       { onA .ramp { round with stageTimer := 300 } with
         comp := .const { source := .pilot, tc10 := 298, eqMv := 2386, floatMv := 2216 } } with
     | .next t => (t.present.a, t.out.charger.a.demand)
     | _ => (⟨0, none⟩, 0)) = (⟨3354, some 2236⟩, 3354) := by decide
/-- Section 8.11, 84 s: the 241st pulse brings the account to 14,995, below 15,000, with value 1499. -/
theorem test_pulse_lowers_the_account :
    (match exec .flowPulse { up with reservoir := { account := 15000, low := false } } with
     | .next t => (t.reservoir.account, t.latches.reservoirLow.map (·.value))
     | _ => (0, none)) = (14995, some 1499) := by decide
/-- Section 9.4's example: 74 back with 64 held gives n 10, GAP, first seq 1000. -/
theorem test_log_range :
    logRange { up with log := { ring := List.replicate 64 (recoveredRecord .p1 ⟨.water, ⟨0, false⟩⟩),
                                nextSeq := 1064, transfer := none } } 990 10
      = some { n := 10, gap := true, first := 1000 } := by decide
/-- R71: an URGENT entry goes before the ROUTINE ones. -/
theorem test_urgent_goes_first :
    (placeIn [waterEntry] { waterEntry with cls := .urgent, string := .p1 }).map (·.string) = [.p1, .p3] := by
  decide

/-- R33: an edge accepted at 2 s is the new reference, and the 2 s that end then are over. -/
theorem test_an_edge_cancels_the_tach_timeout :
    let s : State :=
      { up with
        base := { up.base with ms := 2000, sampleAt := 2000 }
        tach := { up.tach with reference := some 2000000 } }
    exec .tachTimeout s = .next s := rfl
/-- R98: RAMP_STEP_MIN lowered to 1 min counts from the next second; at the last one it was 5 min. -/
theorem test_a_lowered_step_waits_for_the_second :
    let s : State :=
      { onA .ramp { round with stageTimer := 60 } with
        store := { up.store with working := { Settings.default with rampStepMin := 1 } } }
    exec (.rampStep .a) s = .next s := rfl
/-- R126: SUPPLY_GRACE_MIN raised from 0 to 5 within a second, then surplus lost: the grace timer stands at 0 and
does not expire before its 300 s. -/
theorem test_a_grace_timer_that_just_started_runs :
    let s : State :=
      { onA .hold round with
        base := { up.base with atSecond := { Settings.default with supplyGraceMin := 0 } }
        supply := { grantMin := 1, grantSec := 60, surplus := true } }
    (match exec .grantCountdown s with
     | .next t =>
       (t.supply.surplus, t.perm.grace,
        match exec .graceExpiry t with
        | .next u => u.perm.grace
        | _ => none)
     | _ => (true, none, none)) = (false, some 0, some 0) := by decide +kernel
/-- R131: of two held rounds that end at one instant the younger waits for the older. -/
theorem test_the_younger_held_round_waits :
    let x : Context := { round with ageMin := 4319, ageSec := 60 }
    let s : State :=
      { up with held :=
        { entries :=
            [{ ctx := { x with string := .p3 }, cause := .vent, since := { time := 1, valid := true } },
             { ctx := x, cause := .supply, since := { time := 2, valid := true } }]
          gen := 2 } }
    exec (.ageMinute .p1) s = .next s
      ∧ (match exec (.ageMinute .p3) s with
         | .next t => t.held.entries.map (·.ctx.string)
         | _ => []) = [.p1] := ⟨rfl, by decide +kernel⟩
/-- R153: an account above the default RESERVOIR_CAP_ML, which a bad checksum loads, comes down to it. -/
theorem test_the_load_keeps_the_account_within_its_cap :
    (match exec .resetRelease { State.reset with reservoir := { account := 200000, low := false } } with
     | .next t => (t.reservoir.account, t.store.defaulted)
     | _ => (0, false)) = (100000, true) := by decide +kernel
/-- R45's table lists TRANSFER_OUT first and IDLE last (R182). -/
theorem test_stage_codes :
    [Stage.transferOut, .ramp, .hold, .settle, .water, .transferBack, .idle].map Stage.code = [0, 1, 2, 3, 4, 5, 6] :=
  rfl

/-! ### Witnesses: the hypotheses of the statements are met

Each theorem is named after its statement and clause. Its state and operands meet all of that clause's hypotheses
together, timers and counts at the bound the clause names. -/

/-- Everything a filter record holds, with two LOW samples of a LOW that stands accepted. -/
def quiet (f : Filter) : Filter := { f with history := [.low, .low], accepted := some .low }

/-- A part whose inputs were LOW at the last two instants, but for one that was HIGH and is accepted LOW. -/
def accepting (s : State) (i : InputId) (p : Polarity) : State :=
  let lows : Inputs :=
    { kf := Eight.of fun p => quiet (s.inp.kf.get p), ke := Eight.of fun p => quiet (s.inp.ke.get p),
      ks := Eight.of fun p => quiet (s.inp.ks.get p), level := Eight.of fun p => quiet (s.inp.level.get p),
      genRun := quiet s.inp.genRun, h2Alarm := quiet s.inp.h2Alarm, resLow := quiet s.inp.resLow }
  let high : Filter :=
    { s.inp.get i with history := [.high, .high], accepted := some .low, polarity := p, reacquiring := false }
  { s with inp := lows.set i high }

/-- The levels of an instant at which one input alone is HIGH. -/
def highAt (i : InputId) : BitVec 35 := BitVec.ofNat 35 (2 ^ inputIndex i)

theorem highAt_brings : ∀ i ∈ InputId.all, ∀ j ∈ InputId.all,
    broughtLevel (highAt i) j = if j = i then .high else .low := by decide +kernel

/-- Such an instant accepts that input alone, with the state its polarity gives. -/
theorem accepts (s : State) (i : InputId) (p : Polarity) :
    OnlyAccepts (accepting s i p) (highAt i) i .edge (if p = .activeHigh then .active else .inactive) := by
  have all (j : InputId) : j ∈ InputId.all := by cases j <;> first | decide | (rename_i p; cases p <;> decide)
  refine ⟨?_, ?_, fun j h => ?_⟩
  · rw [highAt_brings i (all i) i (all i), if_pos rfl, accepting, inputs_get_set_same]; rfl
  · rw [highAt_brings i (all i) i (all i), if_pos rfl, accepting, inputs_get_set_same]; cases p <;> rfl
  · rw [highAt_brings i (all i) j (all j), if_neg h, accepting, inputs_get_set_other _ _ _ _ h]
    cases j <;> first | rfl | (rename_i q; cases q <;> rfl)

theorem witness_stepRunsFrontCommand :
    State.reset.pending = [] ∧ State.reset.phase = .held := by and_intros <;> rfl

theorem witness_powerOnAndResetN :
    State.reset.store.writeBusy = false := rfl

/-- A held part whose histories are an hour and 0.1 A·s short of being due, its account at RESERVOIR_LOW_ML. -/
def almostDue (ok : Bool) : State :=
  { State.reset with
    hist := .const { StringHistory.reset with hours := 719, throughput := 14399999 }
    reservoir := { account := 15000, low := false }
    store := { State.reset.store with checksumOk := ok } }

theorem witness_initialisation_loads_stored :
    let s := almostDue true
    s.phase = .held ∧ Settled s ∧ (∀ p : Pos, (s.hist.get p).roundOpen = none)
      ∧ (∀ p : Pos, (s.hist.get p).hours < s.store.stored.dueDays * 24
          ∧ (s.hist.get p).throughput < s.store.stored.dueAh * 36000)
      ∧ (15000 : Nat) = min s.reservoir.account s.store.stored.reservoirCapMl
      ∧ s.store.stored.reservoirLowMl ≤ 15000 :=
  ⟨rfl, rfl, fun p => by cases p <;> rfl, fun p => by cases p <;> decide, by decide, by decide⟩

theorem witness_initialisation_loads_defaults :
    let s := almostDue false
    s.phase = .held ∧ Settled s ∧ (∀ p : Pos, (s.hist.get p).roundOpen = none)
      ∧ (∀ p : Pos, (s.hist.get p).hours < s.store.stored.dueDays * 24
          ∧ (s.hist.get p).throughput < s.store.stored.dueAh * 36000)
      ∧ (15000 : Nat) = min s.reservoir.account s.store.stored.reservoirCapMl
      ∧ s.store.stored.reservoirLowMl ≤ 15000 :=
  ⟨rfl, rfl, fun p => by cases p <;> rfl, fun p => by cases p <;> decide, by decide, by decide⟩

theorem witness_initialisation_ends :
    ({ State.reset with phase := .initialising } : State).phase = .initialising := rfl

theorem witness_initialisation_discards :
    ({ State.reset with phase := .initialising } : State).phase ≠ .ready := by decide

/-- A part with one marker standing, on string 3. -/
def marked : State :=
  { up with
    hist := up.hist.set .p3 ({ StringHistory.reset with
      roundOpen := some { kind := .water, first := { time := 5, valid := true } } }) }

theorem witness_markersAreRecovered :
    (marked.hist.get .p3).roundOpen = some { kind := .water, first := { time := 5, valid := true } }
      ∧ ∀ q : Pos, q ≠ .p3 → (marked.hist.get q).roundOpen = none :=
  ⟨rfl, fun q h => by cases q <;> first | rfl | exact absurd rfl h⟩

theorem witness_restartIsTaken :
    let f := frame 0x1B []
    let s := asking up f
    Taking s f [] ∧ f.kind = 0x1B ∧ f.body = [] ∧ ChannelsIdle s ∧ s.held.entries = [] ∧ s.line.stage = .free :=
  ⟨taking_asking up _ rfl rfl rfl, rfl, rfl, ⟨rfl, rfl⟩, rfl, rfl⟩

theorem witness_restartIsTaken_held :
    let f := frame 0x1B []
    let h : Held := { ctx := { round with string := .p3 }, cause := .vent, since := { time := 1, valid := true } }
    let g : Held := { ctx := round, cause := .supply, since := { time := 2, valid := true } }
    let s := asking
      { up with
        held := { entries := [h, g], gen := 255 }
        log := { ring := List.replicate 64 (recoveredRecord .p1 ⟨.water, ⟨0, false⟩⟩), nextSeq := 65535,
                 transfer := none } } f
    Taking s f [] ∧ f.kind = 0x1B ∧ f.body = [] ∧ ChannelsIdle s ∧ s.line.stage = .free
      ∧ s.held.entries = h :: [g] ∧ s.log.nextSeq < 65536 ∧ s.latches.roundEnded = none :=
  ⟨taking_asking _ _ rfl rfl rfl, rfl, rfl, ⟨rfl, rfl⟩, rfl, rfl, by decide, rfl⟩

/-- A restarting part, quiet, that the final step resets. -/
def restartingPart : State := { almostDue true with phase := .ready, restartAt := some 0 }

theorem witness_finalStepResets :
    let s := restartingPart
    s.restartAt = some 0 ∧ ChannelsIdle s ∧ s.line.stage = .free ∧ s.line.owner = none
      ∧ s.store.writeBusy = false ∧ (∀ p : Pos, (s.hist.get p).roundOpen = none)
      ∧ (∀ p : Pos, (s.hist.get p).hours < s.cfg.dueDays * 24
          ∧ (s.hist.get p).throughput < s.cfg.dueAh * 36000)
      ∧ s.cfg.reservoirLowMl ≤ s.reservoir.account :=
  ⟨rfl, ⟨rfl, rfl⟩, rfl, rfl, rfl, fun p => by cases p <;> rfl, fun p => by cases p <;> decide, by decide⟩

theorem witness_finalStepWaits :
    let s : State :=
      { lineIn .closing .p3 .reset with
        restartAt := some 0, base := { up.base with ms := 9999, sampleAt := 9999 } }
    s.restartAt = some 0 ∧ s.line.stage ≠ .free ∧ s.base.ms < 0 + 10000 ∧ s.base.sampleAt < 0 + 10000 :=
  by and_intros <;> first | rfl | decide

theorem witness_finalStepWaits_channel :
    let s : State :=
      { onA .transferBack round with restartAt := some 0, base := { up.base with ms := 9999, sampleAt := 9999 } }
    s.restartAt = some 0 ∧ ¬ChannelsIdle s ∧ s.base.ms < 0 + 10000 ∧ s.base.sampleAt < 0 + 10000 :=
  ⟨rfl, fun h => absurd h.1 (by decide), by decide, by decide⟩

theorem witness_finalStepWaits_write :
    let s : State :=
      { up with
        restartAt := some 0, base := { up.base with ms := 9999, sampleAt := 9999 }
        store := { up.store with writeBusy := true } }
    s.restartAt = some 0 ∧ s.store.writeBusy = true ∧ s.base.ms < 0 + 10000 ∧ s.base.sampleAt < 0 + 10000 :=
  by and_intros <;> first | rfl | decide

theorem witness_finalStepResets_owedByChannel :
    let s : State :=
      { onA .transferBack round with
        restartAt := some 0, base := { up.base with ms := 10000 }
        hist := up.hist.set .p1 { StringHistory.reset with
          roundOpen := some { kind := .equalise, first := { time := 0, valid := true } } } }
    s.restartAt = some 0 ∧ 0 + 10000 ≤ s.base.ms ∧ (s.chan.get .a).stage ≠ .idle ∧ (s.chan.get .a).ctx = some round
      ∧ (s.chan.get .a).call = none ∧ (s.chan.get (Ch.other .a)).stage = .idle ∧ s.line.owner ≠ some .round
      ∧ (∀ p : Pos, p ≠ round.string → (s.hist.get p).roundOpen = none)
      ∧ (∀ p : Pos, (s.hist.get p).hours < s.cfg.dueDays * 24 ∧ (s.hist.get p).throughput < s.cfg.dueAh * 36000)
      ∧ s.cfg.reservoirLowMl ≤ s.reservoir.account :=
  ⟨rfl, by decide, by decide, rfl, rfl, rfl, by decide,
    fun p h => by cases p <;> first | rfl | exact absurd rfl h, fun p => by cases p <;> decide, by decide⟩

theorem witness_finalStepResets_owedByLine :
    let i : RoundIdentity := { tag := 55, origin := .autoLevel, first := { time := 0, valid := true } }
    let s : State :=
      { lineIn .closing .p3
          { Line.reset with owner := some .round, identity := some i, outcome := some .cancelled } with
        restartAt := some 0, base := { up.base with ms := 10000 }, hist := marked.hist }
    s.restartAt = some 0 ∧ 0 + 10000 ≤ s.base.ms ∧ ChannelsIdle s ∧ s.line.owner = some .round
      ∧ s.line.string = some .p3 ∧ s.line.identity = some i ∧ s.line.outcome = some .cancelled
      ∧ (∀ q : Pos, q ≠ .p3 → (s.hist.get q).roundOpen = none)
      ∧ (∀ q : Pos, (s.hist.get q).hours < s.cfg.dueDays * 24 ∧ (s.hist.get q).throughput < s.cfg.dueAh * 36000)
      ∧ s.cfg.reservoirLowMl ≤ s.reservoir.account :=
  ⟨rfl, by decide, ⟨rfl, rfl⟩, rfl, rfl, rfl, rfl,
    fun q h => by cases q <;> first | rfl | exact absurd rfl h, fun q => by cases q <;> decide, by decide⟩

theorem witness_restartingAnswersBusy :
    let f := frame 0x06 [0]
    let s := asking { up with restartAt := some 0 } f
    (∃ fits, requestForm .readTemperatures = some (0x06, fits)) ∧ s.phase = .ready ∧ s.restartAt.isSome = true
      ∧ s.link.outbound.length < 8 ∧ s.link.inbound = [f] ∧ f.kind = 0x06 ∧ asksDetail f = false :=
  ⟨⟨_, rfl⟩, rfl, rfl, by decide, rfl, rfl, by decide⟩

theorem witness_restartingAnswersBusy_held :
    let f := frame 0x0D [5]
    (∃ fits, requestForm .readHeld = some (0x0D, fits)) ∧ f.kind = 0x0D ∧ asksHeldDetail f = false :=
  ⟨⟨_, rfl⟩, rfl, by decide⟩

theorem witness_restartingAnswersBusy_temperatureDetail :
    let f := frame 0x06 [9]
    let s := asking { up with restartAt := some 0 } f
    s.phase = .ready ∧ s.restartAt.isSome = true ∧ s.link.outbound.length < 8 ∧ s.link.inbound = [f]
      ∧ f.kind = 0x06 ∧ asksDetail f = true := ⟨rfl, rfl, by decide, rfl, rfl, by decide⟩

theorem witness_restartingAnswersBusy_heldDetail :
    let f := frame 0x0D [4]
    let s := asking { up with restartAt := some 0 } f
    s.phase = .ready ∧ s.restartAt.isSome = true ∧ s.link.outbound.length < 8 ∧ s.link.inbound = [f]
      ∧ f.kind = 0x0D ∧ asksHeldDetail f = true := ⟨rfl, rfl, by decide, rfl, rfl, by decide⟩

theorem witness_malformedFramesAreAnswered :
    let f := frame 0x18 (List.replicate 17 1)
    ∃ fits, requestForm .clearConditions = some (0x18, fits) ∧ Taking (asking up f) f [] ∧ f.kind = 0x18
      ∧ fits f.body.length = false := ⟨_, rfl, taking_asking up _ rfl rfl rfl, rfl, by decide⟩

theorem witness_unknownKind_00 :
    let f := frame 0x00 []
    Taking (asking up f) f [] ∧ (f.kind.toNat = 0 ∨ 0x1B < f.kind.toNat) :=
  ⟨taking_asking up _ rfl rfl rfl, by decide⟩

theorem witness_unknownKind_1c :
    let f := frame 0x1C []
    Taking (asking up f) f [] ∧ (f.kind.toNat = 0 ∨ 0x1B < f.kind.toNat) :=
  ⟨taking_asking up _ rfl rfl rfl, by decide⟩

theorem witness_unknownKind_80 :
    let f := frame 0x80 []
    Taking (asking up f) f [] ∧ (f.kind.toNat = 0 ∨ 0x1B < f.kind.toNat) :=
  ⟨taking_asking up _ rfl rfl rfl, by decide⟩

/-- A part whose inputs were all LOW at the last two instants and are accepted LOW. -/
def allLow : State :=
  let f : Filter := { probe with history := [.low, .low] }
  { up with
    inp :=
      { kf := .const f, ke := .const f, ks := .const f, level := .const f, genRun := f, h2Alarm := f,
        resLow := f } }

theorem witness_samplesAreAppended :
    allLow.phase ≠ .held
      ∧ ∀ i : InputId, ((allLow.inp.get i).sample (broughtLevel 0 i)).2 = none :=
  ⟨by decide, fun i => by cases i <;> first | decide | (rename_i p; cases p <;> decide)⟩

theorem witness_levelsAreAccepted :
    let f := { probe with history := [.high, .high] }
    latestThree f.history .high = [.high, .high, .high] ∧ f.accepted ≠ some .high :=
  by and_intros <;> first | rfl | decide

theorem witness_levelsAreKept :
    let f := { probe with history := [.low, .low] }
    (latestThree f.history .low = [.low, .low, .low] ∧ f.accepted = some .low)
      ∧ ∀ v : Level, latestThree f.history .low = [v, v, v] → f.accepted = some v :=
  ⟨⟨rfl, rfl⟩, fun v h => by cases v <;> first | rfl | exact absurd h (by decide)⟩

/-- A part with AUTO_QUEUE as given and the line taken. -/
def taken (auto : Nat) : State :=
  { lineIn .dosing .p3 .reset with
    store := { up.store with working := { Settings.default with autoQueue := auto } } }

theorem witness_levelsAreAccepted_dry :
    let s := accepting (taken 0) (.level .p2) .activeHigh
    s.phase ≠ .held ∧ Settled s ∧ s.cfg.fitted.testBit (Pos.num .p2 - 1) = true
      ∧ OnlyAccepts s (highAt (.level .p2)) (.level .p2) .edge .active ∧ s.cfg.autoQueue = 0 :=
  ⟨by decide, rfl, by decide, accepts _ _ _, rfl⟩

theorem witness_levelsAreAccepted_wet :
    let s := accepting (taken 1) (.level .p2) .activeLow
    s.phase ≠ .held ∧ Settled s ∧ s.cfg.fitted.testBit (Pos.num .p2 - 1) = true
      ∧ OnlyAccepts s (highAt (.level .p2)) (.level .p2) .edge .inactive :=
  ⟨by decide, rfl, by decide, accepts _ _ _⟩

theorem witness_levelsAreAccepted_offer :
    let s := accepting (taken 1) (.level .p2) .activeHigh
    s.phase ≠ .held ∧ Settled s ∧ s.cfg.fitted.testBit (Pos.num .p2 - 1) = true
      ∧ OnlyAccepts s (highAt (.level .p2)) (.level .p2) .edge .active ∧ s.cfg.autoQueue ≠ 0 ∧ NoCandidates s
      ∧ place s .p2 = none ∧ (s.hist.get .p2).waterLock = none ∧ s.line.stage ≠ .free :=
  ⟨by decide, rfl, by decide, accepts _ _ _, by decide, ⟨rfl, rfl⟩, by decide, rfl, by decide⟩

theorem witness_slotStartSelects :
    up.phase ≠ .held := by decide

theorem witness_scanCompletionReplaces :
    let s : State := { up with scan := { up.scan with measuring := some .p1 } }
    s.scan.measuring = some .p1 ∧ ((scan1.set 8 499).set 9 500).length = 24 ∧ Settled s ∧ holder s .p1 = none
      ∧ s.cfg.fitted.testBit (Pos.num .p1 - 1) = true := ⟨rfl, rfl, rfl, by decide, by decide⟩

theorem witness_scanCompletionReplaces_holdback :
    let x : Context := { round with ceiling := some 2360 }
    let s : State :=
      { onA .hold x with
        scan := { up.scan with measuring := some .p1 }, present := up.present.set .a { code := 3540, cell := some 2360 } }
    let mvs := scan1.set 8 2701
    s.scan.measuring = some .p1 ∧ mvs.length = 24 ∧ Settled s ∧ holder s .p1 = some .a
      ∧ (s.chan.get .a).stage = .hold ∧ (s.chan.get .a).ctx = some x ∧ (s.present.get .a).cell = some 2360
      ∧ (∀ mv ∈ mvs, 500 ≤ mv) ∧ (∃ mv ∈ mvs, s.cfg.cellMaxMv < min 3000 mv)
      ∧ (2340 : Nat) = min 2360 (max (s.comp.get .p1).floatMv (2360 - s.cfg.rampStepMv))
      ∧ (2340 : Nat) = max (min (s.comp.get .p1).eqMv 2340) (s.comp.get .p1).floatMv :=
  ⟨rfl, rfl, rfl, by decide, rfl, rfl, rfl, by decide, ⟨2701, by decide, by decide⟩, by decide, by decide⟩

theorem witness_statisticsOfAScan :
    (scan1.map cellEntry).length = 24 := rfl

theorem witness_currentSampleStores :
    let dA : Eight Int := ⟨-2001, 2000, 2001, 60, 0, 0, 0, -1⟩
    let s : State :=
      { onA .settle round with hist := up.hist.set .p1 { StringHistory.reset with hours := 719, throughput := 14397999 } }
    let through : Pos → Nat := fun p => min 4294967295 ((s.hist.get p).throughput + min 2000 (dA.get p).natAbs)
    s.phase ≠ .held ∧ Settled s
      ∧ (∀ c : Ch, (s.chan.get c).stage ≠ .ramp ∧ (s.chan.get c).stage ≠ .hold)
      ∧ through .p1 = 14399999
      ∧ ∀ p : Pos, s.cfg.fitted.testBit (p.num - 1) = true → dA.get p < 0 →
          (s.hist.get p).hours < s.cfg.dueDays * 24 ∧ through p < s.cfg.dueAh * 36000 :=
  ⟨by decide, rfl, fun c => by cases c <;> decide, by decide, fun p => by cases p <;> decide⟩

/-- A context one sample of 100.0 A short of the Ah limit, or at it. -/
def charged (short : Nat) : Context := { round with charge := 120 * 36000 - 1000 - short }

theorem witness_chargeIsIntegrated_ramp :
    let s := onA .ramp (charged 1)
    (s.chan.get .a).ctx = some (charged 1) ∧ (s.chan.get .a).stage = .ramp
      ∧ (1000 : Nat) = (max 0 (min 1000 ((Eight.const (1001 : Int)).get (charged 1).string))).toNat
      ∧ (charged 1).charge + 1000 ≤ 4294967295 ∧ (charged 1).charge + 1000 < (charged 1).ahLimit * 36000 :=
  by and_intros <;> first | rfl | decide

theorem witness_chargeIsIntegrated_ramp_limit :
    let s := onA .ramp (charged 0)
    (s.chan.get .a).ctx = some (charged 0) ∧ (s.chan.get .a).stage = .ramp
      ∧ (1000 : Nat) = (max 0 (min 1000 ((Eight.const (1000 : Int)).get (charged 0).string))).toNat
      ∧ (charged 0).charge + 1000 ≤ 4294967295 ∧ (charged 0).ahLimit * 36000 ≤ (charged 0).charge + 1000 :=
  by and_intros <;> first | rfl | decide

theorem witness_chargeIsIntegrated_hold :
    let s := onA .hold (charged 1)
    (s.chan.get .a).ctx = some (charged 1) ∧ (s.chan.get .a).stage = .hold
      ∧ (1000 : Nat) = (max 0 (min 1000 ((Eight.const (1001 : Int)).get (charged 1).string))).toNat
      ∧ (charged 1).charge + 1000 ≤ 4294967295 ∧ (charged 1).charge + 1000 < (charged 1).ahLimit * 36000 :=
  by and_intros <;> first | rfl | decide

theorem witness_chargeIsIntegrated_hold_limit :
    let s := onA .hold (charged 0)
    (s.chan.get .a).ctx = some (charged 0) ∧ (s.chan.get .a).stage = .hold
      ∧ (1000 : Nat) = (max 0 (min 1000 ((Eight.const (1000 : Int)).get (charged 0).string))).toNat
      ∧ (charged 0).charge + 1000 ≤ 4294967295 ∧ (charged 0).ahLimit * 36000 ≤ (charged 0).charge + 1000 :=
  by and_intros <;> first | rfl | decide

theorem witness_chargeIsIntegrated_settle :
    let s := onA .settle round
    (s.chan.get .a).ctx = some round ∧ (s.chan.get .a).stage ≠ .ramp ∧ (s.chan.get .a).stage ≠ .hold
      ∧ (0 : Nat) = (max 0 (min 1000 ((Eight.const (-1 : Int)).get round.string))).toNat
      ∧ round.charge + 0 ≤ 4294967295 := by and_intros <;> first | rfl | decide

/-- ChargeIsIntegrated's command: a sample of 100.1 A that leaves the charge one short of the Ah limit. -/
theorem witness_chargeIsIntegrated_sample :
    let dA : Eight Int := Eight.const (1001 : Int)
    let s := onA .hold (charged 1)
    (s.chan.get .a).ctx = some (charged 1) ∧ s.phase ≠ .held ∧ Settled s ∧ NoneDue s dA
      ∧ (s.chan.get .a).stage = .hold
      ∧ ∀ (d : Ch) (y : Context), (s.chan.get d).ctx = some y →
          (s.chan.get d).stage = .ramp ∨ (s.chan.get d).stage = .hold →
          (sampledContext (s.chan.get d).stage (dA.get y.string) y).charge < y.ahLimit * 36000 := by
  refine ⟨rfl, by decide, rfl, fun p _ h => ?_, rfl, fun d y h _ => ?_⟩
  · revert h; cases p <;> decide
  · cases d <;> cases h
    decide

/-- ChargeIsIntegrated's command: the sample that reaches the Ah limit, with a string on discharge. -/
theorem witness_chargeIsIntegrated_sample_limit :
    let dA : Eight Int := ⟨1000, -2000, 0, 0, 0, 0, 0, 0⟩
    let s := onA .hold (charged 0)
    (s.chan.get .a).ctx = some (charged 0) ∧ s.phase ≠ .held ∧ Settled s ∧ NoneDue s dA
      ∧ (s.chan.get .a).stage = .hold ∧ (s.chan.get (Ch.other .a)).stage ≠ .ramp
      ∧ (s.chan.get (Ch.other .a)).stage ≠ .hold ∧ (charged 0).ahLimit * 36000 ≤ (charged 0).charge + 1000 :=
  ⟨rfl, by decide, rfl, fun p _ h => (by revert h; cases p <;> decide), rfl, by decide, by decide, by decide⟩

theorem witness_conversionIsStored :
    up.phase ≠ .held ∧ Settled up ∧ up.temps.next = .pilot .p1 ∧ holder up .p1 = none ∧ NoCandidates up
      ∧ (1048575 : Nat) = min 1048576 1048575 ∧ (48000 : Nat) = min 48000 1048575
      ∧ classify 57600 48000 = .valid ∧ classify 1048575 48000 = .shorted :=
  ⟨by decide, rfl, rfl, by decide, ⟨rfl, rfl⟩, rfl, rfl, rfl, rfl⟩

theorem witness_conversionIsStored_ambient :
    let s : State := { up with temps := { up.temps with next := .ambient } }
    s.phase ≠ .held ∧ Settled s ∧ s.temps.next = .ambient ∧ ChannelsIdle s ∧ (57600 : Nat) = min 57600 1048575
      ∧ (48000 : Nat) = min 48000 1048575 := ⟨by decide, rfl, rfl, ⟨rfl, rfl⟩, rfl, rfl⟩

theorem witness_compensationOffset :
    (50 : Nat) ≤ 50 ∧ (0 : Int) ≤ 500 ∧ (500 : Int) ≤ 500 ∧ (250 : Int) < 251 ∧ (249 : Int) < 250 :=
  by and_intros <;> first | rfl | decide

theorem witness_setpointsStayInTheirWindows :
    let s : State :=
      { up with store := { up.store with working := { Settings.default with eqCellMv := 2300, floatCellMv := 2300 } } }
    s.cfg.floatCellMv ≤ s.cfg.eqCellMv := by decide

/-- A part whose float rectifier demand was computed before, at the code given. -/
def floating (code : Nat) : State :=
  { up with out := { up.out with floatDemand := code, floatComputed := true } }

/-- The first computation after a reset; a later one 2 and 1 codes away from 3345, the code of 2230 mV. -/
theorem witness_setpointsStayInTheirWindows_float :
    up.out.floatComputed = false
      ∧ (floating 3347).out.floatComputed = true ∧ floatCode (floating 3347) + 2 ≤ (floating 3347).out.floatDemand
      ∧ (floating 3344).out.floatComputed = true ∧ floatCode (floating 3344) < (floating 3344).out.floatDemand + 2
      ∧ (floating 3344).out.floatDemand < floatCode (floating 3344) + 2 := by decide +kernel

theorem witness_flowPulseIsCounted :
    up.phase ≠ .held ∧ up.flow.pulse = false ∧ Settled up ∧ up.line.stage = .free :=
  by and_intros <;> first | rfl | decide

theorem witness_flowPulseIsCounted_manual :
    ({ up with line := { Line.reset with stage := .manual, owner := some .host } } : State).line.stage = .manual :=
  rfl

theorem witness_flowPulseIsCounted_again :
    ({ up with flow := { up.flow with pulse := true } } : State).flow.pulse = true := rfl

/-- A part whose tach holds a reference at 33,300 µs. -/
def turning : State := { up with tach := { reference := some 33300, period := none, speed := 0 } }

theorem witness_tachEdge_first :
    up.phase ≠ .held ∧ up.tach.reference = none := by and_intros <;> first | rfl | decide

theorem witness_tachEdge_ignored :
    turning.tach.reference = some 33300 ∧ 33799 < 33300 + 500 := by and_intros <;> first | rfl | decide

theorem witness_tachEdge_speed :
    turning.phase ≠ .held ∧ turning.tach.reference = some 33300 ∧ 33300 + 500 ≤ 33800
      ∧ turning.perm.ventFailed = false ∧ Settled turning := by and_intros <;> first | rfl | decide

theorem witness_tachTimeout :
    let s : State := { turning with base := { up.base with ms := 2034 } }
    s.tach.reference = some 33300 ∧ 33300 + 2000000 ≤ 1000 * max s.base.ms s.base.sampleAt
      ∧ s.perm.ventFailed = false ∧ Settled s := by and_intros <;> first | rfl | decide

/-- A part at the hour of string 2, with a count of hours and a DUE flag. -/
def atHour (hours : Nat) (due : Bool) : State :=
  { up with
    hist := up.hist.set .p2 { StringHistory.reset with hours := hours, throughput := 14399999 }
    sit := up.sit.set .p2 { up.sit.p2 with hourSec := 3600, due := due } }

theorem witness_hourIsCounted_notDue :
    let s := atHour 718 true
    s.cfg.fitted.testBit (Pos.num .p2 - 1) = true ∧ 3600 ≤ (s.sit.get .p2).hourSec ∧ Settled s
      ∧ (719 : Nat) = min 65535 ((s.hist.get .p2).hours + 1) ∧ 719 < s.cfg.dueDays * 24
      ∧ (s.hist.get .p2).throughput < s.cfg.dueAh * 36000 := by and_intros <;> first | rfl | decide

theorem witness_hourIsCounted_due :
    let s := atHour 719 true
    s.cfg.fitted.testBit (Pos.num .p2 - 1) = true ∧ 3600 ≤ (s.sit.get .p2).hourSec ∧ Settled s
      ∧ (720 : Nat) = min 65535 ((s.hist.get .p2).hours + 1) ∧ s.cfg.dueDays * 24 ≤ 720
      ∧ (s.sit.get .p2).due = true := by and_intros <;> rfl

/-- A part with AUTO_QUEUE as given, string 2 due but its DUE flag still clear, and 11 rounds queued. -/
def becomingDue (auto : Nat) : State :=
  { atHour 720 false with
    store := { up.store with working := { Settings.default with autoQueue := auto } }
    queue := { entries := List.replicate 11 waterEntry, gen := 11 } }

theorem witness_dueRiseOffersAnEntry :
    let s := becomingDue 1
    s.cfg.fitted.testBit (Pos.num .p2 - 1) = true ∧ (s.sit.get .p2).due = false
      ∧ s.cfg.dueDays * 24 ≤ (s.hist.get .p2).hours ∧ s.latches.stringDue = none ∧ s.cfg.autoQueue ≠ 0
      ∧ place s .p2 = none ∧ (s.hist.get .p2).eqLock = none ∧ (s.hist.get .p2).waterLock = none
      ∧ s.queue.entries.length < 12 := by and_intros <;> first | rfl | decide

theorem witness_dueRiseOffersAnEntry_off :
    let s := becomingDue 0
    s.cfg.fitted.testBit (Pos.num .p2 - 1) = true ∧ (s.sit.get .p2).due = false
      ∧ s.cfg.dueDays * 24 ≤ (s.hist.get .p2).hours ∧ s.latches.stringDue = none ∧ s.cfg.autoQueue = 0 :=
  by and_intros <;> rfl

/-- A part at a minute evaluation with one WATER entry that passes every test, its account at one dose. -/
def waterWaits : State :=
  { up with
    base := { up.base with minuteSec := 60 }
    queue := { entries := [waterEntry], gen := 1 }
    inp := { up.inp with h2Alarm := { probe with history := [] }, resLow := { probe with history := [] } }
    reservoir := { account := 500, low := true } }

theorem witness_minuteAdmitsAWatering :
    let s := waterWaits
    60 ≤ s.base.minuteSec ∧ s.restartAt = none ∧ Settled s ∧ s.held.entries = [] ∧ s.queue.entries = [waterEntry]
      ∧ waterEntry.kind = .water ∧ waterEntry.notBefore = none ∧ (s.sit.get waterEntry.string).role = .float
      ∧ (s.hist.get waterEntry.string).waterLock = none ∧ s.line.stage = .free ∧ s.line.waiting = []
      ∧ presents s .h2Alarm = .inactive ∧ s.perm.purge = none ∧ s.cfg.doseMl ≤ s.reservoir.account
      ∧ presents s .resLow = .inactive := by and_intros <;> rfl

theorem witness_queueOrderIsKept :
    (∀ x ∈ [{ waterEntry with cls := .urgent }], x.cls = .urgent) ∧ (∀ x ∈ [waterEntry], x.cls = .routine) :=
  by and_intros <;> first | rfl | decide

theorem witness_admissionStartsTransferOut :
    let e : Entry := { waterEntry with kind := .equalise }
    e.kind ≠ .water ∧ freeChannel up = some .a ∧ busShown (presents up (.ks e.string)) ≠ some .a :=
  by and_intros <;> first | rfl | decide

/-- The feedback of KF or KE as a filter record presents it. -/
def shows (v : Presented) : Filter := { probe with history := [], presented := v }

/-- Channel A in a waiting step begun at 0 with CONTACTOR_MS at 800, the next sample instant at 800 ms. -/
def waiting (st : Stage) (k : Contactor) (kf ke : Contact) : State :=
  let s := onA st round
  { s with
    base := { s.base with sampleAt := 800 }
    out := { s.out with kf := s.out.kf.set .p1 kf, ke := s.out.ke.set .p1 ke }
    chan := s.chan.set .a { s.chan.a with wait := some { contactor := k, start := 0, limit := 800 } } }

theorem witness_transferOutTimesOut :
    let s := waiting .transferOut .kf .opened .opened
    (s.chan.get .a).stage = .transferOut ∧ (s.chan.get .a).ctx = some round ∧ (s.chan.get .a).call = none
      ∧ (s.chan.get .a).wait = some { contactor := .kf, start := 0, limit := 800 } ∧ 0 + 800 ≤ s.base.sampleAt
      ∧ s.out.kf.get round.string = .opened ∧ s.out.ke.get round.string = .opened
      ∧ presents s (.kf round.string) ≠ .active ∧ (s.sit.get round.string).onBus = false
      ∧ s.perm.ventFailed = false ∧ s.latches.contactorFault = none ∧ Settled s :=
  by and_intros <;> first | rfl | decide

/-- The channel A waits for step 2 of a transfer out, and the string is on the bus with two others. -/
def switching : State :=
  let s := waiting .transferOut .ks .closed .opened
  { s with
    inp := { s.inp with kf := .const (shows .active) }
    sit :=
      ((s.sit.set .p1 { s.sit.p1 with onBus := true }).set .p2 { s.sit.p2 with onBus := true }).set .p3
        { s.sit.p3 with onBus := true } }

theorem witness_admissionStartsTransferOut_step3 :
    let s := accepting switching (.ks .p1) .activeLow
    s.phase ≠ .held ∧ Settled s ∧ NoCandidates s ∧ (s.chan.get .a).stage = .transferOut
      ∧ (s.chan.get .a).ctx = some round ∧ (s.chan.get .a).wait = some { contactor := .ks, start := 0, limit := 800 }
      ∧ holder s round.string = some .a
      ∧ OnlyAccepts s (highAt (.ks .p1)) (.ks round.string) .edge (if Ch.a = .b then .active else .inactive)
      ∧ presents s (.kf round.string) ≠ .inactive ∧ (s.sit.get round.string).onBus = true
      ∧ s.cfg.reserve + 1 ≤ onBusCount s :=
  ⟨by decide, rfl, ⟨rfl, rfl⟩, rfl, rfl, rfl, by decide, accepts _ _ _, by decide, rfl, by decide⟩

theorem witness_admissionStartsTransferOut_ramp :
    let s := accepting (waiting .transferOut .ke .opened .closed) (.ke .p1) .activeHigh
    s.phase ≠ .held ∧ Settled s ∧ NoCandidates s ∧ (s.chan.get .a).stage = .transferOut
      ∧ (s.chan.get .a).ctx = some round ∧ (s.chan.get .a).wait = some { contactor := .ke, start := 0, limit := 800 }
      ∧ holder s round.string = some .a ∧ OnlyAccepts s (highAt (.ke .p1)) (.ke round.string) .edge .active
      ∧ 2230 = (s.comp.get round.string).floatMv ∧ 2230 < effectiveTarget s { round with k := 0 } :=
  ⟨by decide, rfl, ⟨rfl, rfl⟩, rfl, rfl, rfl, by decide, accepts _ _ _, rfl, by decide⟩

theorem witness_transferOutTimesOut_disagreement :
    let s := accepting (onA .hold round) (.ke .p1) .activeLow
    s.phase ≠ .held ∧ Settled s ∧ NoCandidates s ∧ OnlyAccepts s (highAt (.ke .p1)) (.ke round.string) .edge .inactive
      ∧ (s.chan.get .a).stage = .hold ∧ (s.chan.get .a).ctx = some round ∧ (s.chan.get .a).call = none
      ∧ (s.chan.get .a).wait = none ∧ holder s round.string = some .a
      ∧ (s.sit.get round.string).role = .equalising ∧ s.out.ke.get round.string = .closed
      ∧ s.out.kf.get round.string = .opened ∧ presents s (.kf round.string) ≠ .active
      ∧ (s.sit.get round.string).onBus = false ∧ s.latches.contactorFault = none :=
  ⟨by decide, rfl, ⟨rfl, rfl⟩, accepts _ _ _, rfl, rfl, rfl, rfl, by decide, rfl, rfl, rfl, by decide, rfl, rfl⟩

/-- A part whose string 4 is ISOLATED for a reason. -/
def isolated (r : Isolation) : State :=
  { up with sit := up.sit.set .p4 { up.sit.p4 with role := .isolated, isolation := some r } }

theorem witness_transferBackTimesOut_keStuck :
    let s := accepting (isolated .keStuck) (.ke .p4) .activeLow
    s.phase ≠ .held ∧ Settled s ∧ NoCandidates s ∧ (s.sit.get .p4).role = .isolated ∧ (s.sit.get .p4).onBus = false
      ∧ (s.sit.get .p4).isolation = some .keStuck ∧ OnlyAccepts s (highAt (.ke .p4)) (.ke .p4) .edge .inactive
      ∧ presents s (.kf .p4) ≠ .active ∧ holder s .p4 = none :=
  ⟨by decide, rfl, ⟨rfl, rfl⟩, rfl, rfl, rfl, accepts _ _ _, by decide, by decide⟩

theorem witness_transferBackTimesOut_kfStuck :
    let s := accepting (isolated .kfStuck) (.kf .p4) .activeHigh
    s.phase ≠ .held ∧ Settled s ∧ NoCandidates s ∧ (s.sit.get .p4).role = .isolated ∧ (s.sit.get .p4).onBus = false
      ∧ (s.sit.get .p4).isolation = some .kfStuck ∧ OnlyAccepts s (highAt (.kf .p4)) (.kf .p4) .edge .active
      ∧ s.out.kf.get .p4 = .closed ∧ s.cfg.fitted.testBit (Pos.num .p4 - 1) = true ∧ ChannelsIdle s :=
  ⟨by decide, rfl, ⟨rfl, rfl⟩, rfl, rfl, rfl, accepts _ _ _, rfl, by decide, ⟨rfl, rfl⟩⟩

theorem witness_transferBackTimesOut :
    let s := waiting .transferBack .ke .opened .opened
    (s.chan.get .a).stage = .transferBack ∧ (s.chan.get .a).ctx = some round ∧ (s.chan.get .a).call = none
      ∧ (s.chan.get .a).wait = some { contactor := .ke, start := 0, limit := 800 } ∧ 0 + 800 ≤ s.base.sampleAt
      ∧ (s.chan.get (Ch.other .a)).stage = .idle ∧ round.waterDeferred = false ∧ s.restartAt = none
      ∧ s.queue.entries = [] ∧ s.held.entries = [] ∧ s.latches.stringIsolated = none ∧ Settled s :=
  by and_intros <;> rfl

theorem witness_rampStepRaisesDemand :
    let x : Context := { round with stageTimer := 300, k := 6 }
    let s := onA .ramp x
    (s.chan.get .a).stage = .ramp ∧ (s.chan.get .a).ctx = some x ∧ s.base.atSecond.rampStepMin * 60 ≤ x.stageTimer
      ∧ x.k < 255 ∧ Settled s ∧ 2370 = (s.comp.get x.string).floatMv + (x.k + 1) * s.cfg.rampStepMv
      ∧ 2370 < effectiveTarget s x := by and_intros <;> first | rfl | decide

theorem witness_holdMinuteCounts :
    let x : Context := { round with holdSec := 60, winMin := 28, holdMin := 478 }
    let s := onA .hold x
    (s.chan.get .a).stage = .hold ∧ (s.chan.get .a).ctx = some x ∧ 60 ≤ x.holdSec
      ∧ x.winMin + 1 < s.cfg.flatWindowMin ∧ s.perm.ventFailed = false ∧ Settled s
      ∧ x.holdMin + 1 < x.holdLimit := by and_intros <;> first | rfl | decide

theorem witness_holdMinuteCounts_limit :
    let x : Context := { round with holdSec := 60, winMin := 28, holdMin := 479 }
    let s := onA .hold x
    (s.chan.get .a).stage = .hold ∧ (s.chan.get .a).ctx = some x ∧ 60 ≤ x.holdSec
      ∧ x.winMin + 1 < s.cfg.flatWindowMin ∧ s.perm.ventFailed = false ∧ Settled s
      ∧ x.holdLimit ≤ x.holdMin + 1 := by and_intros <;> first | rfl | decide

theorem witness_flatnessAndRunaway_within :
    let x : Context := { round with prevAvg := some 70 }
    x.prevAvg = some 70 ∧ ((75 : Nat) - 70 : Int).natAbs ≤ up.cfg.flatDelta := by and_intros <;> rfl

theorem witness_flatnessAndRunaway_beyond :
    let x : Context := { round with prevAvg := some 70 }
    x.prevAvg = some 70 ∧ up.cfg.flatDelta < ((64 : Nat) - 70 : Int).natAbs :=
  by and_intros <;> first | rfl | decide

theorem witness_flatnessAndRunaway_seed :
    round.prevAvg = none := rfl

/-- A part with the cells 1 to n of string 1 in its Weak Cell List. -/
def weakened (n : Nat) : State :=
  { up with weak :=
    { entries := (List.range n).map fun i =>
        { string := .p1, cell := i + 1, first := { time := 0, valid := true }, deficit := 90, windows := 1 }
      gen := 1 } }

theorem witness_flatnessAndRunaway_updated :
    ∃ e ∈ (weakened 1).weak.entries, e.string = .p1 ∧ e.cell = 1 := ⟨_, List.mem_singleton.mpr rfl, rfl, rfl⟩

theorem witness_flatnessAndRunaway_new :
    let s := weakened 31
    (∀ e ∈ s.weak.entries, e.string = .p2 → e.cell ≠ 1) ∧ s.weak.entries.length < 32 ∧ s.latches.weakCell = none :=
  by and_intros <;> first | rfl | decide

theorem witness_flatnessAndRunaway_full :
    let s := weakened 32
    (∀ e ∈ s.weak.entries, e.string = .p2 → e.cell ≠ 1) ∧ 32 ≤ s.weak.entries.length ∧ s.latches.weakCell = none :=
  by and_intros <;> first | rfl | decide

/-- A context whose settle has lasted SETTLE_MIN. -/
def settledContext (k : Kind) : Context := { round with kind := k, stageTimer := 1800 }

theorem witness_settleEndsTheStage_return :
    let x := settledContext .equalise
    let s := onA .settle x
    (s.chan.get .a).stage = .settle ∧ (s.chan.get .a).ctx = some x ∧ s.base.atSecond.settleMin * 60 ≤ x.stageTimer
      ∧ s.perm.ventFailed = false ∧ Settled s ∧ x.kind = .equalise ∧ s.out.ke.get x.string = .closed
      ∧ presents s (.ke x.string) ≠ .inactive := by and_intros <;> first | rfl | decide

theorem witness_settleEndsTheStage_water :
    let x := settledContext .equaliseThenWater
    let s := onA .settle x
    (s.chan.get .a).stage = .settle ∧ (s.chan.get .a).ctx = some x ∧ s.base.atSecond.settleMin * 60 ≤ x.stageTimer
      ∧ s.perm.ventFailed = false ∧ Settled s ∧ x.kind = .equaliseThenWater
      ∧ (s.hist.get x.string).waterLock = none ∧ s.line.stage = .free ∧ s.line.waiting = []
      ∧ presents s .resLow ≠ .active := by and_intros <;> first | rfl | decide

theorem witness_waitingCallGivesUp :
    let k : Call := { Call.pushed with waitSec := 3600 }
    let s : State :=
      { lineIn .dosing .p3 { Line.reset with waiting := [.a] } with
        chan := (onA .water round).chan.set .a { (onA .water round).chan.a with call := some k }
        out := (onA .water round).out }
    (s.chan.get .a).stage = .water ∧ (s.chan.get .a).ctx = some round ∧ (s.chan.get .a).call = some k
      ∧ k.serving = false ∧ s.base.atSecond.pumpWaitMin * 60 ≤ k.waitSec ∧ s.out.ke.get round.string = .closed
      ∧ presents s (.ke round.string) ≠ .inactive ∧ s.perm.ventFailed = false ∧ Settled s :=
  by and_intros <;> first | rfl | decide

theorem witness_ageMinuteCounts :
    let x : Context := { round with ageSec := 60 }
    let s := onA .hold x
    holder s .p1 = some .a ∧ (s.chan.get .a).ctx = some x ∧ 60 ≤ x.ageSec := by and_intros <;> rfl

/-- A part that holds one context of string 1, of an age in minutes. -/
def holding (age : Nat) : State :=
  { up with
    held :=
      { entries :=
          [{ ctx := { round with ageMin := age, ageSec := 60, susp := 1 }, cause := .supply,
             since := { time := 0, valid := true } }]
        gen := 1 }
    sit := up.sit.set .p1 { up.sit.p1 with role := .held } }

theorem witness_ageMinuteCounts_held :
    let x : Context := { round with ageMin := 4318, ageSec := 60, susp := 1 }
    let h : Held := { ctx := x, cause := .supply, since := { time := 0, valid := true } }
    let s := holding 4318
    holder s .p1 = none ∧ s.held.entries = [h] ∧ h.ctx.string = .p1 ∧ 60 ≤ h.ctx.ageSec ∧ Settled s
      ∧ min 65535 (h.ctx.ageMin + 1) < s.cfg.roundSpanH * 60 := by and_intros <;> first | rfl | decide

theorem witness_ageMinuteCounts_expired :
    let x : Context := { round with ageMin := 4319, ageSec := 60, susp := 1 }
    let h : Held := { ctx := x, cause := .supply, since := { time := 0, valid := true } }
    let s := holding 4319
    holder s .p1 = none ∧ s.held.entries = [h] ∧ h.ctx.string = .p1 ∧ 60 ≤ h.ctx.ageSec ∧ Settled s
      ∧ s.cfg.roundSpanH * 60 ≤ min 65535 (h.ctx.ageMin + 1) ∧ s.latches.roundExpired = none :=
  by and_intros <;> rfl

theorem witness_ageMinuteCounts_younger :
    let x : Context := { round with ageMin := 4319, ageSec := 60 }
    let h : Held := { ctx := x, cause := .supply, since := { time := 2, valid := true } }
    let g : Held := { ctx := { x with string := .p3 }, cause := .vent, since := { time := 1, valid := true } }
    let s : State := { up with held := { entries := [g, h], gen := 2 } }
    holder s .p1 = none ∧ s.held.entries = [g, h] ∧ h.ctx.string = .p1 ∧ g.ctx.string ≠ .p1 ∧ 60 ≤ h.ctx.ageSec
      ∧ g.ctx.ageSec = h.ctx.ageSec ∧ s.cfg.roundSpanH * 60 ≤ min 65535 (h.ctx.ageMin + 1)
      ∧ s.cfg.roundSpanH * 60 ≤ min 65535 (g.ctx.ageMin + 1) := by and_intros <;> first | rfl | decide

/-- The channel A waits for step 3 of the return of a round that is suspended, after some suspensions, with some
held contexts of other strings. -/
def suspending (susp held : Nat) : State :=
  let s := waiting .transferBack .kf .closed .opened
  { s with
    chan := s.chan.set .a { s.chan.a with
      ctx := some { round with susp := susp, exit := some (.suspended .supply), outcome := none } }
    held :=
      { entries := ([Pos.p2, .p3, .p4, .p5].take held).map fun p =>
          { ctx := { round with string := p, susp := 1 }, cause := .supply, since := { time := 0, valid := true } },
        gen := held } }

theorem witness_ageMinuteCounts_suspended :
    let x : Context := { round with susp := 5, exit := some (.suspended .supply), outcome := none }
    let s := accepting (suspending 5 3) (.kf .p1) .activeHigh
    s.phase ≠ .held ∧ Settled s ∧ OnlyAccepts s (highAt (.kf .p1)) (.kf x.string) .edge .active
      ∧ (s.chan.get .a).stage = .transferBack ∧ (s.chan.get .a).ctx = some x ∧ (s.chan.get .a).call = none
      ∧ (s.chan.get .a).wait = some { contactor := .kf, start := 0, limit := 800 }
      ∧ (s.chan.get (Ch.other .a)).stage = .idle ∧ x.exit = some (.suspended .supply) ∧ x.waterDeferred = false
      ∧ s.out.kf.get x.string = .closed ∧ s.cfg.fitted.testBit (x.string.num - 1) = true
      ∧ (s.sit.get x.string).role = .equalising ∧ (s.sit.get x.string).onBus = false
      ∧ s.supply.surplus = false ∧ s.queue.entries = [] ∧ x.susp + 1 ≤ s.cfg.suspendMax
      ∧ s.held.entries.length < 4 :=
  ⟨by decide, rfl, accepts _ _ _, rfl, rfl, rfl, rfl, rfl, rfl, rfl, rfl, by decide, rfl, rfl, rfl, rfl, by decide,
    by decide⟩

theorem witness_ageMinuteCounts_tooManySuspensions :
    let s := accepting (suspending 6 3) (.kf .p1) .activeHigh
    s.cfg.suspendMax < 6 + 1 ∧ s.latches.roundExpired = none
      ∧ OnlyAccepts s (highAt (.kf .p1)) (.kf .p1) .edge .active := ⟨by decide, rfl, accepts _ _ _⟩

theorem witness_ageMinuteCounts_listFull :
    let s := accepting (suspending 5 4) (.kf .p1) .activeHigh
    4 ≤ s.held.entries.length ∧ OnlyAccepts s (highAt (.kf .p1)) (.kf .p1) .edge .active :=
  ⟨by decide, accepts _ _ _⟩

/-- A part at a minute evaluation that holds one context, which passes every test. -/
def resuming : State :=
  let s := holding 10
  { s with
    base := { s.base with minuteSec := 60 },
    supply := { s.supply with surplus := true }
    inp := { s.inp with h2Alarm := shows .inactive }
    temps := { s.temps with pilots := s.temps.pilots.set .p1 (convert .reset 57600 48000) }
    sit :=
      Eight.set (Eight.set (Eight.set s.sit .p1
        { s.sit.p1 with onBus := true, senseCell := .none, sensePilot := .none }) .p2
        { s.sit.p2 with onBus := true }) .p3 { s.sit.p3 with onBus := true } }

theorem witness_ageMinuteCounts_resumed :
    let x : Context := { round with ageMin := 10, ageSec := 60, susp := 1 }
    let h : Held := { ctx := x, cause := .supply, since := { time := 0, valid := true } }
    let s := resuming
    60 ≤ s.base.minuteSec ∧ s.restartAt = none ∧ Settled s ∧ s.queue.entries = [] ∧ s.held.entries = [h]
      ∧ equaliseBlocked s h.ctx.string h.ctx.kind .held none = .none ∧ freeChannel s = some .a
      ∧ busShown (presents s (.ks h.ctx.string)) ≠ some .a :=
  ⟨by decide, rfl, rfl, rfl, rfl, by decide, by decide, by decide⟩

/-- A part whose permissions stand as given. -/
def permitted (p : Permissions) : State := { up with perm := p }

theorem witness_fanTimersExpire_runOn :
    let s := permitted { Permissions.reset with runOn := some 1800, fan := true }
    s.perm.runOn = some 1800 ∧ 0 < 1800 ∧ s.base.atSecond.purgeMin * 60 ≤ 1800 ∧ s.perm.gassing = 0 ∧ s.perm.h2Active = false
      ∧ s.perm.purge = none ∧ s.perm.fan = true ∧ s.perm.ventFailed = false ∧ Settled s :=
  by and_intros <;> first | rfl | decide

theorem witness_fanTimersExpire_purge :
    let s := permitted { Permissions.reset with purge := some 1800, fan := true }
    s.perm.purge = some 1800 ∧ 0 < 1800 ∧ s.base.atSecond.purgeMin * 60 ≤ 1800 ∧ s.perm.gassing = 0 ∧ s.perm.h2Active = false
      ∧ s.perm.runOn = none ∧ s.perm.fan = true ∧ s.perm.ventFailed = false ∧ s.queue.entries = []
      ∧ s.held.entries = [] ∧ Settled s := by and_intros <;> first | rfl | decide

theorem witness_fanTimersExpire_h2 :
    let s := accepting up .h2Alarm .activeHigh
    s.phase ≠ .held ∧ Settled s ∧ s.perm.ventFailed = false ∧ s.latches.h2Alarm = none
      ∧ OnlyAccepts s (highAt .h2Alarm) .h2Alarm .edge .active ∧ s.perm.h2Active = false ∧ ChannelsIdle s
      ∧ s.line.stage = .free ∧ s.perm.fan = false :=
  ⟨by decide, rfl, rfl, rfl, accepts _ _ _, rfl, ⟨rfl, rfl⟩, rfl, rfl⟩

theorem witness_fanTimersExpire_h2_running :
    let s := accepting
      { onA .hold round with line := { Line.reset with stage := .pause, owner := some .round, string := some .p3 } }
      .h2Alarm .activeHigh
    s.phase ≠ .held ∧ Settled s ∧ s.perm.ventFailed = false ∧ s.latches.h2Alarm = none
      ∧ OnlyAccepts s (highAt .h2Alarm) .h2Alarm .edge .active ∧ s.perm.h2Active = false
      ∧ (s.chan.get .a).stage = .hold ∧ (s.chan.get .a).ctx = some round ∧ (s.chan.get (Ch.other .a)).stage = .idle
      ∧ s.out.ke.get round.string = .closed ∧ presents s (.ke round.string) ≠ .inactive
      ∧ s.line.owner = some .round ∧ s.line.stage.dispensing = true ∧ s.line.string = some .p3
      ∧ s.out.fan = s.perm.fan :=
  ⟨by decide, rfl, rfl, rfl, accepts _ _ _, rfl, rfl, rfl, rfl, rfl, by decide, rfl, rfl, rfl, rfl⟩

theorem witness_fanTimersExpire_h2_ends :
    let s := accepting (permitted { Permissions.reset with h2Active := true, fan := true }) .h2Alarm .activeLow
    s.phase ≠ .held ∧ Settled s ∧ OnlyAccepts s (highAt .h2Alarm) .h2Alarm .edge .inactive
      ∧ s.perm.h2Active = true ∧ s.perm.fan = true := ⟨by decide, rfl, accepts _ _ _, rfl, rfl⟩

theorem witness_fanTimersExpire_h2_first :
    let s := accepting up .h2Alarm .activeLow
    s.phase ≠ .held ∧ Settled s ∧ OnlyAccepts s (highAt .h2Alarm) .h2Alarm .edge .inactive
      ∧ s.perm.h2Active = false := ⟨by decide, rfl, accepts _ _ _, rfl⟩

theorem witness_permissionTimersAct_grace :
    let s : State := { onA .hold round with perm := { Permissions.reset with grace := some 300 } }
    s.perm.grace = some 300 ∧ 0 < 300 ∧ s.base.atSecond.supplyGraceMin * 60 ≤ 300 ∧ (s.chan.get .a).stage = .hold
      ∧ (s.chan.get .a).ctx = some round ∧ (s.chan.get (Ch.other .a)).stage = .idle
      ∧ s.out.ke.get round.string = .closed ∧ presents s (.ke round.string) ≠ .inactive
      ∧ s.perm.ventFailed = false ∧ Settled s := by and_intros <;> first | rfl | decide

theorem witness_permissionTimersAct_graceStarts :
    (permitted { Permissions.reset with grace := some 0 }).perm.grace = some 0 := rfl

theorem witness_permissionTimersAct_lowSpeed :
    let s := permitted { Permissions.reset with lowSpeed := some 10, fan := true }
    s.perm.lowSpeed = some 10 ∧ 10 ≤ 10 ∧ s.perm.ventFailed = false ∧ s.chan.a.stage = .idle
      ∧ s.chan.b.stage = .idle ∧ s.latches.ventFail = none ∧ Settled s := by and_intros <;> rfl

theorem witness_permissionTimersAct_recovery :
    let s := permitted
      { Permissions.reset with recovery := some 60, fan := true, ventFailed := true, speed := 900 }
    s.perm.recovery = some 60 ∧ 60 ≤ 60 ∧ s.perm.ventFailed = true ∧ s.perm.fan = true
      ∧ s.cfg.fanMinRpm ≤ s.perm.speed ∧ s.queue.entries = [] ∧ s.held.entries = [] ∧ Settled s :=
  by and_intros <;> rfl

theorem witness_lineStagesAreTimed_priming :
    let s := lineIn .priming .p3 { Line.reset with timer := 2, doses := 254 }
    s.line.stage = .priming ∧ 2 ≤ s.line.timer ∧ s.line.doses < 255 ∧ Settled s :=
  by and_intros <;> first | rfl | decide

theorem witness_lineStagesAreTimed_pause :
    let s := lineIn .pause .p3 { Line.reset with timer := 15, doses := 254 }
    s.line.stage = .pause ∧ s.base.atSecond.dosePauseS ≤ s.line.timer ∧ s.line.doses < 255 ∧ Settled s :=
  by and_intros <;> first | rfl | decide

theorem witness_lineStagesAreTimed_noFlow :
    let s := lineIn .dosing .p3 { Line.reset with timer := 30 }
    s.line.stage = .dosing ∧ s.line.string = some .p3 ∧ s.line.pulses = 0 ∧ s.base.atSecond.primeS ≤ s.line.timer
      ∧ Settled s := by and_intros <;> rfl

theorem witness_lineStagesAreTimed_filled :
    let s : State :=
      { lineIn .dosing .p3 { Line.reset with timer := 72, pulses := 244, flowRef := some 88 } with
        base := { up.base with runSec := 148 } }
    s.line.stage = .dosing ∧ s.line.string = some .p3 ∧ 0 < s.line.pulses ∧ s.line.flowRef = some 88
      ∧ s.base.atSecond.flowStopS ≤ s.base.runSec - max 88 (s.base.runSec - s.line.timer) ∧ Settled s :=
  by and_intros <;> first | rfl | decide

theorem witness_lineStagesAreTimed_empty :
    let s := accepting (lineIn .pause .p3 .reset) .resLow .activeHigh
    s.phase ≠ .held ∧ Settled s ∧ NoCandidates s ∧ OnlyAccepts s (highAt .resLow) .resLow .edge .active
      ∧ s.line.stage.dispensing = true ∧ s.line.string = some .p3 ∧ s.latches.reservoirEmpty = none :=
  ⟨by decide, rfl, ⟨rfl, rfl⟩, accepts _ _ _, rfl, rfl, rfl⟩

theorem witness_lineStagesAreTimed_empty_closing :
    let s := accepting (lineIn .closing .p3 .reset) .resLow .activeHigh
    s.phase ≠ .held ∧ Settled s ∧ NoCandidates s ∧ OnlyAccepts s (highAt .resLow) .resLow .edge .active
      ∧ s.line.stage.dispensing = false := ⟨by decide, rfl, ⟨rfl, rfl⟩, accepts _ _ _, rfl⟩

/-- A standalone round's identity, as in section 8.11. -/
def topUp : RoundIdentity := { tag := 55, origin := .autoLevel, first := { time := 0, valid := true } }

theorem witness_closingHandsOn_round :
    let s := lineIn .closing .p3
      { Line.reset with timer := 2, owner := some .round, identity := some topUp, outcome := some .filled }
    s.line.stage = .closing ∧ 2 ≤ s.line.timer ∧ s.line.owner = some .round ∧ s.line.string = some .p3
      ∧ s.line.identity = some topUp ∧ s.line.outcome = some .filled ∧ s.line.waiting = [] ∧ s.restartAt = none
      ∧ s.queue.entries = [] ∧ s.held.entries = [] ∧ Settled s := by and_intros <;> rfl

theorem witness_closingHandsOn_manual :
    let d : ManualDose := { tag := 9, target := 500 }
    let s := asking (lineIn .closing .p3
      { Line.reset with timer := 2, owner := some .host, dose := some d, outcome := some .delivered }) (frame 1 [])
    s.line.stage = .closing ∧ 2 ≤ s.line.timer ∧ s.line.owner = some .host ∧ s.line.string = some .p3
      ∧ s.line.dose = some d ∧ s.line.outcome = some .delivered ∧ s.line.claimEnded = false
      ∧ s.link.outbound.length < 8 ∧ Settled s := by and_intros <;> first | rfl | decide

theorem witness_closingHandsOn_doseEnd :
    let d : DoseEnd := { tag := 9, string := .p3, target := 500, ml := 500, pulses := 100, outcome := .delivered }
    let s : State := { asking up (frame 1 []) with line := { Line.reset with pendingEnd := some d } }
    s.line.pendingEnd = some d ∧ s.link.outbound.length < 8 := by and_intros <;> first | rfl | decide

/-- A round's dosing of string 3 before a pulse. -/
def dosing (o : Owner) (ml doseMl : Nat) (d : Option ManualDose) : State :=
  lineIn .dosing .p3 { Line.reset with owner := some o, ml := ml, doseMl := doseMl, dose := d }

theorem witness_pulsesMeetTheirTests_overvolume :
    let s := dosing .round 7995 400 none
    s.line.stage = .dosing ∧ s.line.string = some .p3 ∧ s.line.outcome = none
      ∧ (8000 : Nat) = min 65535 (s.line.ml + s.cfg.flowMlPerPulse)
      ∧ (405 : Nat) = min 65535 (s.line.doseMl + s.cfg.flowMlPerPulse) ∧ s.line.owner ≠ some .host
      ∧ s.cfg.waterMaxMl ≤ 8000 :=
  by and_intros <;> first | rfl | decide

theorem witness_pulsesMeetTheirTests_dose :
    let s := dosing (.call .a) 7990 495 none
    s.line.stage = .dosing ∧ s.line.string = some .p3 ∧ s.line.outcome = none
      ∧ (7995 : Nat) = min 65535 (s.line.ml + s.cfg.flowMlPerPulse)
      ∧ (500 : Nat) = min 65535 (s.line.doseMl + s.cfg.flowMlPerPulse) ∧ s.line.owner ≠ some .host
      ∧ 7995 < s.cfg.waterMaxMl ∧ s.cfg.doseMl ≤ 500 :=
  by and_intros <;> first | rfl | decide

theorem witness_pulsesMeetTheirTests_counted :
    let s := dosing .round 7990 490 none
    s.line.stage = .dosing ∧ s.line.string = some .p3 ∧ s.line.outcome = none
      ∧ (7995 : Nat) = min 65535 (s.line.ml + s.cfg.flowMlPerPulse)
      ∧ (495 : Nat) = min 65535 (s.line.doseMl + s.cfg.flowMlPerPulse) ∧ s.line.owner ≠ some .host
      ∧ 7995 < s.cfg.waterMaxMl ∧ 495 < s.cfg.doseMl :=
  by and_intros <;> first | rfl | decide

theorem witness_pulsesMeetTheirTests_delivered :
    let s := dosing .host 495 495 (some { tag := 9, target := 500 })
    s.line.stage = .dosing ∧ s.line.string = some .p3 ∧ s.line.outcome = none
      ∧ (500 : Nat) = min 65535 (s.line.ml + s.cfg.flowMlPerPulse)
      ∧ (500 : Nat) = min 65535 (s.line.doseMl + s.cfg.flowMlPerPulse) ∧ s.line.owner = some .host
      ∧ s.line.dose = some { tag := 9, target := 500 } ∧ 500 ≤ 500 :=
  by and_intros <;> rfl

theorem witness_pulsesMeetTheirTests_manual :
    let s := dosing .host 490 490 (some { tag := 9, target := 500 })
    s.line.stage = .dosing ∧ s.line.string = some .p3 ∧ s.line.outcome = none
      ∧ (495 : Nat) = min 65535 (s.line.ml + s.cfg.flowMlPerPulse)
      ∧ (495 : Nat) = min 65535 (s.line.doseMl + s.cfg.flowMlPerPulse) ∧ s.line.owner = some .host
      ∧ s.line.dose = some { tag := 9, target := 500 } ∧ 495 < 500 :=
  by and_intros <;> first | rfl | decide

theorem witness_framesArriveAsSent :
    let f := frame 0x02 (List.replicate 59 0x7E)
    let s : State :=
      { up with
        link := { up.link with inbound := List.replicate 3 (frame 1 []) }
        pending := f.bytes.map Instr.receivedByte }
    s.phase = .ready ∧ s.link.framer.state = .hunt ∧ f.body.length ≤ 59 ∧ s.link.inbound.length < 4
      ∧ s.pending = f.bytes.map Instr.receivedByte := ⟨rfl, rfl, by decide, by decide, rfl⟩

/-- A ready part whose framer stands as given, with some frames waiting. -/
def framing (r : Framer) (n : Nat) : State :=
  { up with link := { up.link with framer := r, inbound := List.replicate n (frame 1 []) } }

theorem witness_framerActs_hunt :
    (framing Framer.hunting 0).phase = .ready ∧ (framing Framer.hunting 0).link.framer.state = .hunt :=
  by and_intros <;> rfl

theorem witness_framerActs_length :
    let s := framing { state := .length, len := 0, bytes := [] } 0
    s.phase = .ready ∧ s.link.framer.state = .length ∧ 5 ≤ (0x05 : Byte).toNat ∧ (0x40 : Byte).toNat ≤ 64
      ∧ (0x04 : Byte).toNat < 5 ∧ 64 < (0x41 : Byte).toNat ∧ s.latches.linkError = none :=
  by and_intros <;> first | rfl | decide

/-- The framer before the last CRC byte of an Identify frame with TAG 7. -/
def lastAwaited (c : Byte) : Framer := { state := .check, len := 5, bytes := [7, 1] ++ [c] }

theorem witness_framerActs_appended :
    let s := framing (lastAwaited 0xAE) 3
    s.phase = .ready ∧ s.link.framer = { state := .check, len := ([] : List Byte).length + 5, bytes := 7 :: 1 :: [] ++ [0xAE] }
      ∧ s.latches.linkError = none ∧ [0xAE, 0xDA] = crcBytes (crc16 [5, 7, 1]) ∧ s.link.inbound.length < 4 :=
  by and_intros <;> decide +kernel

theorem witness_framerActs_crc :
    let s := framing (lastAwaited 0xAE) 0
    s.phase = .ready ∧ s.link.framer = { state := .check, len := ([] : List Byte).length + 5, bytes := 7 :: 1 :: [] ++ [0xAE] }
      ∧ s.latches.linkError = none ∧ [0xAE, 0xDB] ≠ crcBytes (crc16 [5, 7, 1]) :=
  by and_intros <;> decide +kernel

theorem witness_framerActs_overrun :
    let s := framing (lastAwaited 0xAE) 4
    s.phase = .ready ∧ s.link.framer = { state := .check, len := ([] : List Byte).length + 5, bytes := 7 :: 1 :: [] ++ [0xAE] }
      ∧ s.latches.linkError = none ∧ [0xAE, 0xDA] = crcBytes (crc16 [5, 7, 1]) ∧ 4 ≤ s.link.inbound.length :=
  by and_intros <;> decide +kernel

/-- A latch's detail with its notice pending. -/
def pendingDetail : LatchDetail :=
  { string := 3, value := 840, captured := some .high, time := { time := 0, valid := true }, again := 0,
    pending := true }

/-- The latches of higher priority hold a notice that has been placed and one that its enable masks. -/
theorem witness_messagesArePlaced_notice :
    let s : State :=
      { asking up (frame 1 []) with
        master := true
        store := { up.store with working := { Settings.default with noticeEnables := 65535 - 8 } }
        latches :=
          { Latches.reset with
            h2Alarm := some { pendingDetail with pending := false }
            ventFail := some pendingDetail, reservoirEmpty := some pendingDetail } }
    s.link.outbound.length < 8 ∧ Sendable s .reservoirEmpty pendingDetail
      ∧ ∀ (e : Condition) (d : LatchDetail), e.num < Condition.num .reservoirEmpty → ¬ Sendable s e d :=
  ⟨by decide, ⟨rfl, rfl, .inr ⟨rfl, by decide⟩⟩, fun e d h k => by
    obtain ⟨k, m, o⟩ := k
    cases e <;> first | exact absurd h (by decide) | cases k <;> revert m o <;> decide⟩

theorem witness_messagesArePlaced_nonMaskable :
    let s : State :=
      { asking up (frame 1 []) with latches := { Latches.reset with runaway := some pendingDetail } }
    s.link.outbound.length < 8 ∧ Sendable s .runaway pendingDetail
      ∧ ∀ (e : Condition) (d : LatchDetail), e.num < Condition.num .runaway → ¬ Sendable s e d :=
  ⟨by decide, ⟨rfl, rfl, .inl (by decide)⟩, fun e d h k => by
    obtain ⟨k, -⟩ := k
    cases e <;> first | exact absurd h (by decide) | cases k⟩

/-- A part with one record in its ring and a transfer. -/
def transferring (left : Nat) : State :=
  { up with
    link := { up.link with outbound := List.replicate 6 (frame 0xE0 []) }
    log :=
      { ring := [{ recoveredRecord .p1 ⟨.water, ⟨0, false⟩⟩ with seq := 41 }], nextSeq := 42
        transfer := some { tag := 71, n := 1, next := 41, left := left, sent := 1 - left } } }

theorem witness_messagesArePlaced_record :
    let s := transferring 1
    let t : Transfer := { tag := 71, n := 1, next := 41, left := 1, sent := 0 }
    s.log.transfer = some t ∧ 0 < t.left ∧ s.link.outbound.length ≤ 6
      ∧ s.log.ring.find? (fun q => q.seq == t.next) =
          some { recoveredRecord .p1 ⟨.water, ⟨0, false⟩⟩ with seq := 41 } :=
  by and_intros <;> first | rfl | decide

theorem witness_messagesArePlaced_end :
    let s := transferring 0
    let t : Transfer := { tag := 71, n := 1, next := 41, left := 0, sent := 1 }
    s.log.transfer = some t ∧ t.left = 0 ∧ s.link.outbound.length ≤ 6 := by and_intros <;> rfl

theorem witness_reportsChangeNothing_identify :
    let f := frame 0x01 []
    Taking (asking up f) f [] ∧ f.kind = 0x01 ∧ f.body = [] := ⟨taking_asking up _ rfl rfl rfl, rfl, rfl⟩

theorem witness_reportsChangeNothing_status :
    let f := frame 0x02 [3]
    Taking (asking up f) f [] ∧ f.kind = 0x02 ∧ f.body = [3] := ⟨taking_asking up _ rfl rfl rfl, rfl, rfl⟩

theorem witness_reportsChangeNothing_string :
    let f := frame 0x04 [8]
    Taking (asking up f) f [] ∧ f.kind = 0x04 ∧ f.body = [8] ∧ f.body = [BitVec.ofNat 8 (Pos.num .p8)] :=
  ⟨taking_asking up _ rfl rfl rfl, rfl, rfl, by decide⟩

theorem witness_reportsChangeNothing_cells :
    let f := frame 0x05 [4, 1]
    Taking (asking up f) f [] ∧ f.kind = 0x05 ∧ f.body = [4, 1]
      ∧ f.body = [BitVec.ofNat 8 (Pos.num .p4), 1] ∧ up.cfg.fitted.testBit (Pos.num .p4 - 1) = true :=
  ⟨taking_asking up _ rfl rfl rfl, rfl, rfl, by decide, by decide⟩

theorem witness_reportsChangeNothing_temperatures :
    let f := frame 0x06 [0]
    Taking (asking up f) f [] ∧ f.kind = 0x06 ∧ f.body = [0] := ⟨taking_asking up _ rfl rfl rfl, rfl, rfl⟩

theorem witness_reportsChangeNothing_temperatureDetail :
    let f := frame 0x06 [8]
    Taking (asking up f) f [] ∧ f.kind = 0x06 ∧ f.body = [8] ∧ f.body = [BitVec.ofNat 8 (Pos.num .p8)] :=
  ⟨taking_asking up _ rfl rfl rfl, rfl, rfl, by decide⟩

theorem witness_reportsChangeNothing_plant :
    let f := frame 0x07 []
    Taking (asking up f) f [] ∧ f.kind = 0x07 ∧ f.body = [] := ⟨taking_asking up _ rfl rfl rfl, rfl, rfl⟩

theorem witness_reportsChangeNothing_setting :
    let f := frame 0x09 [40]
    Taking (asking up f) f [] ∧ f.kind = 0x09 ∧ f.body = [40]
      ∧ f.body = [BitVec.ofNat 8 (SettingId.id .autoQueue)] ∧ SettingId.isSet .autoQueue = false :=
  ⟨taking_asking up _ rfl rfl rfl, rfl, rfl, by decide, rfl⟩

theorem witness_reportsChangeNothing_queue :
    let f := frame 0x0C [12]
    Taking (asking up f) f [] ∧ f.kind = 0x0C ∧ f.body = [12] ∧ (1 : Nat) ≤ 12 ∧ (12 : Nat) ≤ 12
      ∧ f.body = [BitVec.ofNat 8 12] :=
  ⟨taking_asking up _ rfl rfl rfl, rfl, rfl, by decide, by decide, rfl⟩

theorem witness_reportsChangeNothing_held :
    let f := frame 0x0D [0]
    Taking (asking up f) f [] ∧ f.kind = 0x0D ∧ f.body = [0] := ⟨taking_asking up _ rfl rfl rfl, rfl, rfl⟩

theorem witness_reportsChangeNothing_weak :
    let f := frame 0x13 [32]
    Taking (asking up f) f [] ∧ f.kind = 0x13 ∧ f.body = [32] ∧ (1 : Nat) ≤ 32 ∧ (32 : Nat) ≤ 32
      ∧ f.body = [BitVec.ofNat 8 32] :=
  ⟨taking_asking up _ rfl rfl rfl, rfl, rfl, by decide, by decide, rfl⟩

theorem witness_reportsChangeNothing_conditions :
    let f := frame 0x17 [16]
    Taking (asking up f) f [] ∧ f.kind = 0x17 ∧ f.body = [16]
      ∧ f.body = [BitVec.ofNat 8 (Condition.num .linkError)] :=
  ⟨taking_asking up _ rfl rfl rfl, rfl, rfl, by decide⟩

theorem witness_reportsChangeNothing_conditionSummary :
    let f := frame 0x17 [0]
    Taking (asking up f) f [] ∧ f.kind = 0x17 ∧ f.body = [0] := ⟨taking_asking up _ rfl rfl rfl, rfl, rfl⟩

theorem witness_reportsChangeNothing_heldDetail :
    let f := frame 0x0D [1]
    let s := asking (holding 0) f
    Taking s f [] ∧ f.kind = 0x0D ∧ f.body = [BitVec.ofNat 8 (0 + 1)] ∧ (0 : Nat) ≤ 3
      ∧ s.held.entries[0]? = some
          { ctx := { round with ageMin := 0, ageSec := 60, susp := 1 }, cause := .supply,
            since := { time := 0, valid := true } } :=
  ⟨taking_asking (holding 0) _ rfl rfl rfl, rfl, rfl, by decide, rfl⟩

/-- A part with a scan of string 1 in its table. -/
def scanned : State :=
  { up with scan := { up.scan with strings := up.scan.strings.set .p1 (Scan.reset.complete scan1) } }

theorem witness_packedRepliesFit :
    (scanned.scan.strings.get .p1).stats.isSome = true
      ∧ (scanned.scan.strings.get .p1).cells.length = 24 := by and_intros <;> rfl

theorem witness_clockIsSet :
    let f := frame 0x03 (u32 4294967295)
    Taking (asking up f) f [] ∧ f.kind = 0x03 ∧ 4294967295 < 4294967296 ∧ f.body = u32 4294967295 :=
  ⟨taking_asking up _ rfl rfl rfl, rfl, by decide, rfl⟩

/-- A Set Setting frame. -/
def setFrame (id value : Nat) : Frame := frame 0x08 (BitVec.ofNat 8 id :: u32 value)

/-- A part whose store is being written. -/
def writing : State := { up with store := { up.store with writeBusy := true, checksumOk := false } }

theorem witness_settingsAreSet_busy :
    let f := setFrame 35 61
    Taking (asking writing f) f [] ∧ f.kind = 0x08 ∧ SettingId.pumpWaitMin ∈ actsLater ∧ 61 < 4294967296
      ∧ f.body = BitVec.ofNat 8 (SettingId.id .pumpWaitMin) :: u32 61
      ∧ 61 = max (SettingId.low .pumpWaitMin) (min (SettingId.high .pumpWaitMin) 61)
      ∧ (asking writing f).store.writeBusy = true :=
  ⟨taking_asking writing _ rfl rfl rfl, rfl, by decide, by decide, rfl, rfl, rfl⟩

theorem witness_settingsAreSet_clamped :
    let f := setFrame 35 121
    Taking (asking up f) f [] ∧ f.kind = 0x08 ∧ SettingId.pumpWaitMin ∈ actsLater ∧ 121 < 4294967296
      ∧ f.body = BitVec.ofNat 8 (SettingId.id .pumpWaitMin) :: u32 121
      ∧ 120 = max (SettingId.low .pumpWaitMin) (min (SettingId.high .pumpWaitMin) 121)
      ∧ (asking up f).store.writeBusy = false ∧ 120 ≠ (asking up f).cfg.get .pumpWaitMin :=
  ⟨taking_asking up _ rfl rfl rfl, rfl, by decide, by decide, rfl, rfl, rfl, by decide⟩

theorem witness_settingsAreSet_same :
    let f := setFrame 35 60
    Taking (asking up f) f [] ∧ f.kind = 0x08 ∧ SettingId.pumpWaitMin ∈ actsLater ∧ 60 < 4294967296
      ∧ f.body = BitVec.ofNat 8 (SettingId.id .pumpWaitMin) :: u32 60
      ∧ 60 = max (SettingId.low .pumpWaitMin) (min (SettingId.high .pumpWaitMin) 60)
      ∧ (asking up f).store.writeBusy = false ∧ 60 = (asking up f).cfg.get .pumpWaitMin :=
  ⟨taking_asking up _ rfl rfl rfl, rfl, by decide, by decide, rfl, rfl, rfl, rfl⟩

theorem witness_settingsAreSet_unknownId :
    let f := setFrame 43 1
    Taking (asking up f) f [] ∧ f.kind = 0x08 ∧ 42 < (43 : Byte).toNat ∧ f.body = 43 :: u32 1 :=
  ⟨taking_asking up _ rfl rfl rfl, rfl, by decide, rfl⟩

theorem witness_settingsAreSet_writeEnd :
    writing.store.writeBusy = true := rfl

/-- A Set Setting of a value in range that is not the working one, asked of a ready part. -/
theorem sets_asking (s : State) (i : SettingId) (v : Nat) (h1 : s.phase = .ready) (h2 : s.restartAt = none)
    (h3 : Settled s) (h4 : s.store.writeBusy = false) (h5 : v < 4294967296)
    (h6 : i.isSet = false → i.low ≤ v ∧ v ≤ i.high) (h7 : v ≠ s.cfg.get i) :
    Sets (asking s (setFrame i.id v)) (setFrame i.id v) [] i v :=
  ⟨taking_asking s _ h1 h2 h3, rfl, h5, rfl, h4, h6, h7⟩

theorem witness_settingsAct_reserve :
    let s := asking up (setFrame 2 7)
    Sets s (setFrame 2 7) [] .reserve 7 ∧ ChannelsIdle s ∧ NoCandidates s :=
  ⟨sets_asking up .reserve 7 rfl rfl rfl rfl (by decide) (by decide) (by decide), ⟨rfl, rfl⟩, ⟨rfl, rfl⟩⟩

theorem witness_settingsAct_evaluation :
    let s := asking up (setFrame 26 1)
    Sets s (setFrame 26 1) [] .ventMaxGassing 1 ∧ NoCandidates s :=
  ⟨sets_asking up .ventMaxGassing 1 rfl rfl rfl rfl (by decide) (by decide) (by decide), ⟨rfl, rfl⟩⟩

theorem witness_settingsAct_autoQueue :
    Sets (asking up (setFrame 40 0)) (setFrame 40 0) [] .autoQueue 0 :=
  sets_asking up .autoQueue 0 rfl rfl rfl rfl (by decide) (by decide) (by decide)

theorem witness_settingsAct_setpoints :
    let s := asking (floating 3345) (setFrame 4 2300)
    Sets s (setFrame 4 2300) [] .floatCellMv 2300
      ∧ SettingId.floatCellMv ∈ [SettingId.eqCellMv, .floatCellMv, .tcomp, .compLo, .compHi] ∧ ChannelsIdle s :=
  ⟨sets_asking (floating 3345) .floatCellMv 2300 rfl rfl rfl rfl (by decide) (by decide) (by decide), by decide,
    ⟨rfl, rfl⟩⟩

theorem witness_settingsAct_limit :
    Sets (asking (onA .ramp round) (setFrame 8 1000)) (setFrame 8 1000) [] .eqIlimit 1000 :=
  sets_asking (onA .ramp round) .eqIlimit 1000 rfl rfl rfl rfl (by decide) (by decide) (by decide)

theorem witness_settingsAct_flatCount :
    Sets (asking (onA .hold { round with flat := 2 }) (setFrame 13 2)) (setFrame 13 2) [] .flatCount 2 :=
  sets_asking (onA .hold { round with flat := 2 }) .flatCount 2 rfl rfl rfl rfl (by decide) (by decide) (by decide)

theorem witness_settingsAct_suspendMax :
    let s : State :=
      { holding 0 with held := { entries := (holding 0).held.entries.map fun h => { h with ctx := { h.ctx with susp := 2 } }, gen := 1 } }
    Sets (asking s (setFrame 22 1)) (setFrame 22 1) [] .suspendMax 1 ∧ s.held.entries.map (·.ctx.susp) = [2]
      ∧ s.latches.roundExpired = none
      ∧ Sets (asking s (setFrame 22 2)) (setFrame 22 2) [] .suspendMax 2 :=
  ⟨sets_asking _ .suspendMax 1 rfl rfl rfl rfl (by decide) (by decide) (by decide), rfl, rfl,
    sets_asking _ .suspendMax 2 rfl rfl rfl rfl (by decide) (by decide) (by decide)⟩

theorem witness_settingsAct_reservoirCap :
    let s := asking up (setFrame 36 15000)
    Sets s (setFrame 36 15000) [] .reservoirCapMl 15000 ∧ s.cfg.reservoirLowMl ≤ min s.reservoir.account 15000 :=
  ⟨sets_asking up .reservoirCapMl 15000 rfl rfl rfl rfl (by decide) (by decide) (by decide), by decide⟩

theorem witness_settingsAct_reservoirLow :
    let s := asking up (setFrame 37 50000)
    Sets s (setFrame 37 50000) [] .reservoirLowMl 50000 ∧ 50000 ≤ s.reservoir.account :=
  ⟨sets_asking up .reservoirLowMl 50000 rfl rfl rfl rfl (by decide) (by decide) (by decide), by decide⟩

theorem witness_settingsAct_fan :
    let s := asking (permitted { Permissions.reset with fan := true, speed := 900 }) (setFrame 27 901)
    Sets s (setFrame 27 901) [] .fanMinRpm 901 ∧ s.perm.ventFailed = false ∧ s.perm.fan = true ∧ s.perm.speed < 901 :=
  ⟨sets_asking _ .fanMinRpm 901 rfl rfl rfl rfl (by decide) (by decide) (by decide), rfl, rfl, by decide⟩

theorem witness_settingsAct_fan_failed :
    let s := asking (permitted { Permissions.reset with fan := true, speed := 899, ventFailed := true }) (setFrame 27 899)
    Sets s (setFrame 27 899) [] .fanMinRpm 899 ∧ s.perm.ventFailed = true ∧ s.perm.fan = true ∧ 899 ≤ s.perm.speed :=
  ⟨sets_asking _ .fanMinRpm 899 rfl rfl rfl rfl (by decide) (by decide) (by decide), rfl, rfl, by decide⟩

theorem witness_settingsAct_fan_off :
    let s := asking (permitted { Permissions.reset with ventFailed := true }) (setFrame 27 300)
    Sets s (setFrame 27 300) [] .fanMinRpm 300 ∧ s.perm.ventFailed = true ∧ s.perm.fan = false ∧ NoCandidates s :=
  ⟨sets_asking _ .fanMinRpm 300 rfl rfl rfl rfl (by decide) (by decide) (by decide), rfl, rfl, ⟨rfl, rfl⟩⟩

/-- A part with string 2 at 168 hours, DUE clear, with AUTO_QUEUE as given and both channels taken. -/
def weekOld (auto : Nat) : State :=
  { atHour 168 false with
    store := { up.store with working := { Settings.default with autoQueue := auto } }
    chan := ⟨{ Channel.reset with stage := .hold }, { Channel.reset with stage := .settle }⟩ }

theorem witness_settingsAct_due_none :
    let s := asking (weekOld 1) (setFrame 38 8)
    Sets s (setFrame 38 8) [] .dueDays 8
      ∧ ∀ p : Pos, DueNow (nowSet s (setFrame 38 8) [] .dueDays 8) p → (s.sit.get p).due = true :=
  ⟨sets_asking _ .dueDays 8 rfl rfl rfl rfl (by decide) (by decide) (by decide),
    fun p => by cases p <;> unfold DueNow <;> decide +kernel⟩

theorem witness_settingsAct_due_off :
    let s := asking (weekOld 0) (setFrame 38 7)
    let u := nowSet s (setFrame 38 7) [] .dueDays 7
    Sets s (setFrame 38 7) [] .dueDays 7 ∧ DueNow u .p2 ∧ (s.sit.get .p2).due = false
      ∧ (∀ q : Pos, q ≠ .p2 → DueNow u q → (s.sit.get q).due = true) ∧ s.latches.stringDue = none
      ∧ s.cfg.autoQueue = 0 :=
  ⟨sets_asking _ .dueDays 7 rfl rfl rfl rfl (by decide) (by decide) (by decide), by unfold DueNow; decide +kernel,
    rfl, fun q => by cases q <;> unfold DueNow <;> decide +kernel, rfl, rfl⟩

theorem witness_settingsAct_due_on :
    let s := asking (weekOld 1) (setFrame 38 7)
    let u := nowSet s (setFrame 38 7) [] .dueDays 7
    Sets s (setFrame 38 7) [] .dueDays 7 ∧ DueNow u .p2 ∧ (s.sit.get .p2).due = false
      ∧ (∀ q : Pos, q ≠ .p2 → DueNow u q → (s.sit.get q).due = true) ∧ s.latches.stringDue = none
      ∧ s.cfg.autoQueue ≠ 0 ∧ NoCandidates s ∧ (∀ c : Ch, (s.chan.get c).stage ≠ .idle) ∧ place s .p2 = none
      ∧ (s.hist.get .p2).eqLock = none ∧ (s.hist.get .p2).waterLock = none :=
  ⟨sets_asking _ .dueDays 7 rfl rfl rfl rfl (by decide) (by decide) (by decide), by unfold DueNow; decide +kernel,
    rfl, fun q => by cases q <;> unfold DueNow <;> decide +kernel, rfl, by decide, ⟨rfl, rfl⟩,
    fun c => by cases c <;> decide, rfl, rfl, rfl⟩

theorem witness_settingsAct_polarity :
    Sets (asking up (setFrame 42 127)) (setFrame 42 127) [] .polarity 127 ∧ 127 < 128 :=
  ⟨sets_asking up .polarity 127 rfl rfl rfl rfl (by decide) (by decide) (by decide), by decide⟩

theorem witness_settingsAct_fitted_range :
    Sets (asking up (setFrame 1 0)) (setFrame 1 0) [] .fitted 0
      ∧ Sets (asking up (setFrame 1 256)) (setFrame 1 256) [] .fitted 256 :=
  ⟨sets_asking up .fitted 0 rfl rfl rfl rfl (by decide) (by decide) (by decide),
    sets_asking up .fitted 256 rfl rfl rfl rfl (by decide) (by decide) (by decide)⟩

theorem witness_settingsAct_fitted_engaged :
    let s := asking (onA .hold round) (setFrame 1 14)
    Sets s (setFrame 1 14) [] .fitted 14 ∧ s.cfg.fitted.testBit (Pos.num .p1 - 1) = true
      ∧ Nat.testBit 14 (Pos.num .p1 - 1) = false ∧ (s.sit.get .p1).role ≠ .float :=
  ⟨sets_asking (onA .hold round) .fitted 14 rfl rfl rfl rfl (by decide) (by decide) (by decide), by decide,
    by decide, by decide⟩

theorem witness_settingsAct_fitted_removal :
    let s := asking up (setFrame 1 7)
    Sets s (setFrame 1 7) [] .fitted 7 ∧ s.cfg.fitted.testBit (Pos.num .p4 - 1) = true
      ∧ Nat.testBit 7 (Pos.num .p4 - 1) = false ∧ (s.sit.get .p4).role = .float
      ∧ (∀ q : Pos, q ≠ .p4 → Nat.testBit 7 (q.num - 1) = s.cfg.fitted.testBit (q.num - 1)) ∧ ChannelsIdle s
      ∧ NoCandidates s ∧ s.queue.gen < 256 :=
  ⟨sets_asking up .fitted 7 rfl rfl rfl rfl (by decide) (by decide) (by decide), by decide, by decide, rfl,
    fun q h => by cases q <;> first | decide | exact absurd rfl h, ⟨rfl, rfl⟩, ⟨rfl, rfl⟩, by decide⟩

theorem witness_settingsAct_fitted_addition :
    let t : State := { up with temps := { up.temps with pilots := up.temps.pilots.set .p8 (convert .reset 57600 48000) } }
    let s := asking t (setFrame 1 143)
    Sets s (setFrame 1 143) [] .fitted 143 ∧ s.cfg.fitted.testBit (Pos.num .p8 - 1) = false
      ∧ Nat.testBit 143 (Pos.num .p8 - 1) = true
      ∧ (∀ q : Pos, q ≠ .p8 → Nat.testBit 143 (q.num - 1) = s.cfg.fitted.testBit (q.num - 1)) ∧ ChannelsIdle s
      ∧ NoCandidates s ∧ (s.scan.strings.get .p8).stats = none ∧ (s.temps.pilots.get .p8).state = .valid
      ∧ (s.hist.get .p8).hours < s.cfg.dueDays * 24 ∧ (s.hist.get .p8).throughput < s.cfg.dueAh * 36000 :=
  ⟨sets_asking _ .fitted 143 rfl rfl rfl rfl (by decide) (by decide) (by decide), by decide, by decide,
    fun q h => by cases q <;> first | decide | exact absurd rfl h, ⟨rfl, rfl⟩, ⟨rfl, rfl⟩, rfl, by decide, by decide,
    by decide⟩

theorem witness_settingsAct_notices :
    let f := setFrame 41 7
    let s := asking up f
    Taking s f [] ∧ f.kind = 0x08 ∧ 7 < 65536 ∧ f.body = BitVec.ofNat 8 (SettingId.id .noticeEnables) :: u32 7
      ∧ (0 : Nat) = 7 - 7 % 8 ∧ s.store.writeBusy = false ∧ 0 ≠ s.cfg.noticeEnables :=
  ⟨taking_asking up _ rfl rfl rfl, rfl, by decide, rfl, rfl, rfl, by decide⟩

/-- A Submit Round frame for an EQUALISE of string 1, class ROUTINE, no option present. -/
def submitFrame : Frame := frame 0x0A [1, 0, 1, 0, 0, 0, 0, 0, 0, 0, 0, 0]

/-- A part with the watering of string 3 queued. -/
def queued : State := { up with queue := { entries := [waterEntry], gen := 1 } }

theorem witness_roundsAreQueued :
    let f := submitFrame
    let s := asking up f
    Taking s f [] ∧ f.kind = 0x0A ∧ f.tag ≠ 0
      ∧ f.body = [BitVec.ofNat 8 (Pos.num .p1), 0, 1, 0, 0, 0, 0, 0, 0, 0, 0, 0]
      ∧ s.cfg.fitted.testBit (Pos.num .p1 - 1) = true ∧ place s .p1 = none ∧ (s.hist.get .p1).eqLock = none
      ∧ NoCandidates s ∧ s.supply.surplus = false :=
  ⟨taking_asking up _ rfl rfl rfl, rfl, by decide, rfl, by decide, by decide, rfl, ⟨rfl, rfl⟩, rfl⟩

theorem witness_roundsAreQueued_duplicate :
    let f := submitFrame
    let s := asking (onA .hold round) f
    Taking s f [] ∧ f.kind = 0x0A ∧ f.tag ≠ 0 ∧ s.cfg.fitted.testBit (Pos.num .p1 - 1) = true
      ∧ place s .p1 = some .activeChannel :=
  ⟨taking_asking (onA .hold round) _ rfl rfl rfl, rfl, by decide, by decide, by decide⟩

theorem witness_roundsAreCancelled :
    let f := frame 0x0B [3]
    let s := asking queued f
    Taking s f [] ∧ f.kind = 0x0B ∧ f.body = [BitVec.ofNat 8 (Pos.num .p3)] ∧ place s .p3 = some .queued :=
  ⟨taking_asking queued _ rfl rfl rfl, rfl, rfl, by decide⟩

theorem witness_roundsAreCancelled_none :
    let f := frame 0x0B [2]
    let s := asking queued f
    Taking s f [] ∧ f.kind = 0x0B ∧ f.body = [BitVec.ofNat 8 (Pos.num .p2)] ∧ place s .p2 = none :=
  ⟨taking_asking queued _ rfl rfl rfl, rfl, rfl, by decide⟩

theorem witness_supplyIsGranted_720 :
    let f := frame 0x0E (u16 720)
    let s := asking up f
    Taking s f [] ∧ f.kind = 0x0E ∧ 720 < 65536 ∧ f.body = u16 720 ∧ NoCandidates s ∧ ChannelsIdle s :=
  ⟨taking_asking up _ rfl rfl rfl, rfl, by decide, rfl, ⟨rfl, rfl⟩, ⟨rfl, rfl⟩⟩

theorem witness_supplyIsGranted_721 :
    let f := frame 0x0E (u16 721)
    let s := asking up f
    Taking s f [] ∧ f.kind = 0x0E ∧ 721 < 65536 ∧ f.body = u16 721 ∧ NoCandidates s ∧ ChannelsIdle s :=
  ⟨taking_asking up _ rfl rfl rfl, rfl, by decide, rfl, ⟨rfl, rfl⟩, ⟨rfl, rfl⟩⟩

/-- A part with a grant of some minutes, a minute of it run down. -/
def granted (n : Nat) : State := { up with supply := { grantMin := n, grantSec := 60, surplus := true } }

theorem witness_supplyRunsDown :
    2 ≤ (granted 2).supply.grantMin ∧ 60 ≤ (granted 2).supply.grantSec
      ∧ (granted 2).supply.surplus = true ∧ Settled (granted 2) := by and_intros <;> rfl

theorem witness_supplyRunsDown_last :
    let s := granted 1
    s.supply.grantMin = 1 ∧ 60 ≤ s.supply.grantSec ∧ s.supply.surplus = true ∧ presents s .genRun ≠ .active
      ∧ s.chan.a.stage = .idle ∧ s.chan.b.stage = .idle ∧ Settled s :=
  by and_intros <;> first | rfl | decide

theorem witness_supplyIsGranted_generatorRuns :
    let s := accepting up .genRun .activeHigh
    s.phase ≠ .held ∧ Settled s ∧ s.supply.grantMin = 0 ∧ OnlyAccepts s (highAt .genRun) .genRun .edge .active
      ∧ s.supply.surplus = false ∧ NoCandidates s := ⟨by decide, rfl, rfl, accepts _ _ _, rfl, ⟨rfl, rfl⟩⟩

theorem witness_supplyIsGranted_generatorStops :
    let s := accepting { up with supply := { up.supply with surplus := true } } .genRun .activeLow
    s.phase ≠ .held ∧ Settled s ∧ s.supply.grantMin = 0 ∧ OnlyAccepts s (highAt .genRun) .genRun .edge .inactive
      ∧ s.supply.surplus = true ∧ ChannelsIdle s := ⟨by decide, rfl, rfl, accepts _ _ _, rfl, ⟨rfl, rfl⟩⟩

theorem witness_supplyIsGranted_graceStarts :
    let s := accepting { onA .hold round with supply := { up.supply with surplus := true } } .genRun .activeLow
    s.supply.grantMin = 0 ∧ OnlyAccepts s (highAt .genRun) .genRun .edge .inactive ∧ s.supply.surplus = true
      ∧ (s.chan.get .a).stage = .hold ∧ s.cfg.supplyGraceMin ≠ 0 := ⟨rfl, accepts _ _ _, rfl, rfl, by decide⟩

/-- A part whose hydrogen alarm presents INACTIVE, the line as given. -/
def clearOfH2 (l : Line) : State :=
  { up with inp := { up.inp with h2Alarm := shows .inactive }, line := l }

/-- A line the host has claimed. -/
def claimed : Line := { Line.reset with stage := .manual, owner := some .host }

theorem witness_hostUsesTheLine_h2 :
    let f := frame 0x0F []
    let s := asking up f
    Taking s f [] ∧ f.kind = 0x0F ∧ f.body = [] ∧ h2Clear s = false :=
  ⟨taking_asking up _ rfl rfl rfl, rfl, rfl, by decide⟩

theorem witness_hostUsesTheLine_claim :
    let f := frame 0x0F []
    let s := asking (clearOfH2 .reset) f
    Taking s f [] ∧ f.kind = 0x0F ∧ f.body = [] ∧ h2Clear s = true ∧ s.line.stage = .free :=
  ⟨taking_asking (clearOfH2 .reset) _ rfl rfl rfl, rfl, rfl, by decide, rfl⟩

theorem witness_hostUsesTheLine_busy :
    let f := frame 0x0F []
    let s := asking (clearOfH2 claimed) f
    Taking s f [] ∧ f.kind = 0x0F ∧ f.body = [] ∧ h2Clear s = true ∧ s.line.stage = .manual
      ∧ s.line.string = none ∧ s.line.owner = some .host :=
  ⟨taking_asking (clearOfH2 claimed) _ rfl rfl rfl, rfl, rfl, by decide, rfl, rfl, rfl⟩

theorem witness_hostUsesTheLine_notOwner :
    let f := frame 0x10 []
    let s := asking up f
    Taking s f [] ∧ f.kind = 0x10 ∧ f.body = [] ∧ s.line.owner ≠ some .host :=
  ⟨taking_asking up _ rfl rfl rfl, rfl, rfl, by decide⟩

theorem witness_hostUsesTheLine_release :
    let f := frame 0x10 []
    let s := asking (clearOfH2 claimed) f
    Taking s f [] ∧ f.kind = 0x10 ∧ f.body = [] ∧ s.line.owner = some .host ∧ s.line.claimEnded = false
      ∧ s.line.stage = .manual ∧ s.line.waiting = [] ∧ NoCandidates s :=
  ⟨taking_asking (clearOfH2 claimed) _ rfl rfl rfl, rfl, rfl, rfl, rfl, rfl, rfl, ⟨rfl, rfl⟩⟩

theorem witness_hostUsesTheLine_dose :
    let f := frame 0x11 (BitVec.ofNat 8 (Pos.num .p2) :: u16 99)
    let s := asking (clearOfH2 claimed) f
    Taking s f [] ∧ f.kind = 0x11 ∧ 99 < 65536 ∧ f.body = BitVec.ofNat 8 (Pos.num .p2) :: u16 99
      ∧ s.line.owner = some .host ∧ s.line.claimEnded = false ∧ s.line.stage = .manual
      ∧ s.line.pendingEnd = none ∧ h2Clear s = true ∧ s.cfg.fitted.testBit (Pos.num .p2 - 1) = true
      ∧ (s.hist.get .p2).waterLock = none ∧ presents s .resLow ≠ .active ∧ 100 = max 100 (min s.cfg.waterMaxMl 99) :=
  ⟨taking_asking (clearOfH2 claimed) _ rfl rfl rfl, rfl, by decide, rfl, rfl, rfl, rfl, rfl, by decide, by decide,
    rfl, by decide, by decide⟩

theorem witness_hostKeepsTheBooks_refill :
    let f := frame 0x12 (u32 100001)
    let s := asking up f
    Taking s f [] ∧ f.kind = 0x12 ∧ 100001 < 4294967296 ∧ f.body = u32 100001 ∧ NoCandidates s
      ∧ 100000 = min 100001 s.cfg.reservoirCapMl :=
  ⟨taking_asking up _ rfl rfl rfl, rfl, by decide, rfl, ⟨rfl, rfl⟩, by decide⟩

theorem witness_hostKeepsTheBooks_weak :
    let f := frame 0x14 [8]
    Taking (asking up f) f [] ∧ f.kind = 0x14 ∧ 8 ≤ 8 ∧ f.body = [BitVec.ofNat 8 8] :=
  ⟨taking_asking up _ rfl rfl rfl, rfl, by decide, rfl⟩

theorem witness_hostKeepsTheBooks_locks2 :
    let f := frame 0x15 [4, 2]
    let s := asking up f
    Taking s f [] ∧ f.kind = 0x15 ∧ s.cfg.fitted.testBit (Pos.num .p4 - 1) = true
      ∧ f.body = [BitVec.ofNat 8 (Pos.num .p4), 2] ∧ (s.hist.get .p4).waterLock = none :=
  ⟨taking_asking up _ rfl rfl rfl, rfl, by decide, rfl, rfl⟩

theorem witness_hostKeepsTheBooks_locks1 :
    let f := frame 0x15 [4, 1]
    let s := asking up f
    Taking s f [] ∧ f.kind = 0x15 ∧ s.cfg.fitted.testBit (Pos.num .p4 - 1) = true
      ∧ f.body = [BitVec.ofNat 8 (Pos.num .p4), 1] ∧ (s.hist.get .p4).eqLock = none :=
  ⟨taking_asking up _ rfl rfl rfl, rfl, by decide, rfl, rfl⟩

theorem witness_hostKeepsTheBooks_locks0 :
    let f := frame 0x15 [4, 0]
    let s := asking up f
    Taking s f [] ∧ f.kind = 0x15 ∧ s.cfg.fitted.testBit (Pos.num .p4 - 1) = true
      ∧ f.body = [BitVec.ofNat 8 (Pos.num .p4), 0] ∧ (s.hist.get .p4).waterLock = none :=
  ⟨taking_asking up _ rfl rfl rfl, rfl, by decide, rfl, rfl⟩

theorem witness_hostHandlesConditions_master :
    let f := frame 0x16 [1]
    Taking (asking up f) f [] ∧ f.kind = 0x16 ∧ (f.body = [0] ∨ f.body = [1]) :=
  ⟨taking_asking up _ rfl rfl rfl, rfl, .inr rfl⟩

theorem witness_hostHandlesConditions_clear :
    let f := frame 0x18 [16]
    let s := asking { up with latches := { Latches.reset with linkError := some pendingDetail } } f
    Taking s f [] ∧ f.kind = 0x18 ∧ f.body = [BitVec.ofNat 8 (Condition.num .linkError)]
      ∧ s.latches.get .linkError = some pendingDetail ∧ causePersists s .linkError = false :=
  ⟨taking_asking { up with latches := _ } _ rfl rfl rfl, rfl, rfl, rfl, rfl⟩

theorem witness_hostHandlesConditions_relatch :
    let f := frame 0x18 [4]
    let s := asking
      { up with
        latches := { Latches.reset with ventFail := some pendingDetail }
        perm := { Permissions.reset with ventFailed := true } } f
    Taking s f [] ∧ f.kind = 0x18 ∧ f.body = [BitVec.ofNat 8 (Condition.num .ventFail)]
      ∧ s.latches.get .ventFail = some pendingDetail ∧ s.perm.ventFailed = true :=
  ⟨taking_asking { up with latches := _, perm := _ } _ rfl rfl rfl, rfl, rfl, rfl, rfl⟩

theorem witness_logTransferIsStarted :
    let f := frame 0x19 (u16 41 ++ [BitVec.ofNat 8 64])
    let s := asking { transferring 1 with log := { (transferring 1).log with transfer := none } } f
    Taking s f [] ∧ f.kind = 0x19 ∧ 41 < 65536 ∧ 1 ≤ 64 ∧ 64 ≤ 64 ∧ f.body = u16 41 ++ [BitVec.ofNat 8 64]
      ∧ s.log.transfer = none ∧ s.log.nextSeq < 65536 ∧ s.log.ring.length ≤ 64 ∧ 1 ≤ 1
      ∧ 1 ≤ s.log.ring.length ∧ 1 = (s.log.nextSeq + 65536 - 41) % 65536 :=
  ⟨taking_asking { transferring 1 with log := _ } _ rfl rfl rfl, rfl, by decide, by decide, by decide, rfl, rfl,
    by decide, by decide, by decide, by decide, by decide⟩

theorem witness_logTransferIsStarted_busy :
    let f := frame 0x19 (u16 0 ++ [BitVec.ofNat 8 1])
    let s := asking (transferring 1) f
    Taking s f [] ∧ f.kind = 0x19 ∧ f.body = u16 0 ++ [BitVec.ofNat 8 1] ∧ s.log.transfer.isSome = true :=
  ⟨taking_asking (transferring 1) _ rfl rfl rfl, rfl, rfl, rfl⟩

theorem witness_logTransferIsStopped :
    let f := frame 0x1A []
    Taking (asking (transferring 1) f) f [] ∧ f.kind = 0x1A ∧ f.body = [] :=
  ⟨taking_asking (transferring 1) _ rfl rfl rfl, rfl, rfl⟩

/-- CellEntryOfAMeasurement: the bounds of each range. -/
theorem witness_cellEntryOfAMeasurement : 3000 < 3001 ∧ 499 < 500 ∧ 500 ≤ 500 ∧ 3000 ≤ 3000 := by decide

/-- A part with a round in HOLD on channel A and a command that answers a next state. -/
def stepping : State := { onA .hold { round with holdSec := 60 } with pending := [.holdMinute .a] }

theorem witness_capacitiesAreKept : Capacities stepping ∧ ∃ t, step stepping = .next t :=
  ⟨by unfold Capacities; decide, _, rfl⟩
theorem witness_chargersKeepTheirLaws : DemandShown stepping ∧ ChargerOff stepping :=
  ⟨fun c => by cases c <;> rfl, fun c h => by cases c <;> rfl⟩
theorem witness_rolesStayInAgreement : RolesAgree stepping := by
  refine ⟨fun c => by cases c <;> decide, fun c h => (by cases c <;> cases h), fun c x h => ?_, ?_, .nil, ?_, ?_⟩
  · cases c <;> cases h
    exact ⟨rfl, rfl⟩
  · intro h m; cases m
  · intro h; cases h
  · intro p h; revert h; cases p <;> decide
/-- A part held in reset, its release next: the state that the premise on a held part is about. -/
theorem witness_rolesStayInAgreement_held :
    let s : State := { State.reset with pending := [.resetRelease] }
    RolesAgree s ∧ HeldClean s ∧ s.phase = .held := by
  refine ⟨⟨fun c => (by cases c <;> decide), fun c h => (by cases c <;> (cases h)), fun c x h => (by cases c <;> (cases h)),
    fun h m => (by cases m), .nil, fun h => (by cases h), fun p h => ?_⟩, fun _ => ⟨rfl, rfl, rfl, rfl,
    fun c => (by cases c <;> rfl), rfl, rfl, rfl, rfl, fun p => (by cases p <;> rfl)⟩, rfl⟩
  revert h; cases p <;> decide
theorem witness_rolesStayInAgreement_running : HeldClean stepping := fun h => by cases h
theorem witness_accountWithinCap : AccountWithinCap stepping := ⟨fun h => (by cases h), fun _ => by decide⟩
theorem witness_busesStayApart : BusesApart stepping := by
  refine ⟨fun p => by cases p <;> decide, fun c x w _ h => ?_, fun p h => ?_, fun p => by cases p <;> decide⟩
  · cases c <;> cases h
  · revert h; cases p <;> decide
theorem witness_lineOutputsAreKept : LineOutputs stepping :=
  ⟨fun p => by cases p <;> decide, by decide, by decide⟩
/-- A part whose ring holds one record, which a step keeps. -/
theorem witness_seqsAreKeptInOrder : SeqsInOrder (transferring 1) ∧ ∃ t, step (transferring 1) = .next t :=
  ⟨⟨by decide, by decide, fun k h => by
    obtain rfl : k = 0 := Nat.lt_one_iff.mp h
    rfl⟩, _, rfl⟩
theorem witness_settingsAreKeptInRange : SettingsInRange stepping := by
  refine ⟨⟨fun i => ?_, ?_⟩, ⟨fun i => ?_, ?_⟩⟩
  · cases i <;> decide
  · decide
  · cases i <;> decide
  · decide

end Sys2Proof.Tests
end

-- ==== Proofs: the step, the resets and the contact inputs ====
section
/-! PROOFS. The step, the resets and the contact inputs (O1, O2, O9, O10). -/

namespace Sys2Proof.Machine

open Sys2Proof.Safety

/-! ### The step -/

/-- What passing a millisecond can do: the timer base's milliseconds move by at most one, and not while held. -/
theorem passTime_cases (s : State) :
    passTime s = s ∨ (s.phase ≠ .held ∧ passTime s = { s with base := { s.base with ms := s.base.ms + 1 } }) := by
  unfold passTime
  split
  next h => exact .inr ⟨by simpa [running] using h.1, rfl⟩
  next => exact .inl rfl

/-- Settles O1, by what a passing millisecond can do. -/
theorem stepRunsFrontCommand : Obligations.StepRunsFrontCommand := by
  refine ⟨fun _ _ => rfl, fun s hempty => ?_⟩
  have hstep : step s = .next (passTime s) := by simp [step, hempty]
  rw [hstep]
  rcases passTime_cases s with hsame | ⟨hphase, hmoved⟩
  · exact ⟨s.base.ms, by rw [hsame], le_rfl, by omega, fun _ => rfl⟩
  · exact ⟨s.base.ms + 1, by rw [hmoved], by omega, le_rfl, fun hheld => absurd hheld hphase⟩

/-! ### Resets -/

/-- Every output is safe after a reset (R6). -/
theorem safeOutputs_safe : SafeOutputs Outputs.safe :=
  ⟨fun p => by simp [Outputs.safe], fun c => by cases c <;> rfl, rfl, rfl, rfl, rfl⟩

/-- A reset leaves the volatile state at its after-reset values. -/
theorem volatileReset_afterReset (s : State) (store : Store) : VolatileReset (afterReset s store) := by
  refine ⟨rfl, rfl, rfl, rfl, rfl, fun p => ?_, rfl, rfl, rfl, fun c => ?_, rfl, rfl, rfl, fun c => ?_, rfl, rfl,
    rfl, rfl, rfl, rfl⟩
  · exact eight_get_const _ p
  · cases c <;> rfl
  · cases c <;> rfl

/-- Every latch is clear after a reset (R170). -/
theorem latches_get_reset (c : Condition) : Latches.reset.get c = none := by cases c <;> rfl

/-- The histories, the account, the weak cells and the log outlast a reset. -/
theorem nonVolatileKept_afterReset (s : State) (store : Store) : NonVolatileKept s (afterReset s store) :=
  ⟨rfl, rfl, rfl, rfl, rfl⟩

/-- What RESET_N can do: it resets the part with a store that holds what it held, unless a write was in progress. -/
theorem execResetN_cases (s : State) :
    ∃ (n : Nat) (store : Store), execResetN s = .next (afterReset { s with freeDrawn := n } store)
      ∧ (s.store.writeBusy = false → store = heldStore s.store.stored s.store.checksumOk) := by
  unfold execResetN
  split
  next hbusy =>
    split
    · exact ⟨_, _, rfl, fun h => absurd hbusy (by simp [h])⟩
    · exact ⟨_, _, rfl, fun h => absurd hbusy (by simp [h])⟩
  next => exact ⟨s.freeDrawn, _, rfl, fun _ => rfl⟩

/-- Settles O2: both commands reset the part, and differ in the store they leave. -/
theorem powerOnAndResetN : Obligations.PowerOnAndResetN := by
  intro s
  constructor
  · exact ⟨_, rfl, rfl, safeOutputs_safe, nonVolatileKept_afterReset s _, volatileReset_afterReset s _, rfl,
      latches_get_reset, rfl, rfl⟩
  · obtain ⟨n, store, hreset, hstore⟩ := execResetN_cases s
    refine ⟨_, hreset, rfl, safeOutputs_safe, nonVolatileKept_afterReset _ _, volatileReset_afterReset _ _, rfl,
      latches_get_reset, fun hidle => ?_⟩
    have hkept : (afterReset { s with freeDrawn := n } store).store = heldStore s.store.stored s.store.checksumOk :=
      hstore hidle
    exact ⟨by rw [hkept]; rfl, by rw [hkept]; rfl⟩

/-! ### Sample instants -/

/-- Every input is one of R8's table. -/
theorem mem_inputId_all (i : InputId) : i ∈ InputId.all := by
  cases i with
  | kf p | ke p | ks p | level p => cases p <;> decide
  | genRun | h2Alarm | resLow => decide

/-- A sample that makes no delivery is only appended (R12). -/
theorem sample_of_no_delivery (f : Filter) (l : Level) (h : (f.sample l).2 = none) :
    (f.sample l).1 = { f with history := latestThree f.history l } := by
  simp only [Filter.sample] at h ⊢
  split
  next => rfl
  next v hv =>
    simp only [hv] at h
    split
    next => rfl
    next hne => simp [hne] at h

/-- Settles O9: with nothing accepted the 35 samples are appended one after the other. -/
theorem samplesAreAppended : Obligations.SamplesAreAppended := by
  intro s levels hphase hnone
  have hrun : running s = true := by simpa [running] using hphase
  have hexec : exec (.sampleInstant levels) s =
      .next { sampleTick s with inp := samplesOf levels InputId.all s.inp } := by
    show execSampleInstant levels s = _
    unfold execSampleInstant
    rw [if_pos hrun, sampleInputs_of_none levels InputId.all 0 (sampleTick s) inOrder_all fun j _ => hnone j]
    rfl
  refine ⟨_, hexec, fun i => ?_, rfl⟩
  show (samplesOf levels InputId.all s.inp).get i = _
  rw [samplesOf_get levels _ 0 s.inp i inOrder_all, if_pos (mem_inputId_all i)]
  exact sample_of_no_delivery _ _ (hnone i)

/-! ### Acceptance and polarity -/

/-- What three samples agree on, read as a list (R12). -/
theorem agreed_eq_some_iff (h : List Level) (v : Level) : agreed h = some v ↔ h = [v, v, v] := by
  unfold agreed
  split
  next a b c =>
    split
    next heq => obtain ⟨rfl, rfl⟩ := heq; simp
    next hne =>
      simp only [reduceCtorEq, List.cons.injEq, and_true, false_iff, not_and]
      rintro rfl rfl rfl
      exact hne ⟨rfl, rfl⟩
  next hlen =>
    simp only [reduceCtorEq, false_iff]
    rintro rfl
    exact hlen v v v rfl

/-- The presented state of a level: ACTIVE when the polarity's active level is the level's (R9). -/
theorem presentedOf_eq (q : Polarity) (v : Level) :
    presentedOf q v = if (q = .activeHigh ↔ v = .high) then .active else .inactive := by
  cases q <;> cases v <;> rfl

/-- Three equal samples that differ from the accepted level are accepted (R12). -/
theorem sample_accepts (f : Filter) (l v : Level) (h3 : latestThree f.history l = [v, v, v])
    (hnew : f.accepted ≠ some v) :
    f.sample l =
      ({ f with
          history := [v, v, v], accepted := some v, captured := some v, reacquiring := false,
          presented := if (f.polarity = .activeHigh ↔ v = .high) then .active else .inactive },
       some (if f.reacquiring then .reacquired else .edge)) := by
  have happ : appendSample f.history l = [v, v, v] := h3
  have hag : agreed [v, v, v] = some v := (agreed_eq_some_iff _ _).2 rfl
  simp only [Filter.sample, happ, hag, hnew, if_false, Filter.accept, presentedOf_eq]

/-- Samples that agree on nothing new are only appended (R12). -/
theorem sample_appends (f : Filter) (l : Level)
    (h : ∀ v : Level, latestThree f.history l = [v, v, v] → f.accepted = some v) :
    f.sample l = ({ f with history := latestThree f.history l }, none) := by
  show Filter.sample f l = ({ f with history := appendSample f.history l }, none)
  simp only [Filter.sample]
  split
  next => rfl
  next v hv => rw [if_pos (h v ((agreed_eq_some_iff _ _).1 hv))]

/-- What a polarity change makes of one input's filter record (R16). -/
def repolarised (old new : Nat) (i : InputId) (f : Filter) : Filter :=
  if old.testBit i.group = new.testBit i.group then f else f.reinit (polarityOf new i.group)

/-- Re-initialising a record again leaves it as it is, so a record comes out the same however often it is taken. -/
theorem repolarised_twice (old new : Nat) (i : InputId) (f : Filter) :
    repolarised old new i (repolarised old new i f) = repolarised old new i f := by
  unfold repolarised
  split
  · rfl
  · rfl

/-- The polarity change over a row of inputs: those of the row are re-initialised by their group, and the inputs
alone change (R16). -/
theorem changePolarity_over (old new : Nat) (l : List InputId) (s : State) :
    ∃ n : Inputs,
      l.foldl (fun s i =>
        if old.testBit i.group = new.testBit i.group then s
        else { s with inp := s.inp.set i ((s.inp.get i).reinit (polarityOf new i.group)) }) s = { s with inp := n }
      ∧ ∀ i : InputId, n.get i = if i ∈ l then repolarised old new i (s.inp.get i) else s.inp.get i := by
  induction l generalizing s with
  | nil => exact ⟨s.inp, rfl, fun i => by simp⟩
  | cons j l ih =>
    rw [List.foldl_cons]
    by_cases hsame : old.testBit j.group = new.testBit j.group
    · rw [if_pos hsame]
      obtain ⟨n, hfold, hget⟩ := ih s
      refine ⟨n, hfold, fun i => ?_⟩
      by_cases hij : i = j
      · subst hij; simp [hget, repolarised, hsame]
      · simp [hget, hij]
    · rw [if_neg hsame]
      obtain ⟨n, hfold, hget⟩ := ih { s with inp := s.inp.set j ((s.inp.get j).reinit (polarityOf new j.group)) }
      refine ⟨n, hfold, fun i => ?_⟩
      rw [hget]
      have hj : (s.inp.get j).reinit (polarityOf new j.group) = repolarised old new j (s.inp.get j) := by
        rw [repolarised, if_neg hsame]
      by_cases hij : i = j
      · subst hij; simp [hj, repolarised_twice]
      · simp [hij]

/-- What a polarity change does (R16). -/
theorem changePolarity_spec (s : State) (old new : Nat) :
    (∀ i : InputId, (changePolarity s old new).inp.get i = repolarised old new i (s.inp.get i))
      ∧ { s with inp := (changePolarity s old new).inp } = changePolarity s old new := by
  obtain ⟨n, hfold, hget⟩ := changePolarity_over old new InputId.all s
  have hchange : changePolarity s old new = { s with inp := n } := hfold
  rw [hchange]
  exact ⟨fun i => by rw [hget, if_pos (mem_inputId_all i)], rfl⟩

/-! ### A level probe's delivery (R58) -/

/-- A string's situation is no setting. -/
@[simp] theorem modSit_cfg (s : State) (p : Pos) (f : StringSituation → StringSituation) :
    (s.modSit p f).cfg = s.cfg := rfl

/-- A fitted position's probe that presents INACTIVE clears LEVEL_LOW. -/
theorem levelDelivered_inactive (s : State) (p : Pos) (k : DeliveryKind) (hfit : fitted s p = true)
    (hp : presents s (.level p) = .inactive) :
    levelDelivered s p k = s.modSit p fun t => { t with levelLow := false } := by
  simp [levelDelivered, hfit, hp]

/-- A fitted position's probe that presents ACTIVE sets LEVEL_LOW, with no offer when it is re-acquired or
AUTO_QUEUE is OFF. -/
theorem levelDelivered_active_quiet (s : State) (p : Pos) (k : DeliveryKind) (hfit : fitted s p = true)
    (hp : presents s (.level p) = .active) (hq : k = .reacquired ∨ s.cfg.autoQueue = 0) :
    levelDelivered s p k = s.modSit p fun t => { t with levelLow := true } := by
  rcases hq with rfl | h0
  · simp [levelDelivered, hfit, hp]
  · simp [levelDelivered, hfit, hp, h0]

/-- An EDGE of ACTIVE with AUTO_QUEUE ON offers a watering as well. -/
theorem levelDelivered_active_edge (s : State) (p : Pos) (hfit : fitted s p = true)
    (hp : presents s (.level p) = .active) (ha : s.cfg.autoQueue ≠ 0) :
    levelDelivered s p .edge =
      (offer (s.modSit p fun t => { t with levelLow := true }) p .water .autoLevel 0).1 := by
  simp [levelDelivered, hfit, hp, ha]

/-! ### Blocked reasons (R82 to R86) -/

/-- A candidate that is not blocked passes every test. -/
theorem passes_of_firstFailing : ∀ (l : List (Bool × Blocked)), (∀ e ∈ l, e.2 ≠ .none) →
    firstFailing l = .none → ∀ e ∈ l, e.1 = true
  | [], _, _ => by simp
  | (true, r) :: l, hreasons, hpass => by
    have ih := passes_of_firstFailing l (fun e he => hreasons e (List.mem_cons_of_mem _ he)) hpass
    intro e he
    rcases List.mem_cons.mp he with rfl | he
    · rfl
    · exact ih e he
  | (false, r) :: l, hreasons, hpass => absurd hpass (hreasons (false, r) (by simp))

/-- A WATER candidate that is not blocked has a FLOAT string, a line to take it and hydrogen clear (R86). -/
theorem tests_of_waterBlocked (s : State) (p : Pos) (nb : Option Nat) (h : waterBlocked s p nb = .none) :
    (s.sit.get p).role = .float ∧ lineTest s = true ∧ h2Test s = true := by
  have hall := passes_of_firstFailing _ (by simp) h
  simp only [List.mem_cons, List.not_mem_nil, or_false, forall_eq_or_imp, forall_eq, Bool.and_eq_true,
    beq_iff_eq] at hall
  obtain ⟨⟨hrole, -⟩, -, hline, hh2, -⟩ := hall
  exact ⟨hrole, hline, hh2⟩

/-- A WATER candidate is blocked while the line is not FREE (R86). -/
theorem waterBlocked_of_line_busy (s : State) (p : Pos) (nb : Option Nat) (h : s.line.stage ≠ .free) :
    waterBlocked s p nb ≠ .none := by
  intro hpass
  obtain ⟨-, hline, -⟩ := tests_of_waterBlocked s p nb hpass
  simp [lineTest, h] at hline

/-- An evaluation whose one candidate is a WATER entry admits nothing while the line is not FREE (R81, R86). -/
theorem evaluate_of_line_busy (s : State) (e : Entry) (hheld : s.held.entries = []) (hqueue : s.queue.entries = [e])
    (hkind : e.kind = .water) (hline : s.line.stage ≠ .free) : evaluate s = s := by
  have hblocked : entryBlocked s e ≠ .none := by
    simpa [entryBlocked, hkind] using waterBlocked_of_line_busy s e.string e.notBefore hline
  have hnext : nextCandidate s = none := by
    simp [nextCandidate, hheld, hqueue, hblocked]
  simp [evaluate, evaluatePasses, hheld, hqueue, hnext]

/-- The entry that a level probe's EDGE offers (R58, R75). -/
def autoLevelEntry (s : State) (p : Pos) : Entry :=
  { tag := 0, kind := .water, string := p, cls := .routine, origin := .autoLevel, submit := s.stamp,
    notBefore := none, holdOverride := none, ahOverride := none }

/-- An offer of a watering to an empty queue, for a string with no round and no WATER_LOCK, is placed (R75). -/
theorem offer_water_of_empty (s : State) (p : Pos) (hplace : place s p = none)
    (hlock : (s.hist.get p).waterLock = none) (hqueue : s.queue.entries = []) :
    (offer s p .water .autoLevel 0).1 =
      { s with
        queue := { entries := [autoLevelEntry s p], gen := (s.queue.gen + 1) % 256 }
        due := { s.due with admission := true } } := by
  have hopen : lockedFor s p .water = false := by simp [lockedFor, Kind.equalises, hlock]
  simp [offer, hplace, hopen, hqueue, Config.queueCap, placeEntry, placeIn, State.wantAdmission, autoLevelEntry]

/-- The settling of an offered watering that the line cannot take: it stays in the queue. -/
theorem settle_of_offered_water (s : State) (p : Pos) (hsettled : Settled s) (hnone : NoCandidates s)
    (hplace : place s p = none) (hlock : (s.hist.get p).waterLock = none) (hline : s.line.stage ≠ .free) :
    settle (offer s p .water .autoLevel 0).1 =
      { s with queue := { entries := [autoLevelEntry s p], gen := (s.queue.gen + 1) % 256 } } := by
  obtain ⟨hqueue, hheld⟩ := hnone
  have hdue : s.due = { reserve := false, admission := false } := hsettled
  rw [offer_water_of_empty s p hplace hlock hqueue, hdue]
  exact settle_of_idle_evaluation _ rfl (evaluate_of_line_busy _ (autoLevelEntry s p) hheld rfl rfl hline)

/-- A sample instant that accepts a level probe alone: what its settled delivery makes of the state, with the
samples and the timer base of the instant. -/
theorem sampleInstant_of_level (s g : State) (levels : BitVec 35) (p : Pos) (k : DeliveryKind) (v : Presented)
    (hphase : s.phase ≠ .held) (honly : OnlyAccepts s levels (.level p) k v)
    (hdelivered : ∀ n : Inputs, (n.get (.level p)).presented = v →
      settle (levelDelivered { sampleTick s with inp := n } p k) = { g with base := (sampleTick s).base, inp := n }) :
    ∃ t, exec (.sampleInstant levels) s = .next t ∧ Sampled s levels t
      ∧ { g with base := t.base, inp := t.inp } = t := by
  obtain ⟨n, -, hpresented, hresult⟩ := execSampleInstant_of_onlyAccepts s levels (.level p) k v hphase honly
  obtain ⟨n', hexec, hsamples⟩ := hresult _ (hdelivered n (by rw [hpresented, if_pos rfl])) rfl
  exact ⟨_, hexec, ⟨hsamples, rfl⟩, rfl⟩

/-- Settles O10: the filter's two cases, the polarity change input by input, and the level probe's three
deliveries. -/
theorem levelsAreAccepted : Obligations.LevelsAreAccepted := by
  refine ⟨sample_accepts, sample_appends, changePolarity_spec, ?_⟩
  intro s levels p k hphase hsettled hfit
  refine ⟨fun honly hquiet => ?_, fun honly => ?_, fun honly hedge hauto hnone hplace hlock hline => ?_⟩
  · refine sampleInstant_of_level s { s with sit := s.sit.set p { s.sit.get p with levelLow := true } } levels p k _
      hphase honly fun n hn => ?_
    rw [levelDelivered_active_quiet { sampleTick s with inp := n } p k hfit hn hquiet]
    exact settle_of_settled _ hsettled
  · refine sampleInstant_of_level s { s with sit := s.sit.set p { s.sit.get p with levelLow := false } } levels p k _
      hphase honly fun n hn => ?_
    rw [levelDelivered_inactive { sampleTick s with inp := n } p k hfit hn]
    exact settle_of_settled _ hsettled
  · subst hedge
    refine sampleInstant_of_level s
      { s with
        sit := s.sit.set p { s.sit.get p with levelLow := true }
        queue := { entries := [autoLevelEntry s p], gen := (s.queue.gen + 1) % 256 } } levels p .edge _
      hphase honly fun n hn => ?_
    rw [levelDelivered_active_edge { sampleTick s with inp := n } p hfit hn hauto]
    exact settle_of_offered_water _ p hsettled hnone hplace hlock hline

end Sys2Proof.Machine
end

-- ==== Proofs: the view of the plant ====
section
/-! PROOFS. What the laws of the roles (`RolesAgree`) and of the buses (`BusesApart`) look at of a state, those laws read off
it, and which changes of it keep them. The laws are stated once for three uses: `PlantLaws True True` is both
together (O56), `PlantLaws True False` is `RolesAgree` alone, and `PlantLaws False True` is what a release from reset
keeps while channels are in use. -/

namespace Sys2Proof.Machine

open Sys2Proof.Safety

/-! ### The view -/

/-- What the laws look at of a channel: its stage, the string of its context, whether it holds a nested call, and
the contactor that its waiting step waits for. -/
structure ChanView where
  stage : Stage
  string : Option Pos
  called : Bool
  waits : Option Contactor

/-- What the laws look at of a string's situation. -/
structure SitView where
  role : Role
  assigned : Option Assigned
  isolation : Option Isolation
  onBus : Bool

/-- What the laws look at of the part. `round` is the string of the line while a standalone round owns it. -/
@[ext] structure PlantView where
  chan : Ch → ChanView
  sit : Pos → SitView
  held : List Pos
  round : Option (Option Pos)
  fitted : Pos → Bool
  kf : Pos → Contact
  ke : Pos → Contact
  kfShown : Pos → Presented
  h2 : Presented

/-- The view of a channel. -/
def Channel.view (ch : Channel) : ChanView :=
  { stage := ch.stage, string := ch.ctx.map (·.string), called := ch.call.isSome, waits := ch.wait.map (·.contactor) }

/-- The view of a string's situation. -/
def StringSituation.view (t : StringSituation) : SitView :=
  { role := t.role, assigned := t.assigned, isolation := t.isolation, onBus := t.onBus }

/-- The view of a line record: the string of a standalone round. -/
def Line.round (l : Line) : Option (Option Pos) := if l.owner = some .round then some l.string else none

/-- The view of a state. -/
def State.view (s : State) : PlantView :=
  { chan := fun c => (s.chan.get c).view
    sit := fun p => (s.sit.get p).view
    held := s.held.entries.map (·.ctx.string)
    round := s.line.round
    fitted := fitted s
    kf := s.out.kf.get
    ke := s.out.ke.get
    kfShown := fun p => presents s (.kf p)
    h2 := presents s .h2Alarm }

/-- Change one channel of a view. -/
def PlantView.atChan (v : PlantView) (c : Ch) (f : ChanView → ChanView) : PlantView :=
  { v with chan := Function.update v.chan c (f (v.chan c)) }

/-- Change one string's situation in a view. -/
def PlantView.atSit (v : PlantView) (p : Pos) (f : SitView → SitView) : PlantView :=
  { v with sit := Function.update v.sit p (f (v.sit p)) }

/-- The determination of a position's on-bus flag (R60). -/
def PlantView.onBusNow (v : PlantView) (p : Pos) : Bool :=
  v.fitted p && (v.kf p == .closed) && (v.kfShown p == .active)

/-- The determination, written out. -/
theorem PlantView.onBusNow_iff (v : PlantView) (p : Pos) :
    v.onBusNow p = true ↔ v.fitted p = true ∧ v.kf p = .closed ∧ v.kfShown p = .active := by
  simp [PlantView.onBusNow, and_assoc]

/-- A position's on-bus flag recomputed (R60). -/
def PlantView.reflag (v : PlantView) (p : Pos) : PlantView := v.atSit p fun t => { t with onBus := v.onBusNow p }

/-- KF commanded, with its flag recomputed (R1, R60). -/
def PlantView.commandKf (v : PlantView) (p : Pos) (k : Contact) : PlantView :=
  PlantView.reflag { v with kf := Function.update v.kf p k } p

/-- KE commanded (R1). -/
def PlantView.commandKe (v : PlantView) (p : Pos) (k : Contact) : PlantView :=
  { v with ke := Function.update v.ke p k }

/-- A channel IDLE with an empty stack (R91). -/
def ChanView.free : ChanView := { stage := .idle, string := none, called := false, waits := none }

/-- A channel given back (R91). -/
def PlantView.freeChan (v : PlantView) (c : Ch) : PlantView := v.atChan c fun _ => .free

/-! ### The laws, read off the view -/

/-- The roles of the strings that a channel, the Held Rounds List or the line has taken, and of the unfitted
positions (R61, R69). -/
structure RoleLaws (v : PlantView) : Prop where
  channel : ∀ c p, (v.chan c).string = some p →
    (v.sit p).role = .equalising ∧ (v.sit p).assigned = some (.channel c)
  held : ∀ p ∈ v.held, (v.sit p).role = .held
  once : v.held.Nodup
  line : ∀ q, v.round = some q → ∃ p, q = some p ∧ (v.sit p).role = .watering
  unfitted : ∀ p, v.fitted p = false → (v.sit p).role = .absent

/-- The commands of KF and KE, with the facts that carry them through a transfer, and the on-bus flags (R1, R60,
R94, R114, R115). -/
structure BusLaws (v : PlantView) : Prop where
  apart : ∀ p, v.ke p = .closed → v.kf p = .opened
  leaving : ∀ c p, (v.chan c).string = some p → (v.chan c).stage = .transferOut →
    (v.chan c).waits = some .kf → v.kf p = .opened
  returning : ∀ c p, (v.chan c).string = some p → (v.chan c).stage = .transferBack →
    (v.chan c).waits = some .ke → v.ke p = .opened
  stuck : ∀ p, (v.sit p).role = .isolated → (v.sit p).isolation = some .keStuck → v.ke p = .opened
  flag : ∀ p, (v.sit p).onBus = v.onBusNow p

/-- What operations keep: the shape of the channels' stacks in every case, the roles where `r` holds, the buses where
`b` does. Without the roles (a part released from reset with channels in use) the hydrogen alarm does not present
INACTIVE, so that no evaluation admits a round. -/
structure PlantLaws (r b : Prop) (v : PlantView) : Prop where
  idle : ∀ c, (v.chan c).stage = .idle ↔ (v.chan c).string = none
  call : ∀ c, (v.chan c).called = true → (v.chan c).stage = .water ∨ (v.chan c).stage = .transferBack
  own : ∀ c d p, (v.chan c).string = some p → (v.chan d).string = some p → c = d
  quiet : r ∨ v.h2 ≠ .inactive
  roles : r → RoleLaws v
  buses : b → BusLaws v

/-- The laws hold of a state. -/
abbrev Lawful (r b : Prop) (s : State) : Prop := PlantLaws r b s.view

/-- The roles agree just when the channels' shape and the roles are lawful. -/
theorem rolesAgree_iff (s : State) : RolesAgree s ↔ Lawful True False s := by
  constructor
  · rintro ⟨hidle, hcall, hchan, hheld, honce, hline, hunfit⟩
    have hchannel : ∀ c p, (s.view.chan c).string = some p →
        (s.view.sit p).role = .equalising ∧ (s.view.sit p).assigned = some (.channel c) := by
      intro c p hp
      obtain ⟨x, hx, rfl⟩ := Option.map_eq_some_iff.mp hp
      exact hchan c x hx
    refine ⟨fun c => ?_, hcall, fun c d p hc hd => ?_, .inl trivial, fun _ => ⟨hchannel, ?_, ?_, ?_, hunfit⟩,
      False.elim⟩
    · rw [show (s.view.chan c).stage = (s.chan.get c).stage from rfl, hidle c]
      simp [State.view, Channel.view]
    · have heq := (hchannel c p hc).2.symm.trans (hchannel d p hd).2
      simpa using heq
    · intro p hp
      obtain ⟨h, hmem, rfl⟩ := List.mem_map.mp hp
      exact hheld h hmem
    · exact List.pairwise_map.mpr honce
    · intro q hq
      simp only [State.view, Line.round] at hq
      split at hq
      next howner =>
        obtain ⟨p, hp, hrole⟩ := hline howner
        exact ⟨p, by rw [← hp]; simpa using hq.symm, hrole⟩
      next => simp at hq
  · intro h
    obtain ⟨hchannel, hheld, honce, hline, hunfit⟩ := h.roles trivial
    refine ⟨fun c => ?_, h.call, fun c x hx => ?_, fun e he => ?_, ?_, fun howner => ?_, hunfit⟩
    · have hidle := h.idle c
      simpa [State.view, Channel.view] using hidle
    · exact hchannel c x.string (by simp [State.view, Channel.view, hx])
    · exact hheld _ (List.mem_map_of_mem he)
    · exact List.pairwise_map.mp honce
    · exact hline s.line.string (by simp [State.view, Line.round, howner])

/-- The buses are apart just when the view's are. -/
theorem busesApart_iff (s : State) : BusesApart s ↔ BusLaws s.view := by
  have hflag : ∀ p, ((s.sit.get p).onBus = true ↔ (s.cfg.fitted.testBit (p.num - 1) = true
      ∧ s.out.kf.get p = .closed ∧ (s.inp.get (.kf p)).presented = .active)) ↔
      (s.view.sit p).onBus = s.view.onBusNow p := by
    intro p
    exact (iff_congr Iff.rfl (s.view.onBusNow_iff p).symm).trans Bool.eq_iff_iff.symm
  have hwait : (∀ (c : Ch) (x : Context) (w : Wait), (s.chan.get c).ctx = some x → (s.chan.get c).wait = some w →
        ((s.chan.get c).stage = .transferOut → w.contactor = .kf → s.out.kf.get x.string = .opened)
        ∧ ((s.chan.get c).stage = .transferBack → w.contactor = .ke → s.out.ke.get x.string = .opened)) ↔
      (∀ c p, (s.view.chan c).string = some p → (s.view.chan c).stage = .transferOut →
        (s.view.chan c).waits = some .kf → s.view.kf p = .opened)
      ∧ (∀ c p, (s.view.chan c).string = some p → (s.view.chan c).stage = .transferBack →
        (s.view.chan c).waits = some .ke → s.view.ke p = .opened) := by
    constructor
    · intro h
      have hboth : ∀ c p k, (s.view.chan c).string = some p → (s.view.chan c).waits = some k →
          ((s.chan.get c).stage = .transferOut → k = .kf → s.out.kf.get p = .opened)
          ∧ ((s.chan.get c).stage = .transferBack → k = .ke → s.out.ke.get p = .opened) := by
        intro c p k hp hk
        obtain ⟨x, hx, rfl⟩ := Option.map_eq_some_iff.mp hp
        obtain ⟨w, hw, rfl⟩ := Option.map_eq_some_iff.mp hk
        exact h c x w hx hw
      exact ⟨fun c p hp hst hk => (hboth c p _ hp hk).1 hst rfl,
        fun c p hp hst hk => (hboth c p _ hp hk).2 hst rfl⟩
    · rintro ⟨hout, hback⟩ c x w hx hw
      have hp : (s.view.chan c).string = some x.string := by simp [State.view, Channel.view, hx]
      have hk : (s.view.chan c).waits = some w.contactor := by simp [State.view, Channel.view, hw]
      exact ⟨fun hst hkf => hout c _ hp hst (hkf ▸ hk), fun hst hke => hback c _ hp hst (hke ▸ hk)⟩
  unfold BusesApart
  rw [hwait, forall_congr' hflag]
  exact ⟨fun ⟨hapart, ⟨hleaving, hreturning⟩, hstuck, hflag⟩ => ⟨hapart, hleaving, hreturning, hstuck, hflag⟩,
    fun h => ⟨h.apart, ⟨h.leaving, h.returning⟩, h.stuck, h.flag⟩⟩

/-- Roles in agreement and buses apart are the whole of the laws. -/
theorem lawful_iff (s : State) (b : Prop) : Lawful True b s ↔ RolesAgree s ∧ (b → BusesApart s) := by
  rw [rolesAgree_iff, busesApart_iff]
  exact ⟨fun h => ⟨⟨h.idle, h.call, h.own, h.quiet, h.roles, False.elim⟩, h.buses⟩,
    fun ⟨h, hb⟩ => ⟨h.idle, h.call, h.own, h.quiet, h.roles, hb⟩⟩

/-! ### What keeps the laws -/

section
variable {r b : Prop} {v : PlantView}

@[simp] theorem atChan_same (c : Ch) (f : ChanView → ChanView) : (v.atChan c f).chan c = f (v.chan c) := by
  simp [PlantView.atChan]

@[simp] theorem atChan_other (c d : Ch) (f : ChanView → ChanView) (h : d ≠ c) :
    (v.atChan c f).chan d = v.chan d := by
  simp [PlantView.atChan, h]

@[simp] theorem atChan_sit (c : Ch) (f : ChanView → ChanView) : (v.atChan c f).sit = v.sit := rfl
@[simp] theorem atChan_kf (c : Ch) (f : ChanView → ChanView) : (v.atChan c f).kf = v.kf := rfl
@[simp] theorem atChan_ke (c : Ch) (f : ChanView → ChanView) : (v.atChan c f).ke = v.ke := rfl

@[simp] theorem atSit_same (p : Pos) (f : SitView → SitView) : (v.atSit p f).sit p = f (v.sit p) := by
  simp [PlantView.atSit]

@[simp] theorem atSit_other (p q : Pos) (f : SitView → SitView) (h : q ≠ p) : (v.atSit p f).sit q = v.sit q := by
  simp [PlantView.atSit, h]

@[simp] theorem atSit_ke (p : Pos) (f : SitView → SitView) : (v.atSit p f).ke = v.ke := rfl

/-- The flag's determination looks at no string's situation. -/
@[simp] theorem atSit_onBusNow (p q : Pos) (f : SitView → SitView) : (v.atSit p f).onBusNow q = v.onBusNow q := rfl

@[simp] theorem reflag_role (p q : Pos) : ((v.reflag p).sit q).role = (v.sit q).role := by
  by_cases hq : q = p
  · subst hq; simp [PlantView.reflag]
  · simp [PlantView.reflag, hq]
@[simp] theorem reflag_assigned (p q : Pos) : ((v.reflag p).sit q).assigned = (v.sit q).assigned := by
  by_cases hq : q = p
  · subst hq; simp [PlantView.reflag]
  · simp [PlantView.reflag, hq]
@[simp] theorem reflag_isolation (p q : Pos) : ((v.reflag p).sit q).isolation = (v.sit q).isolation := by
  by_cases hq : q = p
  · subst hq; simp [PlantView.reflag]
  · simp [PlantView.reflag, hq]
theorem reflag_onBus (p q : Pos) :
    ((v.reflag p).sit q).onBus = if q = p then v.onBusNow p else (v.sit q).onBus := by
  by_cases hq : q = p
  · subst hq; simp [PlantView.reflag]
  · simp [PlantView.reflag, hq]

/-! #### Channels -/

/-- A channel whose stack is kept: its new stage and waiting step must fit the stack and the commands. -/
theorem PlantLaws.restage (h : PlantLaws r b v) (c : Ch) (f : ChanView → ChanView)
    (hstring : (f (v.chan c)).string = (v.chan c).string)
    (hidle : (f (v.chan c)).stage = .idle ↔ (v.chan c).string = none)
    (hcall : (f (v.chan c)).called = true → (f (v.chan c)).stage = .water ∨ (f (v.chan c)).stage = .transferBack)
    (hleave : b → ∀ p, (v.chan c).string = some p → (f (v.chan c)).stage = .transferOut →
      (f (v.chan c)).waits = some .kf → v.kf p = .opened)
    (hreturn : b → ∀ p, (v.chan c).string = some p → (f (v.chan c)).stage = .transferBack →
      (f (v.chan c)).waits = some .ke → v.ke p = .opened) : PlantLaws r b (v.atChan c f) := by
  have hkept : ∀ d, ((v.atChan c f).chan d).string = (v.chan d).string := by
    intro d
    by_cases hd : d = c
    · subst hd; simpa using hstring
    · simp [hd]
  refine ⟨fun d => ?_, fun d => ?_, fun d e p => by rw [hkept, hkept]; exact h.own d e p, h.quiet, fun hr => ?_,
    fun hb => ?_⟩
  · rw [hkept]
    by_cases hd : d = c
    · subst hd; simpa using hidle
    · simpa [hd] using h.idle d
  · by_cases hd : d = c
    · subst hd; simpa using hcall
    · simpa [hd] using h.call d
  · have hroles := h.roles hr
    exact ⟨fun d p hp => hroles.channel d p (by rwa [hkept] at hp), hroles.held, hroles.once, hroles.line,
      hroles.unfitted⟩
  · have hbuses := h.buses hb
    refine ⟨hbuses.apart, fun d p hp => ?_, fun d p hp => ?_, hbuses.stuck, hbuses.flag⟩
    · rw [hkept] at hp
      by_cases hd : d = c
      · subst hd; simpa using hleave hb p hp
      · simpa [hd] using hbuses.leaving d p hp
    · rw [hkept] at hp
      by_cases hd : d = c
      · subst hd; simpa using hreturn hb p hp
      · simpa [hd] using hbuses.returning d p hp

/-- A channel whose waiting step ends has nothing to ask of the commands. -/
theorem PlantLaws.restage_idly (h : PlantLaws r b v) (c : Ch) (f : ChanView → ChanView)
    (hstring : (f (v.chan c)).string = (v.chan c).string)
    (hidle : (f (v.chan c)).stage = .idle ↔ (v.chan c).string = none)
    (hcall : (f (v.chan c)).called = true → (f (v.chan c)).stage = .water ∨ (f (v.chan c)).stage = .transferBack)
    (hwait : (f (v.chan c)).waits = none
      ∨ ((f (v.chan c)).stage ≠ .transferOut ∧ (f (v.chan c)).stage ≠ .transferBack)) :
    PlantLaws r b (v.atChan c f) := by
  refine h.restage c f hstring hidle hcall (fun _ p _ hst hk => ?_) (fun _ p _ hst hk => ?_)
  · rcases hwait with hnone | ⟨hout, -⟩
    · rw [hnone] at hk; cases hk
    · exact absurd hst hout
  · rcases hwait with hnone | ⟨-, hback⟩
    · rw [hnone] at hk; cases hk
    · exact absurd hst hback

/-- A channel that is not IDLE holds a string. -/
theorem PlantLaws.string_of_active (h : PlantLaws r b v) {c : Ch} (hactive : (v.chan c).stage ≠ .idle) :
    (v.chan c).string ≠ none := fun hn => hactive ((h.idle c).2 hn)

/-- A stage change of a channel in use. -/
theorem PlantLaws.setStage (h : PlantLaws r b v) (c : Ch) (st : Stage) (hactive : (v.chan c).stage ≠ .idle)
    (hst : st ≠ .idle) (hcall : (v.chan c).called = true → st = .water ∨ st = .transferBack)
    (hwait : (v.chan c).waits = none ∨ (st ≠ .transferOut ∧ st ≠ .transferBack)) :
    PlantLaws r b (v.atChan c fun k => { k with stage := st }) :=
  h.restage_idly c _ rfl (by simp [hst, h.string_of_active hactive]) hcall hwait

/-- A waiting step that ends. -/
theorem PlantLaws.stopWait (h : PlantLaws r b v) (c : Ch) :
    PlantLaws r b (v.atChan c fun k => { k with waits := none }) :=
  h.restage_idly c _ rfl (h.idle c) (h.call c) (.inl rfl)

/-- A waiting step that starts once its contactor has been commanded (R94, R114). -/
theorem PlantLaws.startWait (h : PlantLaws r b v) (c : Ch) (k : Contactor)
    (hleave : b → ∀ p, (v.chan c).string = some p → (v.chan c).stage = .transferOut → k = .kf →
      v.kf p = .opened)
    (hreturn : b → ∀ p, (v.chan c).string = some p → (v.chan c).stage = .transferBack → k = .ke →
      v.ke p = .opened) :
    PlantLaws r b (v.atChan c fun ch => { ch with waits := some k }) :=
  h.restage c _ rfl (h.idle c) (h.call c) (fun hb p hp hst hk => hleave hb p hp hst (Option.some.inj hk))
    (fun hb p hp hst hk => hreturn hb p hp hst (Option.some.inj hk))

/-- A nested call that is popped (R113, R148). -/
theorem PlantLaws.popCall (h : PlantLaws r b v) (c : Ch) :
    PlantLaws r b (v.atChan c fun k => { k with called := false }) :=
  h.restage c _ rfl (h.idle c) (fun hc => by cases hc) (fun hb p => (h.buses hb).leaving c p)
    (fun hb p => (h.buses hb).returning c p)

/-- A nested call pushed with the change to WATER (R111). -/
theorem PlantLaws.pushCall (h : PlantLaws r b v) (c : Ch) (hactive : (v.chan c).stage ≠ .idle) :
    PlantLaws r b (v.atChan c fun k => { k with called := true, stage := .water }) :=
  h.restage_idly c _ rfl (by simp [h.string_of_active hactive]) (fun _ => .inl rfl) (.inr (by simp))

/-- A channel given back. -/
theorem PlantLaws.freeChan (h : PlantLaws r b v) (c : Ch) : PlantLaws r b (v.freeChan c) := by
  have hkept : ∀ d p, ((v.freeChan c).chan d).string = some p → d ≠ c ∧ (v.freeChan c).chan d = v.chan d := by
    intro d p hp
    by_cases hd : d = c
    · subst hd; simp [PlantView.freeChan, ChanView.free] at hp
    · exact ⟨hd, by simp [PlantView.freeChan, hd]⟩
  refine ⟨fun d => ?_, fun d => ?_, fun d e p hd he => ?_, h.quiet, fun hr => ?_, fun hb => ?_⟩
  · by_cases hd : d = c
    · subst hd; simp [PlantView.freeChan, ChanView.free]
    · simpa [PlantView.freeChan, hd] using h.idle d
  · by_cases hd : d = c
    · subst hd; simp [PlantView.freeChan, ChanView.free]
    · simpa [PlantView.freeChan, hd] using h.call d
  · rw [(hkept d p hd).2] at hd; rw [(hkept e p he).2] at he
    exact h.own d e p hd he
  · have hroles := h.roles hr
    refine ⟨fun d p hp => ?_, hroles.held, hroles.once, hroles.line, hroles.unfitted⟩
    rw [(hkept d p hp).2] at hp
    exact hroles.channel d p hp
  · have hbuses := h.buses hb
    refine ⟨hbuses.apart, fun d p hp => ?_, fun d p hp => ?_, hbuses.stuck, hbuses.flag⟩
    · have hd := (hkept d p hp).2
      rw [hd] at hp ⊢; exact hbuses.leaving d p hp
    · have hd := (hkept d p hp).2
      rw [hd] at hp ⊢; exact hbuses.returning d p hp

/-! #### Situations -/

/-- A string's situation changed: the roles must fit the places that name it, and its flag stays. -/
theorem PlantLaws.resit (h : PlantLaws r b v) (p : Pos) (f : SitView → SitView)
    (hchan : r → ∀ c, (v.chan c).string = some p →
      (f (v.sit p)).role = .equalising ∧ (f (v.sit p)).assigned = some (.channel c))
    (hheld : r → p ∈ v.held → (f (v.sit p)).role = .held)
    (hline : r → v.round = some (some p) → (f (v.sit p)).role = .watering)
    (hunfit : r → v.fitted p = false → (f (v.sit p)).role = .absent)
    (hstuck : b → (f (v.sit p)).role = .isolated → (f (v.sit p)).isolation = some .keStuck → v.ke p = .opened)
    (hflag : b → (f (v.sit p)).onBus = (v.sit p).onBus) : PlantLaws r b (v.atSit p f) := by
  refine ⟨h.idle, h.call, h.own, h.quiet, fun hr => ?_, fun hb => ?_⟩
  · have hroles := h.roles hr
    refine ⟨fun c q hq => ?_, fun q hq => ?_, hroles.once, fun q hq => ?_, fun q hq => ?_⟩
    · by_cases hqp : q = p
      · subst hqp; simpa using hchan hr c hq
      · simpa [hqp] using hroles.channel c q hq
    · by_cases hqp : q = p
      · subst hqp; simpa using hheld hr hq
      · simpa [hqp] using hroles.held q hq
    · obtain ⟨q, rfl, hrole⟩ := hroles.line q hq
      refine ⟨q, rfl, ?_⟩
      by_cases hqp : q = p
      · subst hqp; simpa using hline hr hq
      · simpa [hqp] using hrole
    · by_cases hqp : q = p
      · subst hqp; simpa using hunfit hr hq
      · simpa [hqp] using hroles.unfitted q hq
  · have hbuses := h.buses hb
    refine ⟨hbuses.apart, hbuses.leaving, hbuses.returning, fun q => ?_, fun q => ?_⟩
    · by_cases hqp : q = p
      · subst hqp; simpa using hstuck hb
      · simpa [hqp] using hbuses.stuck q
    · by_cases hqp : q = p
      · subst hqp; simpa [hflag hb] using hbuses.flag q
      · simpa [hqp] using hbuses.flag q

/-- No place has a claim on a fitted string: no channel, no held round, no standalone watering. -/
structure PlantView.Unclaimed (v : PlantView) (p : Pos) : Prop where
  chan : ∀ c, (v.chan c).string ≠ some p
  held : p ∉ v.held
  line : v.round ≠ some (some p)
  fitted : v.fitted p = true

/-- A string in a role of no place is unclaimed. -/
theorem RoleLaws.unclaimed (h : RoleLaws v) {p : Pos} (hrole : (v.sit p).role = .float ∨ (v.sit p).role = .isolated) :
    v.Unclaimed p := by
  have hno : ∀ x : Role, x ≠ .float → x ≠ .isolated → (v.sit p).role ≠ x := by
    rintro x hf hi rfl
    exact hrole.elim hf hi
  refine ⟨fun c hc => hno .equalising (by decide) (by decide) (h.channel c p hc).1,
    fun hp => hno .held (by decide) (by decide) (h.held p hp), fun hp => ?_, ?_⟩
  · obtain ⟨q, hq, hw⟩ := h.line _ hp
    exact hno .watering (by decide) (by decide) (Option.some.inj hq ▸ hw)
  · by_contra hfit
    exact hno .absent (by decide) (by decide) (h.unfitted p (by simpa using hfit))

/-- The string of a channel given back is unclaimed. -/
theorem PlantLaws.unclaimed_of_freeChan (h : PlantLaws r b v) (hr : r) {c : Ch} {p : Pos}
    (hc : (v.chan c).string = some p) : (v.freeChan c).Unclaimed p := by
  have hroles := h.roles hr
  have hrole := (hroles.channel c p hc).1
  refine ⟨fun d hd => ?_, fun hp => ?_, fun hp => ?_, ?_⟩
  · by_cases hdc : d = c
    · subst hdc; simp [PlantView.freeChan, ChanView.free] at hd
    · rw [PlantView.freeChan, atChan_other _ _ _ hdc] at hd
      exact hdc (h.own d c p hd hc)
  · rw [hroles.held p hp] at hrole; cases hrole
  · obtain ⟨q, hq, hw⟩ := hroles.line _ hp
    rw [Option.some.inj hq, hw] at hrole; cases hrole
  · by_contra hfit
    rw [hroles.unfitted p (Bool.eq_false_iff.mpr hfit)] at hrole; cases hrole

/-- The situation of an unclaimed string may become any that has no KE stuck CLOSED. -/
theorem PlantLaws.resit_unclaimed (h : PlantLaws r b v) (p : Pos) (f : SitView → SitView)
    (hfree : r → v.Unclaimed p)
    (hstuck : b → (f (v.sit p)).role = .isolated → (f (v.sit p)).isolation = some .keStuck → v.ke p = .opened)
    (hflag : (f (v.sit p)).onBus = (v.sit p).onBus) : PlantLaws r b (v.atSit p f) :=
  h.resit p f (fun hr c hc => absurd hc ((hfree hr).chan c)) (fun hr hp => absurd hp (hfree hr).held)
    (fun hr hp => absurd hp (hfree hr).line) (fun hr hp => by rw [(hfree hr).fitted] at hp; cases hp) hstuck
    (fun _ => hflag)

/-- The roles look at no output and at no input. -/
theorem RoleLaws.elsewhere (h : RoleLaws v) (ke : Pos → Contact) (h2 : Presented) :
    RoleLaws { v with ke := ke, h2 := h2 } :=
  ⟨h.channel, h.held, h.once, h.line, h.unfitted⟩

/-- The buses look at neither the Held Rounds List nor the line. -/
theorem BusLaws.elsewhere (h : BusLaws v) (held : List Pos) (round : Option (Option Pos)) (h2 : Presented) :
    BusLaws { v with held := held, round := round, h2 := h2 } :=
  ⟨h.apart, h.leaving, h.returning, h.stuck, h.flag⟩

/-- Held contexts that leave the Held Rounds List. -/
theorem PlantLaws.unhold (h : PlantLaws r b v) {l : List Pos} (hl : l.Sublist v.held) :
    PlantLaws r b { v with held := l } := by
  refine ⟨h.idle, h.call, h.own, h.quiet, fun hr => ?_, fun hb => (h.buses hb).elsewhere _ _ _⟩
  have hroles := h.roles hr
  exact ⟨hroles.channel, fun p hp => hroles.held p (hl.subset hp), hroles.once.sublist hl, hroles.line,
    hroles.unfitted⟩

/-- An unclaimed string whose round joins the Held Rounds List (R130). -/
theorem PlantLaws.hold (h : PlantLaws r b v) (p : Pos) (f : SitView → SitView) (hfree : r → v.Unclaimed p)
    (hrole : (f (v.sit p)).role = .held) (hflag : (f (v.sit p)).onBus = (v.sit p).onBus) :
    PlantLaws r b { v.atSit p f with held := v.held ++ [p] } := by
  have hsit := h.resit_unclaimed p f hfree (fun _ hi => by rw [hrole] at hi; cases hi) hflag
  refine ⟨hsit.idle, hsit.call, hsit.own, hsit.quiet, fun hr => ?_, fun hb => (hsit.buses hb).elsewhere _ _ _⟩
  have hroles := hsit.roles hr
  refine ⟨hroles.channel, fun q hq => ?_, ?_, hroles.line, hroles.unfitted⟩
  · rcases List.mem_append.mp hq with hq | hq
    · exact hroles.held q hq
    · obtain rfl := List.mem_singleton.mp hq
      simpa using hrole
  · exact List.nodup_append.mpr ⟨hroles.once, List.nodup_singleton p, fun q hq x hx => by
      obtain rfl := List.mem_singleton.mp hx
      exact fun e => (hfree hr).held (e ▸ hq)⟩

/-- The line without a standalone round. -/
theorem PlantLaws.endRound (h : PlantLaws r b v) : PlantLaws r b { v with round := none } := by
  refine ⟨h.idle, h.call, h.own, h.quiet, fun hr => ?_, fun hb => (h.buses hb).elsewhere _ _ _⟩
  have hroles := h.roles hr
  exact ⟨hroles.channel, hroles.held, hroles.once, fun q hq => (by cases hq), hroles.unfitted⟩

/-- A standalone watering of an unclaimed string (R88). -/
theorem PlantLaws.water (h : PlantLaws r b v) (p : Pos) (f : SitView → SitView) (hfree : r → v.Unclaimed p)
    (hrole : (f (v.sit p)).role = .watering) (hflag : (f (v.sit p)).onBus = (v.sit p).onBus) :
    PlantLaws r b { v.atSit p f with round := some (some p) } := by
  have hsit := h.resit_unclaimed p f hfree (fun _ hi => by rw [hrole] at hi; cases hi) hflag
  refine ⟨hsit.idle, hsit.call, hsit.own, hsit.quiet, fun hr => ?_, fun hb => (hsit.buses hb).elsewhere _ _ _⟩
  have hroles := hsit.roles hr
  exact ⟨hroles.channel, hroles.held, hroles.once,
    fun q hq => ⟨p, (Option.some.inj hq).symm, by simpa using hrole⟩, hroles.unfitted⟩

/-- An unclaimed string given to an IDLE channel, which starts TRANSFER_OUT with it (R88, R89). -/
theorem PlantLaws.giveChan (h : PlantLaws r b v) (c : Ch) (p : Pos) (f : SitView → SitView) (hr : r)
    (hfree : v.Unclaimed p) (hrole : (f (v.sit p)).role = .equalising)
    (hassigned : (f (v.sit p)).assigned = some (.channel c)) (hflag : (f (v.sit p)).onBus = (v.sit p).onBus) :
    PlantLaws r b ((v.atSit p f).atChan c fun _ =>
      { stage := .transferOut, string := some p, called := false, waits := none }) := by
  have hsit := h.resit_unclaimed p f (fun _ => hfree) (fun _ hi => by rw [hrole] at hi; cases hi) hflag
  generalize hw : v.atSit p f = w at hsit ⊢
  have hchan : w.chan = v.chan := by rw [← hw]; rfl
  have hp : w.sit p = f (v.sit p) := by rw [← hw]; simp
  have hnone : ∀ d, (w.chan d).string ≠ some p := by rw [hchan]; exact hfree.chan
  refine ⟨fun d => ?_, fun d => ?_, fun d e q hd he => ?_, hsit.quiet, fun _ => ?_, fun hb => ?_⟩
  · by_cases hd : d = c
    · subst hd; simp
    · simpa [hd] using hsit.idle d
  · by_cases hd : d = c
    · subst hd; simp
    · simpa [hd] using hsit.call d
  · by_cases hdc : d = c <;> by_cases hec : e = c
    · rw [hdc, hec]
    · subst hdc
      rw [atChan_same] at hd; rw [atChan_other _ _ _ hec, ← hd] at he
      exact absurd he (hnone e)
    · subst hec
      rw [atChan_same] at he; rw [atChan_other _ _ _ hdc, ← he] at hd
      exact absurd hd (hnone d)
    · rw [atChan_other _ _ _ hdc] at hd; rw [atChan_other _ _ _ hec] at he
      exact hsit.own d e q hd he
  · have hroles := hsit.roles hr
    refine ⟨fun d q hq => ?_, hroles.held, hroles.once, hroles.line, hroles.unfitted⟩
    by_cases hd : d = c
    · subst hd
      rw [atChan_same] at hq
      obtain rfl := Option.some.inj hq
      rw [atChan_sit, hp]; exact ⟨hrole, hassigned⟩
    · rw [atChan_other _ _ _ hd] at hq; exact hroles.channel d q hq
  · have hbuses := hsit.buses hb
    refine ⟨hbuses.apart, fun d q hq hst hk => ?_, fun d q hq hst hk => ?_, hbuses.stuck, hbuses.flag⟩
    · by_cases hd : d = c
      · subst hd; simp at hk
      · rw [atChan_other _ _ _ hd] at hq hst hk; exact hbuses.leaving d q hq hst hk
    · by_cases hd : d = c
      · subst hd; simp at hk
      · rw [atChan_other _ _ _ hd] at hq hst hk; exact hbuses.returning d q hq hst hk

/-! #### Contactors and feedbacks -/

/-- KF and its feedback at one position. -/
def PlantView.moveKf (v : PlantView) (p : Pos) (k : Contact) (x : Presented) : PlantView :=
  { v with kf := Function.update v.kf p k, kfShown := Function.update v.kfShown p x }

@[simp] theorem moveKf_sit (p : Pos) (k : Contact) (x : Presented) : (v.moveKf p k x).sit = v.sit := rfl

/-- KF and its feedback at one position, with the flag recomputed: a KF that is now commanded CLOSED has its KE OPEN,
and no channel waits to see it open. -/
theorem PlantLaws.moveKf (h : PlantLaws r b v) (p : Pos) (k : Contact) (x : Presented)
    (hclose : b → k = .closed → v.kf p = .opened → v.ke p = .opened
      ∧ ∀ c, (v.chan c).string = some p → (v.chan c).stage = .transferOut → (v.chan c).waits ≠ some .kf) :
    PlantLaws r b ((v.moveKf p k x).reflag p) := by
  refine ⟨h.idle, h.call, h.own, h.quiet, fun hr => ?_, fun hb => ?_⟩
  · have hroles := h.roles hr
    exact ⟨fun c q hq => by simpa using hroles.channel c q hq, fun q hq => by simpa using hroles.held q hq,
      hroles.once, fun q hq => by simpa using hroles.line q hq, fun q hq => by simpa using hroles.unfitted q hq⟩
  · have hbuses := h.buses hb
    have hkf : ∀ q, (v.moveKf p k x).kf q = if q = p then k else v.kf q := fun q => by
      simp [PlantView.moveKf, Function.update_apply]
    have hopen : k = .opened ∨ v.kf p = .closed
        ∨ (v.ke p = .opened
          ∧ ∀ c, (v.chan c).string = some p → (v.chan c).stage = .transferOut →
            (v.chan c).waits ≠ some .kf) := by
      cases hk : k with
      | opened => exact .inl rfl
      | closed =>
        cases hv : v.kf p with
        | closed => exact .inr (.inl rfl)
        | opened => exact .inr (.inr (hclose hb hk hv))
    refine ⟨fun q hq => ?_, fun c q hc hst hw => ?_, hbuses.returning,
      fun q hrole hiso => hbuses.stuck q (by simpa using hrole) (by simpa using hiso), fun q => ?_⟩
    · show (v.moveKf p k x).kf q = .opened
      have hwas := hbuses.apart q hq
      rw [hkf]
      split
      next hqp =>
        subst hqp
        rcases hopen with hk | hv | ⟨hke, -⟩
        · exact hk
        · rw [hv] at hwas; cases hwas
        · rw [show v.ke q = .closed from hq] at hke; cases hke
      next => exact hwas
    · show (v.moveKf p k x).kf q = .opened
      have hwas := hbuses.leaving c q hc hst hw
      rw [hkf]
      split
      next hqp =>
        subst hqp
        rcases hopen with hk | hv | ⟨-, hnone⟩
        · exact hk
        · rw [hv] at hwas; cases hwas
        · exact absurd hw (hnone c hc hst)
      next => exact hwas
    · rw [reflag_onBus]
      split
      next hqp => subst hqp; rfl
      next hqp =>
        show (v.sit q).onBus = (v.moveKf p k x).onBusNow q
        rw [hbuses.flag q]
        simp [PlantView.onBusNow, PlantView.moveKf, hqp]

/-- KF's command moves the contact alone. -/
theorem PlantView.commandKf_eq (p : Pos) (k : Contact) : v.commandKf p k = (v.moveKf p k (v.kfShown p)).reflag p := by
  simp [PlantView.commandKf, PlantView.moveKf]

/-- KF commanded (R1, R94, R114, R115). -/
theorem PlantLaws.commandKf (h : PlantLaws r b v) (p : Pos) (k : Contact)
    (hclose : b → k = .closed → v.kf p = .opened → v.ke p = .opened
      ∧ ∀ c, (v.chan c).string = some p → (v.chan c).stage = .transferOut → (v.chan c).waits ≠ some .kf) :
    PlantLaws r b (v.commandKf p k) := by
  rw [PlantView.commandKf_eq]
  exact h.moveKf p k _ hclose

/-- A KF feedback that changes (R60). -/
theorem PlantLaws.showKf (h : PlantLaws r b v) (p : Pos) (x : Presented) :
    PlantLaws r b (PlantView.reflag { v with kfShown := Function.update v.kfShown p x } p) := by
  have hmove := h.moveKf p (v.kf p) x fun _ hk hv => by rw [hk] at hv; cases hv
  simpa [PlantView.moveKf] using hmove

/-- KE commanded: a KE that is closed has its KF OPEN, no channel waits to see it open, and its string is not
ISOLATED for it (R1, R94, R114, R115). -/
theorem PlantLaws.commandKe (h : PlantLaws r b v) (p : Pos) (k : Contact)
    (hclose : b → k = .closed → v.kf p = .opened ∧ (v.sit p).role ≠ .isolated
      ∧ ∀ c, (v.chan c).string = some p → (v.chan c).stage ≠ .transferBack) :
    PlantLaws r b (v.commandKe p k) := by
  refine ⟨h.idle, h.call, h.own, h.quiet, fun hr => (h.roles hr).elsewhere _ _, fun hb => ?_⟩
  · have hbuses := h.buses hb
    have hke : ∀ q, (v.commandKe p k).ke q = if q = p then k else v.ke q := fun q => by
      simp [PlantView.commandKe, Function.update_apply]
    have hopen : ∀ q, v.ke q = .opened → (q = p → k ≠ .closed) → (v.commandKe p k).ke q = .opened := by
      intro q hq hk
      rw [hke]
      split
      next hqp => cases k with
        | opened => rfl
        | closed => exact absurd rfl (hk hqp)
      next => exact hq
    refine ⟨fun q hq => ?_, hbuses.leaving, fun c q hc hst hw => ?_, fun q hrole hiso => ?_, hbuses.flag⟩
    · rw [hke] at hq
      split at hq
      next hqp => subst hqp; exact (hclose hb hq).1
      next => exact hbuses.apart q hq
    · exact hopen q (hbuses.returning c q hc hst hw) fun hqp hk => (hclose hb hk).2.2 c (hqp ▸ hc) hst
    · exact hopen q (hbuses.stuck q hrole hiso) fun hqp hk => (hclose hb hk).2.1 (hqp ▸ hrole)

/-- The hydrogen alarm's feedback matters only where the roles are not kept. -/
theorem PlantLaws.showH2 (h : PlantLaws r b v) (hr : r) (x : Presented) : PlantLaws r b { v with h2 := x } :=
  ⟨h.idle, h.call, h.own, .inl hr, fun hr => (h.roles hr).elsewhere _ _, fun hb => (h.buses hb).elsewhere _ _ _⟩

end

end Sys2Proof.Machine
end

-- ==== Proofs: what the operations make of the view ====
section
/-! PROOFS. The operations that leave the view alone, and those whose change of it is a plain update. -/

namespace Sys2Proof.Machine

open Sys2Proof.Safety

/-! ### What the operations make of the view -/

section
variable (s : State)

/-! #### Updates of one unit -/

@[simp] theorem view_modHist (p : Pos) (f : StringHistory → StringHistory) : (s.modHist p f).view = s.view := rfl
@[simp] theorem view_modPerm (f : Permissions → Permissions) : (s.modPerm f).view = s.view := rfl
@[simp] theorem view_wantReserve : s.wantReserve.view = s.view := rfl
@[simp] theorem view_wantAdmission : s.wantAdmission.view = s.view := rfl
@[simp] theorem view_event (c : Condition) (n v : Nat) (l : Option Level) : (s.event c n v l).view = s.view := rfl
@[simp] theorem view_atLeastMs (t : Nat) : (atLeastMs s t).view = s.view := rfl

/-- A string's situation changed. -/
theorem view_modSit (p : Pos) (f : StringSituation → StringSituation) (g : SitView → SitView)
    (h : (f (s.sit.get p)).view = g (s.sit.get p).view) : (s.modSit p f).view = s.view.atSit p g := by
  have hsit : (fun q => ((s.modSit p f).sit.get q).view) = Function.update s.view.sit p (g (s.view.sit p)) := by
    funext q
    by_cases hq : q = p
    · subst hq; simpa [State.view] using h
    · simp [hq, State.view]
  exact congrArg (fun x => { s.view with sit := x }) hsit

/-- A change of a situation's other fields. -/
@[simp] theorem view_modSit_same (p : Pos) (f : StringSituation → StringSituation)
    (h : ∀ t, (f t).role = t.role ∧ (f t).assigned = t.assigned ∧ (f t).isolation = t.isolation
      ∧ (f t).onBus = t.onBus) : (s.modSit p f).view = s.view := by
  obtain ⟨hrole, hassigned, hisolation, honBus⟩ := h (s.sit.get p)
  rw [view_modSit s p f id (by simp [StringSituation.view, hrole, hassigned, hisolation, honBus])]
  simp [PlantView.atSit]

/-- A channel changed. -/
theorem view_modChan (c : Ch) (f : Channel → Channel) (g : ChanView → ChanView)
    (h : (f (s.chan.get c)).view = g (s.chan.get c).view) : (s.modChan c f).view = s.view.atChan c g := by
  have hchan : (fun d => ((s.modChan c f).chan.get d).view) = Function.update s.view.chan c (g (s.view.chan c)) := by
    funext d
    by_cases hd : d = c
    · subst hd; simpa [State.view] using h
    · simp [hd, State.view]
  exact congrArg (fun x => { s.view with chan := x }) hchan

/-- A change that keeps the string of the context it finds. -/
theorem view_modCtx_of (c : Ch) (f : Context → Context)
    (h : ∀ x, (s.chan.get c).ctx = some x → (f x).string = x.string) : (s.modCtx c f).view = s.view := by
  have hstring : ((s.chan.get c).ctx.map f).map (·.string) = (s.chan.get c).ctx.map (·.string) := by
    cases hx : (s.chan.get c).ctx with
    | none => rfl
    | some x => simp [h x hx]
  rw [State.modCtx, view_modChan s c _ id (by simp only [Channel.view, hstring, id])]
  simp [PlantView.atChan]

/-- A change of a context that keeps its string. -/
@[simp] theorem view_modCtx (c : Ch) (f : Context → Context) (h : ∀ x, (f x).string = x.string) :
    (s.modCtx c f).view = s.view := view_modCtx_of s c f fun x _ => h x

/-- A change of a nested call's fields. -/
@[simp] theorem view_modCall (c : Ch) (f : Call → Call) : (s.modCall c f).view = s.view := by
  rw [State.modCall, view_modChan s c _ id (by simp [Channel.view])]
  simp [PlantView.atChan]

/-- A change of the line that keeps its standalone round. -/
theorem view_modLine (f : Line → Line) (h : (f s.line).round = s.line.round) : (s.modLine f).view = s.view :=
  congrArg (fun x => { s.view with round := x }) h

@[simp] theorem view_stopWait (c : Ch) :
    (stopWait s c).view = s.view.atChan c fun k => { k with waits := none } := view_modChan s c _ _ rfl

@[simp] theorem view_startWait (c : Ch) (k : Contactor) :
    (startWait s c k).view = s.view.atChan c fun ch => { ch with waits := some k } := view_modChan s c _ _ rfl

@[simp] theorem view_withdrawCall (c : Ch) :
    (withdrawCall s c).view = s.view.atChan c fun k => { k with called := false } := by
  rw [withdrawCall, view_modChan _ c _ (fun k => { k with called := false }) rfl, view_modLine _ _ rfl]

/-! #### Outputs -/

@[simp] theorem view_setEnable (c : Ch) (on : Bool) : (setEnable s c on).view = s.view := rfl
@[simp] theorem view_setLimit (c : Ch) (n : Nat) : (setLimit s c n).view = s.view := rfl
@[simp] theorem view_commandKs (p : Pos) (c : Ch) : (commandKs s p c).view = s.view := rfl
@[simp] theorem view_setPump (on : Bool) : (setPump s on).view = s.view := rfl

/-- An on-bus flag's recomputation (R60). -/
@[simp] theorem view_recomputeOnBus (p : Pos) : (recomputeOnBus s p).view = s.view.reflag p := by
  rw [← recomputeOnBus_frame, recomputeOnBus_sit]
  exact view_modSit s p (fun t => { t with onBus := onBusNow s p }) (fun t => { t with onBus := s.view.onBusNow p }) rfl

/-- A position's output written. -/
theorem get_set_eq_update {α : Type} (e : Eight α) (p : Pos) (a : α) :
    (e.set p a).get = Function.update e.get p a := by
  funext q
  by_cases hq : q = p
  · subst hq; simp
  · simp [hq]

@[simp] theorem view_commandKf (p : Pos) (k : Contact) : (commandKf s p k).view = s.view.commandKf p k := by
  rw [commandKf, view_recomputeOnBus, PlantView.commandKf]
  exact congrArg (fun x => PlantView.reflag { s.view with kf := x } p) (get_set_eq_update s.out.kf p k)

@[simp] theorem view_commandKe (p : Pos) (k : Contact) : (commandKe s p k).view = s.view.commandKe p k :=
  congrArg (fun x => { s.view with ke := x }) (get_set_eq_update s.out.ke p k)

/-! #### Site Permissions and stage changes -/

@[simp] theorem view_ventMonitor : (ventMonitor s).view = s.view := by rw [← ventMonitor_frame]; rfl

@[simp] theorem view_recomputeFan : (recomputeFan s).view = s.view := by
  unfold recomputeFan; dsimp only
  split
  · rfl
  · rw [view_ventMonitor]; rfl

@[simp] theorem view_stageDelivered (st : Stage) : (stageDelivered s st).view = s.view := by
  unfold stageDelivered; dsimp only
  split <;> simp

@[simp] theorem view_writeDirect (c : Ch) : (writeDirect s c).view = s.view := by
  unfold writeDirect; dsimp only
  split
  · rfl
  · split
    · rfl
    · rfl
    · rfl
    all_goals split <;> rfl

@[simp] theorem view_writeHysteresis (c : Ch) : (writeHysteresis s c).view = s.view := by
  unfold writeHysteresis; dsimp only
  split
  · rfl
  · split
    · rfl
    · split <;> rfl

/-- A stage change (R91). -/
@[simp] theorem view_setStage (c : Ch) (st : Stage) :
    (setStage s c st).view = s.view.atChan c fun k => { k with stage := st } := by
  simp only [setStage, view_stageDelivered, view_writeDirect, view_modCtx, implies_true]
  exact view_modChan s c (fun ch => { ch with stage := st }) _ rfl

@[simp] theorem view_speedDelivered (n : Nat) : (speedDelivered s n).view = s.view := by simp [speedDelivered]

@[simp] theorem view_purgeStart : (purgeStart s).view = s.view := by simp [purgeStart]

@[simp] theorem view_ventRecovers : (ventRecovers s).view = s.view := by simp [ventRecovers]

@[simp] theorem view_surplusBack : (surplusBack s).view = s.view := rfl

@[simp] theorem view_disableChargers : (disableChargers s).view = s.view := by
  have hone : ∀ (t : State) (c : Ch), (if isIdle t c then t else setEnable t c false).view = t.view := by
    intro t c; split <;> rfl
  simp only [disableChargers, List.foldl_cons, List.foldl_nil, hone]

/-! #### Records, queue, histories, readings -/

@[simp] theorem view_writeRecord (x : Record) : (writeRecord s x).view = s.view := rfl
@[simp] theorem view_placeEntry (e : Entry) : (placeEntry s e).view = s.view := rfl
@[simp] theorem view_removeEntries (p : Pos) : (removeEntries s p).view = s.view := rfl
@[simp] theorem view_markRoundOpen (p : Pos) (k : Kind) : (markRoundOpen s p k).view = s.view := rfl
@[simp] theorem view_setEqLock (p : Pos) (x : EqLockReason) : (setEqLock s p x).view = s.view := rfl
@[simp] theorem view_setWaterLock (p : Pos) : (setWaterLock s p).view = s.view := rfl

@[simp] theorem view_offer (p : Pos) (k : Kind) (o : Origin) (tag : Byte) : (offer s p k o tag).1.view = s.view := by
  rw [← offer_frame]; rfl

@[simp] theorem view_historyUpdate (p : Pos) : (historyUpdate s p).view = s.view := by simp [historyUpdate]

@[simp] theorem view_recomputeSense (p : Pos) : (recomputeSense s p).view = s.view := by
  unfold recomputeSense; dsimp only
  split
  · split <;> simp
  · rfl

@[simp] theorem view_dueRise (p : Pos) : (dueRise s p).view = s.view := by
  unfold dueRise; dsimp only
  split <;> simp

@[simp] theorem view_dueEvaluate (p : Pos) : (dueEvaluate s p).view = s.view := by
  unfold dueEvaluate
  split
  · split <;> simp
  · simp

/-- A change made position by position that leaves the view alone. -/
theorem view_foldl {α : Type} (f : State → α → State) (h : ∀ t a, (f t a).view = t.view) (l : List α) :
    (l.foldl f s).view = s.view := by
  induction l generalizing s with
  | nil => rfl
  | cons a l ih => rw [List.foldl_cons, ih, h]

@[simp] theorem view_dueEvaluateAll : (dueEvaluateAll s).view = s.view :=
  view_foldl s _ (fun t p => by split <;> simp) _

@[simp] theorem view_hourRollover (p : Pos) : (hourRollover s p).view = s.view := by simp [hourRollover]

@[simp] theorem view_throughputAdd (p : Pos) (v : Int) : (throughputAdd s p v).view = s.view := by
  unfold throughputAdd
  split <;> simp

@[simp] theorem view_levelDelivered (p : Pos) (k : DeliveryKind) : (levelDelivered s p k).view = s.view := by
  unfold levelDelivered; dsimp only
  split
  · split
    · split <;> simp
    · simp
    · rfl
  · rfl

@[simp] theorem view_weakOffer (p : Pos) (cell deficit : Nat) : (weakOffer s p cell deficit).1.view = s.view := by
  rw [← weakOffer_frame]; rfl

@[simp] theorem view_screenCell (c : Ch) (p : Pos) (mean cell mv : Nat) :
    (screenCell s c p mean cell mv).view = s.view := by
  unfold screenCell; dsimp only
  split
  · split <;> simp
  · rfl

@[simp] theorem view_screenFrom (c : Ch) (p : Pos) (mean n : Nat) (l : List CellEntry) :
    (screenFrom c p mean n l s).view = s.view := by
  induction l generalizing n s with
  | nil => rfl
  | cons e l ih => rw [screenFrom, ih, view_screenCell]

@[simp] theorem view_screenCells (c : Ch) (p : Pos) : (screenCells s c p).view = s.view := by
  unfold screenCells
  split <;> simp

@[simp] theorem view_computeFloat : (computeFloat s).view = s.view := by
  unfold computeFloat; dsimp only
  split
  · split <;> rfl
  · rfl

/-! #### The line and the account -/

@[simp] theorem view_countDose : (countDose s).view = s.view := by
  unfold countDose
  split <;> rfl

@[simp] theorem view_enterDosing : (enterDosing s).view = s.view := by
  rw [enterDosing, view_setPump, view_modLine _ _ rfl, view_countDose]

@[simp] theorem view_enterPause : (enterPause s).view = s.view := rfl

@[simp] theorem view_closeLine (o : Outcome) : (closeLine s o).view = s.view := by
  unfold closeLine; dsimp only
  split <;> rfl

@[simp] theorem view_endReservoirEmpty : (endReservoirEmpty s).view = s.view := by simp [endReservoirEmpty]

@[simp] theorem view_lineStop : (lineStop s).view = s.view := by
  unfold lineStop
  split <;> simp

@[simp] theorem view_lineHalt : (lineHalt s).view = s.view := by
  unfold lineHalt
  split <;> simp

@[simp] theorem view_lineResLow : (lineResLow s).view = s.view := by
  unfold lineResLow
  split <;> simp

@[simp] theorem view_reservoirTest : (reservoirTest s).view = s.view := by rw [← reservoirTest_frame]; rfl

@[simp] theorem view_setAccount (n : Nat) : (setAccount s n).view = s.view := by
  rw [setAccount, view_reservoirTest]; rfl

@[simp] theorem view_countPulse : (countPulse s).view = s.view := rfl

@[simp] theorem view_overvolume : (overvolume s).view = s.view := by
  unfold overvolume
  split <;> simp

@[simp] theorem view_pulseTests : (pulseTests s).view = s.view := by
  unfold pulseTests
  split
  · split <;> simp
  · split
    · simp
    · split <;> simp

@[simp] theorem view_linePulse : (linePulse s).view = s.view := by
  unfold linePulse; dsimp only
  split
  · split <;> simp
  · simp

@[simp] theorem view_handDoseEnd (d : DoseEnd) : (handDoseEnd s d).view = s.view := by
  unfold handDoseEnd
  split <;> rfl

/-! #### The link -/

@[simp] theorem view_placeMessage (f : Frame) : (placeMessage s f).view = s.view := rfl
@[simp] theorem view_reply (f : Frame) (st : Status) (l : List Byte) : (reply s f st l).view = s.view := rfl
@[simp] theorem view_refuse (f : Frame) (x : Reason) : (refuse s f x).view = s.view := rfl
@[simp] theorem view_cancelReply (f : Frame) (st : Status) (pl : Place) : (cancelReply s f st pl).view = s.view := rfl
@[simp] theorem view_afterTaking : (afterTaking s).view = s.view := rfl
@[simp] theorem view_setFramer (f : Framer) : (setFramer s f).view = s.view := rfl
@[simp] theorem view_linkError (e : LinkFault) : (linkError s e).view = s.view := rfl

@[simp] theorem view_completeFrame (x : Byte) : (completeFrame s x).view = s.view := by
  unfold completeFrame; dsimp only
  split
  · simp
  · split
    · simp
    · rfl

@[simp] theorem view_framerByte (x : Byte) : (framerByte s x).view = s.view := by
  unfold framerByte; dsimp only
  split
  · split <;> rfl
  · split
    · rfl
    · split <;> simp
  · rfl
  · split <;> simp

end

end Sys2Proof.Machine
end

-- ==== Proofs: the channels: returns, aborts, ramp and hold ====
section
/-! PROOFS. The operations of the Equalise Channels that return to the load bus or stay on the charger bus keep the laws. -/

namespace Sys2Proof.Machine

open Sys2Proof.Safety

/-! ### The channels' operations -/

section
variable (v : PlantView) (p : Pos) (k : Contact)
@[simp] theorem PlantView.commandKf_chan : (v.commandKf p k).chan = v.chan := rfl
@[simp] theorem PlantView.commandKf_kf_same : (v.commandKf p k).kf p = k := Function.update_self ..
@[simp] theorem PlantView.commandKe_chan : (v.commandKe p k).chan = v.chan := rfl
@[simp] theorem PlantView.commandKe_ke_same : (v.commandKe p k).ke p = k := Function.update_self ..
end

/-- The stage in the view is the channel's. -/
theorem view_stage (s : State) (c : Ch) : (s.view.chan c).stage = (s.chan.get c).stage := rfl

/-- The string in the view is that of the channel's context. -/
theorem view_string_of_ctx {s : State} {c : Ch} {x : Context} (h : (s.chan.get c).ctx = some x) :
    (s.view.chan c).string = some x.string := by simp [State.view, Channel.view, h]

/-- A contact that is not CLOSED is OPEN. -/
theorem opened_of_ne_closed {k : Contact} (h : k ≠ .closed) : k = .opened := by
  cases k with
  | closed => exact absurd rfl h
  | opened => rfl

section
variable {r b : Prop} {s : State}

/-- A channel outside WATER and TRANSFER_BACK holds no call. -/
theorem PlantLaws.not_called {v : PlantView} (h : PlantLaws r b v) {c : Ch} (hw : (v.chan c).stage ≠ .water)
    (hback : (v.chan c).stage ≠ .transferBack) : (v.chan c).called ≠ true :=
  fun hc => (h.call c hc).elim hw hback

/-! #### The return to the load bus -/

/-- The end of a round: the channel is given back, the string is FLOAT, or as a failed return left it (R116). -/
theorem view_endRound (s : State) (c : Ch) (x : Context) (failed : Bool) :
    (endRound s c x failed).view =
      (s.view.freeChan c).atSit x.string fun t =>
        { t with role := if failed then t.role else .float, assigned := none } := by
  have hfreed : (s.modChan c fun ch => { Channel.reset with toStart := ch.toStart }).view = s.view.freeChan c :=
    view_modChan s c _ _ rfl
  unfold endRound; dsimp only
  rw [view_stageDelivered, view_writeDirect, view_writeRecord, ← hfreed]
  split <;> simp only [view_offer] <;> exact view_modSit _ _ _ _ rfl

theorem lawful_endRound (h : Lawful r b s) {c : Ch} {x : Context} (hx : (s.view.chan c).string = some x.string) :
    Lawful r b (endRound s c x false) := by
  rw [Lawful, view_endRound]
  exact (h.freeChan c).resit_unclaimed _ _ (fun hr => h.unclaimed_of_freeChan hr hx)
    (fun _ hi => by cases hi) rfl

/-- A context that joins the Held Rounds List (R130). -/
theorem view_joinHeld (s : State) (e : Held) (gen : Nat) :
    ({ s with held := { entries := s.held.entries ++ [e], gen := gen } } : State).view =
      { s.view with held := s.view.held ++ [e.ctx.string] } :=
  congrArg (fun l => { s.view with held := l }) List.map_append

theorem lawful_suspension (h : Lawful r b s) {c : Ch} {x : Context} (cause : Cause)
    (hx : (s.view.chan c).string = some x.string) : Lawful r b (suspension s c x cause) := by
  unfold suspension; dsimp only
  split
  · exact lawful_endRound (by simpa [Lawful] using h) (by simpa [suspendContext] using hx)
  split
  · exact lawful_endRound h (by simpa [suspendContext] using hx)
  · have hfreed : (s.modChan c fun ch => { Channel.reset with toStart := ch.toStart }).view = s.view.freeChan c :=
      view_modChan s c _ _ rfl
    rw [Lawful, view_wantAdmission, view_stageDelivered, view_writeDirect]
    rw [view_modSit _ _ _ (fun t => { t with role := .held, assigned := none }) rfl, view_joinHeld, hfreed]
    exact (h.freeChan c).hold x.string (fun t => { t with role := .held, assigned := none })
      (fun hr => h.unclaimed_of_freeChan hr hx) rfl rfl

theorem lawful_backComplete (h : Lawful r b s) (c : Ch) : Lawful r b (backComplete s c) := by
  have hstopped : Lawful r b (stopWait s c) := by rw [Lawful, view_stopWait]; exact h.stopWait c
  unfold backComplete; dsimp only
  split
  next => exact hstopped
  next x hx =>
    have hstring := view_string_of_ctx hx
    split
    · exact hstopped
    · split
      · exact lawful_suspension hstopped _ hstring
      all_goals exact lawful_endRound hstopped hstring

theorem lawful_backStep4 (h : Lawful r b s) (c : Ch) : Lawful r b (backStep4 s c) := by
  unfold backStep4
  split
  · exact h
  · exact lawful_backComplete (by simpa [Lawful] using h) c

/-- Step 3 of the return closes KF on a string whose KE is commanded OPEN (R114). -/
theorem lawful_backStep3 (h : Lawful r b s) {c : Ch} (hst : (s.view.chan c).stage = .transferBack)
    (hke : b → ∀ p, (s.view.chan c).string = some p → s.view.ke p = .opened) : Lawful r b (backStep3 s c) := by
  unfold backStep3
  split
  next => exact h
  next p hp =>
    split
    next hkf =>
      have hclosed : Lawful r b (commandKf s p .closed) := by
        rw [Lawful, view_commandKf]
        refine h.commandKf p .closed fun hb _ _ => ⟨hke hb p hp, fun d hd hout => ?_⟩
        obtain rfl := h.own d c p hd hp
        rw [hst] at hout; cases hout
      dsimp only
      split
      · exact lawful_backStep4 hclosed c
      · rw [Lawful, view_startWait]
        refine hclosed.startWait c .kf (fun _ q _ hout => ?_) (fun _ q _ _ hk => by cases hk)
        rw [view_commandKf, PlantView.commandKf_chan, hst] at hout; cases hout
    next => exact lawful_backStep4 h c

/-- Step 2 of the return opens KE (R114). -/
theorem lawful_backStep2 (h : Lawful r b s) {c : Ch} (hst : (s.view.chan c).stage = .transferBack) :
    Lawful r b (backStep2 s c) := by
  unfold backStep2
  split
  next => exact h
  next p hp =>
    have hown : ∀ q, (s.view.chan c).string = some q → q = p := fun q hq => Option.some.inj (hq.symm.trans hp)
    split
    next =>
      have hopened : Lawful r b (commandKe s p .opened) := by
        rw [Lawful, view_commandKe]
        exact h.commandKe p .opened fun _ hk => by cases hk
      have hke : ∀ q, ((commandKe s p .opened).view.chan c).string = some q →
          (commandKe s p .opened).view.ke q = .opened := by
        intro q hq
        obtain rfl := hown q hq
        simp
      dsimp only
      split
      · exact lawful_backStep3 hopened (by simpa using hst) fun _ => hke
      · rw [Lawful, view_startWait]
        exact hopened.startWait c .ke (fun _ q _ _ hk => by cases hk) (fun _ q hq _ _ => hke q hq)
    next hke =>
      refine lawful_backStep3 h hst fun _ q hq => ?_
      obtain rfl := hown q hq
      exact opened_of_ne_closed hke

/-- The entry to TRANSFER_BACK of a channel in use (R114). -/
theorem lawful_enterBack (h : Lawful r b s) {c : Ch} (e : Exit) (hactive : (s.view.chan c).stage ≠ .idle) :
    Lawful r b (enterBack s c e) := by
  have hstopped := h.stopWait c
  have hback := hstopped.setStage c .transferBack (by simpa using hactive) (by decide) (fun _ => .inr rfl)
    (.inl (by simp))
  unfold enterBack; dsimp only
  exact lawful_backStep2 (by simpa [Lawful] using hback) (by simp)

/-! #### Aborts, cuts, suspending causes -/

@[simp] theorem view_keepFinalCell (s : State) (c : Ch) : (keepFinalCell s c).view = s.view := by
  unfold keepFinalCell
  split <;> simp

@[simp] theorem view_cutFlags (s : State) (c : Ch) (defer : Bool) : (cutFlags s c defer).view = s.view := by
  simp [cutFlags]

@[simp] theorem view_askStop (s : State) (c : Ch) : (askStop s c).view = s.view := by
  unfold askStop
  split <;> simp

theorem lawful_withdrawCall (h : Lawful r b s) (c : Ch) : Lawful r b (withdrawCall s c) := by
  rw [Lawful, view_withdrawCall]; exact h.popCall c

theorem lawful_abortRound (h : Lawful r b s) {c : Ch} (o : Outcome) (hactive : (s.view.chan c).stage ≠ .idle) :
    Lawful r b (abortRound s c o) :=
  lawful_enterBack (by simpa [Lawful] using h) _ (by simpa using hactive)

theorem lawful_cutRound (h : Lawful r b s) (c : Ch) (defer h2 : Bool) : Lawful r b (cutRound s c defer h2) := by
  unfold cutRound; dsimp only
  split
  next hst => exact lawful_enterBack (by simpa [Lawful] using h) _ (by simp [view_stage, hst])
  next k hst hk =>
    split
    · split
      · exact h
      · split <;> simpa [Lawful] using h
    · exact lawful_enterBack (by simpa [Lawful] using h.popCall c) _ (by simp [view_stage, hst])
  next => exact h

theorem lawful_readingCause (h : Lawful r b s) (c : Ch) (o : Outcome) : Lawful r b (readingCause s c o) := by
  unfold readingCause
  split
  next hst => exact lawful_abortRound h o (by simp [view_stage, hst])
  next hst => exact lawful_abortRound h o (by simp [view_stage, hst])
  next hst => exact lawful_abortRound h o (by simp [view_stage, hst])
  next => exact lawful_cutRound h c _ _
  next => exact lawful_cutRound h c _ _
  next => exact h
  next => exact h

theorem lawful_suspendingCause (h : Lawful r b s) (c : Ch) (cause : Cause) :
    Lawful r b (suspendingCause s c cause) := by
  have hback : (s.view.chan c).stage ≠ .idle → Lawful r b (enterBack (keepFinalCell s c) c (.suspended cause)) :=
    fun hactive => lawful_enterBack (by simpa [Lawful] using h) _ (by simpa using hactive)
  unfold suspendingCause
  split
  next hst => exact hback (by simp [view_stage, hst])
  next hst => exact hback (by simp [view_stage, hst])
  next hst => exact hback (by simp [view_stage, hst])
  next => exact lawful_cutRound h c _ _
  next => exact lawful_cutRound h c _ _
  next => exact h
  next => exact h

end

/-- What is done to one channel after another keeps the laws. -/
theorem lawful_foldl {r b : Prop} {α : Type} (f : State → α → State)
    (hf : ∀ t a, Lawful r b t → Lawful r b (f t a))
    (l : List α) {s : State} (h : Lawful r b s) : Lawful r b (l.foldl f s) := by
  induction l generalizing s with
  | nil => exact h
  | cons a l ih => exact ih (hf s a h)

section
variable {r b : Prop} {s : State}

theorem lawful_deliverCause (h : Lawful r b s) (cause : Cause) (concerns : Stage → Bool) :
    Lawful r b (deliverCause s cause concerns) :=
  lawful_foldl _ (fun t c ht => by
    split
    · exact lawful_suspendingCause ht c cause
    · exact ht) _ h

/-! #### Ramp and hold -/

/-- A stage change between two stages of a channel on its charger bus. -/
theorem lawful_advance (h : Lawful r b s) (c : Ch) (st : Stage) (hactive : (s.view.chan c).stage ≠ .idle)
    (hwater : (s.view.chan c).stage ≠ .water) (hback : (s.view.chan c).stage ≠ .transferBack)
    (hst : st = .ramp ∨ st = .hold ∨ st = .settle) : Lawful r b (setStage s c st) := by
  rw [Lawful, view_setStage]
  refine h.setStage c st hactive ?_ (fun hc => absurd hc (h.not_called hwater hback)) (.inr ?_) <;>
  · rcases hst with rfl | rfl | rfl <;> decide

theorem lawful_enterHold (h : Lawful r b s) {c : Ch} (hst : (s.view.chan c).stage = .ramp) :
    Lawful r b (enterHold s c) := by
  unfold enterHold
  exact lawful_advance (by simpa [Lawful] using h) c .hold (by simp [hst]) (by simp [hst]) (by simp [hst])
    (.inr (.inl rfl))

theorem lawful_targetTest (h : Lawful r b s) (c : Ch) : Lawful r b (targetTest s c) := by
  unfold targetTest; dsimp only
  split
  next x hst _ =>
    split
    · exact lawful_enterHold h hst
    · exact h
  next => exact h

theorem lawful_enterRamp (h : Lawful r b s) {c : Ch} (hst : (s.view.chan c).stage = .transferOut) :
    Lawful r b (enterRamp s c) := by
  unfold enterRamp
  refine lawful_targetTest (lawful_advance ?_ c .ramp (by simp [hst]) (by simp [hst]) (by simp [hst]) (.inl rfl)) c
  simpa [Lawful] using h.stopWait c

theorem lawful_rampStep (h : Lawful r b s) (c : Ch) : Lawful r b (rampStep s c) :=
  lawful_targetTest (by simpa [Lawful] using h) c

/-- An equalise that finishes from RAMP or HOLD (R103). -/
theorem lawful_finish (h : Lawful r b s) {c : Ch} (o : Outcome)
    (hst : (s.view.chan c).stage = .ramp ∨ (s.view.chan c).stage = .hold) : Lawful r b (finish s c o) := by
  unfold finish
  split
  · exact h
  · refine lawful_advance (by simpa [Lawful] using h) c .settle ?_ ?_ ?_ (.inr (.inr rfl)) <;>
    · rcases hst with hst | hst <;> simp [hst]

theorem lawful_runawayAbort (h : Lawful r b s) {c : Ch} (p : Pos) (rise : Nat)
    (hactive : (s.view.chan c).stage ≠ .idle) : Lawful r b (runawayAbort s c p rise) :=
  lawful_abortRound (by simpa [Lawful] using h) _ (by simpa using hactive)

theorem lawful_windowEnd (h : Lawful r b s) {c : Ch} (hst : (s.view.chan c).stage = .hold) :
    Lawful r b (windowEnd s c) := by
  unfold windowEnd; dsimp only
  split
  · exact h
  split
  · simpa [Lawful] using h
  split
  · exact lawful_runawayAbort (by simpa [Lawful] using h) _ _ (by simp [hst])
  split
  · exact lawful_finish (by simpa [Lawful] using h) _ (by simp [hst])
  · simpa [Lawful] using h

theorem lawful_holdWindow (h : Lawful r b s) {c : Ch} (hst : (s.view.chan c).stage = .hold) :
    Lawful r b (holdWindow s c) := by
  unfold holdWindow; dsimp only
  split
  · exact h
  split
  · split
    · simpa [Lawful] using lawful_windowEnd h hst
    · exact lawful_windowEnd h hst
  · exact h

theorem lawful_holdLimitTest (h : Lawful r b s) (c : Ch) : Lawful r b (holdLimitTest s c) := by
  unfold holdLimitTest
  split
  · exact h
  split
  next hin =>
    have hst : (s.view.chan c).stage = .hold := by
      simp only [Bool.and_eq_true, inHold, beq_iff_eq] at hin
      exact hin.1
    exact lawful_finish h _ (.inr hst)
  next => exact h

theorem lawful_holdMinute (h : Lawful r b s) {c : Ch} (hst : (s.view.chan c).stage = .hold) :
    Lawful r b (holdMinute s c) :=
  lawful_holdLimitTest (lawful_holdWindow (by simpa [Lawful] using h) (by simpa using hst)) c

theorem lawful_chargeSample (h : Lawful r b s) (c : Ch) (amps : Eight Int) : Lawful r b (chargeSample s c amps) := by
  unfold chargeSample; dsimp only
  split
  next => exact h
  next x hx =>
    split
    next hst =>
      have hst : (s.view.chan c).stage = .ramp ∨ (s.view.chan c).stage = .hold := by
        simpa [view_stage] using hst
      have hview : ∀ y : Context, y.string = x.string → (s.modCtx c fun _ => y).view = s.view :=
        fun y hy => view_modCtx_of s c _ fun z hz => by rw [hy, Option.some.inj (hx.symm.trans hz)]
      split
      · exact lawful_finish (by simpa [Lawful, hview] using h) _ (by simpa [hview] using hst)
      · simpa [Lawful, hview] using h
    next => exact h

/-! #### Readings of the held string -/

theorem lawful_holdback (h : Lawful r b s) (c : Ch) (x : Context) : Lawful r b (holdback s c x) :=
  lawful_targetTest (by simpa [Lawful] using h) c

theorem lawful_channelScan (h : Lawful r b s) (p : Pos) : Lawful r b (channelScan s p) := by
  have hlimit : ∀ (c : Ch) (x : Context) (mv : Nat),
      Lawful r b (if s.cfg.cellMaxMv < mv then holdback s c x else s) := by
    intro c x mv
    split
    · exact lawful_holdback h c x
    · exact h
  unfold channelScan
  split
  · exact h
  split
  · split
    · exact lawful_readingCause h _ _
    · split
      · exact hlimit _ _ _
      · exact hlimit _ _ _
      all_goals exact h
  · exact h

theorem lawful_channelPilot (h : Lawful r b s) (p : Pos) : Lawful r b (channelPilot s p) := by
  unfold channelPilot; dsimp only
  split
  · exact h
  split
  · split
    · exact lawful_readingCause (by simpa [Lawful] using h) _ _
    · simpa [Lawful] using h
  · split
    · exact lawful_readingCause h _ _
    · exact h

theorem lawful_recomputeComp (h : Lawful r b s) (p : Pos) : Lawful r b (recomputeComp s p) := by
  have hcomp : Lawful r b { s with comp := s.comp.set p (compRecord s p) } := h
  unfold recomputeComp; dsimp only
  split
  · exact lawful_targetTest (by simpa [Lawful] using hcomp) _
  · exact hcomp

end

end Sys2Proof.Machine
end

-- ==== Proofs: transfers out, the line, held rounds, admission ====
section
/-! PROOFS. The operations that take a string for a channel or the line, or end a round there, keep the laws, and so does the
settling of a step. -/

namespace Sys2Proof.Machine

open Sys2Proof.Safety

section
variable {r b : Prop} {s : State}

/-! #### Leaving the load bus -/

/-- Step 4 of the transfer out closes KE on a string whose KF is commanded OPEN (R94). -/
theorem lawful_outStep4 (h : Lawful r b s) {c : Ch} (hr : r) (hst : (s.view.chan c).stage = .transferOut)
    (hkf : b → ∀ p, (s.view.chan c).string = some p → s.view.kf p = .opened) : Lawful r b (outStep4 s c) := by
  unfold outStep4
  split
  next => exact h
  next p hp =>
    have hclosed : Lawful r b (commandKe s p .closed) := by
      rw [Lawful, view_commandKe]
      refine h.commandKe p .closed fun hb _ => ⟨hkf hb p hp, ?_, fun d hd => ?_⟩
      · rw [((h.roles hr).channel c p hp).1]; decide
      · obtain rfl := h.own d c p hd hp
        rw [hst]; decide
    dsimp only
    split
    · exact lawful_enterRamp hclosed (by simpa using hst)
    · rw [Lawful, view_startWait]
      refine hclosed.startWait c .ke (fun _ q _ _ hk => by cases hk) (fun _ q _ hback => ?_)
      rw [view_commandKe, PlantView.commandKe_chan, hst] at hback; cases hback

/-- Step 3 of the transfer out opens KF (R94). -/
theorem lawful_outStep3 (h : Lawful r b s) {c : Ch} (hr : r) (hst : (s.view.chan c).stage = .transferOut) :
    Lawful r b (outStep3 s c) := by
  unfold outStep3
  split
  next => exact h
  next p hp =>
    have hopened : Lawful r b (commandKf s p .opened) := by
      rw [Lawful, view_commandKf]
      exact h.commandKf p .opened fun _ hk => by cases hk
    have hkf : ∀ q, ((commandKf s p .opened).view.chan c).string = some q →
        (commandKf s p .opened).view.kf q = .opened := by
      intro q hq
      rw [view_commandKf, PlantView.commandKf_chan] at hq
      obtain rfl : q = p := Option.some.inj (hq.symm.trans hp)
      simp
    dsimp only
    split
    · exact lawful_outStep4 hopened hr (by simpa using hst) fun _ => hkf
    · rw [Lawful, view_startWait]
      exact hopened.startWait c .kf (fun _ q hq _ _ => hkf q hq) (fun _ q _ _ hk => by cases hk)

theorem lawful_outStep2 (h : Lawful r b s) {c : Ch} (hr : r) (hst : (s.view.chan c).stage = .transferOut) :
    Lawful r b (outStep2 s c) := by
  unfold outStep2; dsimp only
  split
  next => exact h
  next p hp =>
    have hks : Lawful r b (commandKs s p c) := by simpa [Lawful] using h
    split
    · exact lawful_outStep3 hks hr (by simpa using hst)
    · rw [Lawful, view_startWait]
      exact hks.startWait c .ks (fun _ q _ _ hk => by cases hk) (fun _ q _ _ hk => by cases hk)

/-- An IDLE channel takes an unclaimed string and leaves the load bus with it (R88, R89). -/
theorem lawful_giveChannel (h : Lawful r b s) (hr : r) (c : Ch) (x : Context) (hfree : s.view.Unclaimed x.string) :
    Lawful r b (giveChannel s c x) := by
  have hgiven := h.giveChan c x.string (fun t => { t with role := .equalising, assigned := some (.channel c) }) hr hfree
    rfl rfl rfl
  rw [← view_modSit s x.string (fun t => { t with role := .equalising, assigned := some (.channel c) }) _ rfl]
    at hgiven
  unfold giveChannel startTransferOut; dsimp only
  generalize s.modSit x.string _ = t at hgiven ⊢
  have hview : ∀ n, (setStage ((t.modChan c fun ch => { ch with ctx := some x, call := none, wait := none }).modChan c
        fun ch => { ch with toStart := some n }) c .transferOut).view =
      t.view.atChan c fun _ => { stage := .transferOut, string := some x.string, called := false, waits := none } := by
    intro n
    rw [view_setStage, view_modChan _ c _ id rfl, view_modChan _ c _ (fun k =>
      { k with string := some x.string, called := false, waits := none }) rfl]
    simp [PlantView.atChan]
  refine lawful_outStep2 ?_ hr ?_
  · rw [Lawful, view_setEnable, view_setLimit, hview]; exact hgiven
  · rw [view_setEnable, view_setLimit, hview]; simp

/-! #### Contactor feedback -/

@[simp] theorem view_contactorFault (s : State) (c : Ch) (p : Pos) (k : Contactor) (l : Option Level) :
    (contactorFault s c p k l).view = s.view := by simp [contactorFault]

theorem lawful_disagreement (h : Lawful r b s) {c : Ch} (p : Pos) (k : Contactor) (l : Option Level)
    (hactive : (s.view.chan c).stage ≠ .idle) : Lawful r b (disagreement s c p k l) := by
  unfold disagreement
  split
  · split
    · split
      · exact h
      · simpa [Lawful] using h
    · exact lawful_abortRound (by simpa [Lawful] using h.popCall c) _ (by simpa using hactive)
  · exact lawful_abortRound (by simpa [Lawful] using h) _ (by simpa using hactive)

/-- A waiting step that completes: what it waited for has been commanded, so the next step may begin (R95). -/
theorem lawful_nextStep (h : Lawful r b s) (hr : r) {c : Ch} {k : Contactor} (hk : (s.view.chan c).waits = some k) :
    Lawful r b (nextStep s c k) := by
  have hstopped : Lawful r b (stopWait s c) := by rw [Lawful, view_stopWait]; exact h.stopWait c
  have hstage : ((stopWait s c).view.chan c).stage = (s.view.chan c).stage := by simp
  have hstring : ((stopWait s c).view.chan c).string = (s.view.chan c).string := by simp
  unfold nextStep; dsimp only
  split
  next hst => exact lawful_outStep3 hstopped hr hst
  next hst =>
    refine lawful_outStep4 hstopped hr hst fun hb p hp => ?_
    rw [hstring] at hp
    simpa using (h.buses hb).leaving c p hp (hstage.symm.trans hst) hk
  next hst => exact lawful_enterRamp hstopped hst
  next hst =>
    refine lawful_backStep3 hstopped hst fun hb p hp => ?_
    rw [hstring] at hp
    simpa using (h.buses hb).returning c p hp (hstage.symm.trans hst) hk
  next hst => exact lawful_backStep4 hstopped c
  next => exact hstopped

/-- The channel that holds a string is in use, with that string. -/
theorem holder_spec {p : Pos} {c : Ch} (hc : holder s p = some c) :
    (s.view.chan c).stage ≠ .idle ∧ (s.view.chan c).string = some p := by
  have hholds : ∀ d, (!(isIdle s d) && ((s.chan.get d).ctx.map (·.string) == some p)) = true →
      (s.view.chan d).stage ≠ .idle ∧ (s.view.chan d).string = some p := by
    intro d hd
    simpa [isIdle, State.view, Channel.view] using hd
  unfold holder at hc; dsimp only at hc
  split at hc
  next ha => obtain rfl := Option.some.inj hc; exact hholds _ ha
  next =>
    split at hc
    next hb => obtain rfl := Option.some.inj hc; exact hholds _ hb
    next => cases hc

theorem lawful_channelFeedback (h : Lawful r b s) (hr : r) (p : Pos) (k : Contactor) (l : Option Level) :
    Lawful r b (channelFeedback s p k l) := by
  unfold channelFeedback; dsimp only
  split
  next => exact h
  next c hc =>
    obtain ⟨hactive, -⟩ := holder_spec hc
    split
    next hk =>
      split
      · exact lawful_nextStep h hr (by simpa [State.view, Channel.view] using hk)
      · exact h
    next =>
      split
      · exact lawful_disagreement h p k l hactive
      · exact h

/-! #### Timeouts -/

/-- A waiting step whose timer has run out waits in its stage. -/
theorem dueStep_spec {c : Ch} {st : Stage} {w : Wait} (hw : dueStep s c st = some w) :
    (s.view.chan c).stage = st ∧ (s.view.chan c).waits = some w.contactor := by
  unfold dueStep at hw
  split at hw
  next hst =>
    refine ⟨hst, ?_⟩
    split at hw
    next w' hwait =>
      split at hw
      · obtain rfl := Option.some.inj hw; simp [State.view, Channel.view, hwait]
      · cases hw
    next => cases hw
  next => cases hw

theorem lawful_outTimeout (h : Lawful r b s) {c : Ch} (k : Contactor) (hactive : (s.view.chan c).stage ≠ .idle) :
    Lawful r b (outTimeout s c k) := by
  unfold outTimeout
  split
  · exact h
  · exact lawful_abortRound (by simpa [Lawful] using h) _ (by simpa using hactive)

/-- A return that fails leaves its string ISOLATED; one that waited for KE has commanded it OPEN (R115). -/
theorem lawful_backTimeout (h : Lawful r b s) {c : Ch} {k : Contactor} (hst : (s.view.chan c).stage = .transferBack)
    (hk : (s.view.chan c).waits = some k) : Lawful r b (backTimeout s c k) := by
  unfold backTimeout; dsimp only
  split
  next => exact h
  next x hx =>
    have hstring := view_string_of_ctx hx
    have hserved : ∀ t : State, (withServed t c x).string = x.string := fun t =>
      (congrArg Context.string (withServed_frame t c x) :)
    generalize hiso : (if k = .ke then Isolation.keStuck else Isolation.kfStuck) = reason
    have hview : (enterIsolated s x.string reason).view =
        s.view.atSit x.string fun t => { t with role := .isolated, assigned := none, isolation := some reason } :=
      view_modSit s x.string (fun t => { t with role := .isolated, assigned := none, isolation := some reason }) _ rfl
    rw [Lawful, view_endRound, view_setEqLock, hview]
    dsimp only
    rw [hserved]
    have hfailed := (h.freeChan c).resit_unclaimed x.string
      (fun t => { t with role := .isolated, assigned := none, isolation := some reason })
      (fun hr => h.unclaimed_of_freeChan hr hstring)
      (fun hb _ hstuck => (h.buses hb).returning c _ hstring hst (by
        rw [hk]
        by_contra hne
        rw [if_neg (fun e => hne (congrArg some e))] at hiso
        rw [← hiso] at hstuck; cases hstuck)) rfl
    convert hfailed using 1
    simp [PlantView.freeChan, PlantView.atChan, PlantView.atSit]

/-! #### The line -/

/-- The taking of a watering: a standalone round's string is the line's (R138). -/
theorem view_lineTake (s : State) (o : Owner) (p : Pos) (i : Option RoundIdentity) (d : Option ManualDose) :
    (lineTake s o p i d).view = { s.view with round := if o = .round then some (some p) else none } := by
  have htaken : ∀ l : Line, l.owner = some o → l.string = some p →
      l.round = if o = .round then some (some p) else none := by
    intro l ho hp
    simp [Line.round, ho, hp]
  have hline : (setValve (s.modLine fun l =>
      { l with
        stage := .priming, owner := some o, string := some p, identity := i, dose := d, ml := 0,
        pulses := 0, doses := 0, doseMl := 0, outcome := none, timer := 0, flowRef := none }) p .opened).view =
      { s.view with round := if o = .round then some (some p) else none } := by
    refine congrArg (fun x => { s.view with round := x }) (htaken _ ?_ ?_) <;> rfl
  unfold lineTake; dsimp only
  split
  · rw [view_endReservoirEmpty, hline]
  · exact hline

/-- A call on the line is no standalone round (R138, R148). -/
theorem view_lineTakeCall (s : State) (c : Ch) :
    (lineTakeCall s c).view = s.view ∨ (lineTakeCall s c).view = { s.view with round := none } := by
  unfold lineTakeCall; dsimp only
  split
  · exact .inl rfl
  · right
    rw [view_lineTake, view_modCall, view_modLine _ _ rfl, if_neg (by simp)]

theorem lawful_lineTakeCall (h : Lawful r b s) (c : Ch) : Lawful r b (lineTakeCall s c) := by
  rcases view_lineTakeCall s c with hsame | hnone
  · rw [Lawful, hsame]; exact h
  · rw [Lawful, hnone]; exact h.endRound

/-- The line serves the next requester, and no standalone round (R147). -/
theorem view_lineNext (s : State) : (lineNext s).view = { s.view with round := none } := by
  have hreleased : (s.modLine fun l =>
      { l with owner := none, string := none, identity := none, dose := none, claimEnded := false }).view =
      { s.view with round := none } := rfl
  unfold lineNext; dsimp only
  split
  next c _ _ =>
    rcases view_lineTakeCall (s.modLine fun l =>
      { l with owner := none, string := none, identity := none, dose := none, claimEnded := false }) c with h | h
    · rw [h, hreleased]
    · rw [h, hreleased]
  next => rfl

theorem lawful_lineNext (h : Lawful r b s) : Lawful r b (lineNext s) := by
  rw [Lawful, view_lineNext]; exact h.endRound

/-! #### Settle and water -/

theorem lawful_enterWater (h : Lawful r b s) {c : Ch} (hactive : (s.view.chan c).stage ≠ .idle) :
    Lawful r b (enterWater s c) := by
  unfold enterWater; dsimp only
  split
  · exact h
  split
  · exact lawful_enterBack h _ hactive
  · have hpushed : Lawful r b (setStage (s.modChan c fun ch => { ch with call := some Call.pushed }) c .water) := by
      rw [Lawful, view_setStage, view_modChan s c _ (fun k => { k with called := true }) rfl]
      simpa [PlantView.atChan] using h.pushCall c hactive
    split
    · exact lawful_lineTakeCall hpushed c
    · rw [Lawful, view_modLine _ _ rfl]; exact hpushed

theorem lawful_settleEnd (h : Lawful r b s) {c : Ch} (hactive : (s.view.chan c).stage ≠ .idle) :
    Lawful r b (settleEnd s c) := by
  unfold settleEnd
  split
  · exact h
  split
  · exact lawful_enterWater h hactive
  · exact lawful_enterBack h _ hactive

theorem lawful_giveUp (h : Lawful r b s) {c : Ch} (hactive : (s.view.chan c).stage ≠ .idle) :
    Lawful r b (giveUp s c) :=
  lawful_enterBack (by simpa [Lawful] using h.popCall c) _ (by simpa using hactive)

/-- A call handed back is popped; a channel with a call is in WATER or TRANSFER_BACK (R93, R113). -/
theorem lawful_lineReturn (h : Lawful r b s) (c : Ch) (w : WaterResult) : Lawful r b (lineReturn s c w) := by
  unfold lineReturn; dsimp only
  split
  next => exact h
  next k hk =>
    have hactive : (s.view.chan c).stage ≠ .idle := by
      have hcall := h.call c (by simp [State.view, Channel.view, hk])
      rcases hcall with hst | hst <;> simp [hst]
    generalize ht : (s.modCtx c _).modChan c _ = t
    have hview : t.view = s.view.atChan c fun k => { k with called := false } := by
      rw [← ht, view_modChan _ c _ (fun k => { k with called := false }) rfl, view_modCtx _ _ _ (by simp)]
    have hpopped : Lawful r b t := by rw [Lawful, hview]; exact h.popCall c
    split
    · split
      · exact lawful_backComplete hpopped c
      · exact hpopped
    · exact lawful_enterBack hpopped _ (by rw [hview]; simpa using hactive)

theorem lawful_restartChannel (h : Lawful r b s) (c : Ch) : Lawful r b (restartChannel s c) := by
  unfold restartChannel; dsimp only
  have habort : ∀ waits : Bool, (s.view.chan c).stage ≠ .idle →
      Lawful r b (abortRound (if waits = true then withdrawCall s c else s) c .interrupted) := by
    intro waits hactive
    split
    · exact lawful_abortRound (lawful_withdrawCall h c) _ (by simpa using hactive)
    · exact lawful_abortRound h _ hactive
  split
  · exact h
  · simpa [Lawful] using h
  all_goals
    rename_i hst
    exact habort _ (by simp [view_stage, hst])

/-! #### Rounds that end on the line and in the Held Rounds List -/

/-- The string of a standalone watering is unclaimed once the line has ended it. -/
theorem RoleLaws.unclaimed_of_watering {v : PlantView} (h : RoleLaws v) {p : Pos} (hrole : (v.sit p).role = .watering) :
    PlantView.Unclaimed { v with round := none } p := by
  refine ⟨fun c hc => ?_, fun hp => ?_, by simp, ?_⟩
  · rw [(h.channel c p hc).1] at hrole; cases hrole
  · rw [h.held p hp] at hrole; cases hrole
  · by_contra hfit
    rw [h.unfitted p (Bool.eq_false_iff.mpr hfit)] at hrole; cases hrole

/-- A standalone round that ends leaves its string FLOAT, and the line (R147). -/
theorem lawful_lineNext_endLineRound (h : Lawful r b s) (howner : s.line.owner = some .round) :
    Lawful r b (lineNext (endLineRound s)) := by
  rw [Lawful, view_lineNext]
  unfold endLineRound; dsimp only
  split
  next p i hp _ =>
    rw [view_writeRecord, view_modSit s p _ (fun t => { t with role := .float, assigned := none }) rfl]
    refine h.endRound.resit_unclaimed p (fun t => { t with role := .float, assigned := none }) (fun hr => ?_)
      (fun _ hi => by cases hi) rfl
    obtain ⟨q, hq, hrole⟩ := (h.roles hr).line s.line.string (by simp [State.view, Line.round, howner])
    obtain rfl := Option.some.inj (hp.symm.trans hq)
    exact (h.roles hr).unclaimed_of_watering hrole
  next => exact h.endRound

/-- The host's return to MANUAL names no standalone round (R147). -/
theorem view_backToManual (howner : s.line.owner = some .host) : (backToManual s).view = s.view :=
  view_modLine s _ (by simp [Line.round, howner])

theorem handDoseEnd_owner (d : DoseEnd) : (handDoseEnd s d).line.owner = s.line.owner := by
  unfold handDoseEnd
  split <;> rfl

theorem lawful_closingEnd (h : Lawful r b s) : Lawful r b (closingEnd s) := by
  unfold closingEnd; dsimp only
  split
  next howner => exact lawful_lineNext_endLineRound h howner
  next c _ => exact lawful_lineNext (lawful_lineReturn h c _)
  next howner =>
    have hended : ∀ t : State, t.view = s.view → t.line.owner = s.line.owner →
        Lawful r b (if t.line.claimEnded = true then lineNext t else backToManual t) := by
      intro t hview ht
      have hlawful : Lawful r b t := by rw [Lawful, hview]; exact h
      split
      · exact lawful_lineNext hlawful
      · rw [Lawful, view_backToManual (ht.trans howner)]; exact hlawful
    split
    next d _ => exact hended _ (view_handDoseEnd s d) (handDoseEnd_owner d)
    next => exact hended s rfl rfl
  next => exact lawful_lineNext h

theorem lawful_restartLine (h : Lawful r b s) : Lawful r b (restartLine s) := by
  have hended : ∀ t : State, t.view = s.view → Lawful r b (t.modLine fun l => { l with claimEnded := true }) := by
    intro t hview
    rw [Lawful, view_modLine _ _ rfl, hview]; exact h
  have hclosed : ∀ host : Bool, Lawful r b
      (if host = true then (closeLine s .stopped).modLine fun l => { l with claimEnded := true }
       else closeLine s .cancelled) := by
    intro host
    split
    · exact hended _ (view_closeLine s _)
    · simpa [Lawful] using h
  unfold restartLine; dsimp only
  split
  · exact hclosed _
  · exact hclosed _
  · exact hclosed _
  · split
    · exact hended s rfl
    · exact h
  · exact lawful_lineNext h
  · exact h

/-- A held context that leaves the Held Rounds List. -/
theorem view_removeHeld (s : State) (e : Held) :
    (removeHeld s e).view =
      { s.view with held := (s.held.entries.filter (· != e)).map (·.ctx.string) } := rfl

theorem lawful_removeHeld (h : Lawful r b s) (e : Held) : Lawful r b (removeHeld s e) := by
  rw [Lawful, view_removeHeld]
  exact h.unhold (List.filter_sublist.map _)

/-- The string of a held context is unclaimed once the context has left the list. -/
theorem unclaimed_of_removeHeld (h : Lawful r b s) (hr : r) {e : Held} (he : e ∈ s.held.entries) :
    (removeHeld s e).view.Unclaimed e.ctx.string := by
  have hroles := h.roles hr
  have hrole : (s.view.sit e.ctx.string).role = .held := hroles.held _ (List.mem_map_of_mem he)
  rw [view_removeHeld]
  refine ⟨fun c hc => ?_, fun hp => ?_, fun hp => ?_, ?_⟩
  · rw [(hroles.channel c _ hc).1] at hrole; cases hrole
  · obtain ⟨d, hd, hstring⟩ := List.mem_map.mp hp
    obtain ⟨hmem, hne⟩ := List.mem_filter.mp hd
    exact (bne_iff_ne.mp hne) (List.inj_on_of_nodup_map hroles.once hmem he hstring)
  · obtain ⟨q, hq, hwater⟩ := hroles.line _ hp
    rw [Option.some.inj hq, hwater] at hrole; cases hrole
  · by_contra hfit
    rw [hroles.unfitted _ (Bool.eq_false_iff.mpr hfit)] at hrole; cases hrole

/-- A held round that ends leaves its string FLOAT (R131, R133). -/
theorem lawful_endHeld (h : Lawful r b s) (hr : r) {e : Held} (he : e ∈ s.held.entries) (o : Outcome) :
    Lawful r b (endHeld s e o) := by
  unfold endHeld; dsimp only
  rw [Lawful, view_writeRecord, view_modSit _ _ _ (fun t => { t with role := .float, assigned := none }) rfl]
  exact (lawful_removeHeld h e).resit_unclaimed _ (fun t => { t with role := .float, assigned := none })
    (fun _ => unclaimed_of_removeHeld h hr he) (fun _ hi => by cases hi) rfl

theorem lawful_expireHeld (h : Lawful r b s) (hr : r) {e : Held} (he : e ∈ s.held.entries) (why : Expiry) :
    Lawful r b (expireHeld s e why) := by
  unfold expireHeld
  exact lawful_endHeld (by simpa [Lawful] using h) hr (by simpa using he) _

/-- The contexts that an end of one leaves held. -/
theorem mem_endHeld {e d : Held} (hd : d ∈ s.held.entries) (hne : d ≠ e) (o : Outcome) :
    d ∈ (endHeld s e o).held.entries := by
  have hkept : (endHeld s e o).held.entries = s.held.entries.filter (· != e) := rfl
  rw [hkept]
  exact List.mem_filter.mpr ⟨hd, by simpa using hne⟩

/-- Held rounds that end, or stay, one after the other. -/
theorem lawful_overHeld (f : State → Held → State)
    (hkeeps : ∀ (t : State) (e : Held), e ∈ t.held.entries → Lawful r b t → Lawful r b (f t e))
    (hleaves : ∀ (t : State) (e d : Held), d ∈ t.held.entries → d ≠ e → d ∈ (f t e).held.entries)
    (l : List Held) (hl : l.Nodup) {s : State} (hmem : ∀ e ∈ l, e ∈ s.held.entries) (h : Lawful r b s) :
    Lawful r b (l.foldl f s) := by
  induction l generalizing s with
  | nil => exact h
  | cons e l ih =>
    obtain ⟨hnew, hl⟩ := List.nodup_cons.mp hl
    refine ih hl (fun d hd => hleaves s e d (hmem d (List.mem_cons_of_mem _ hd)) ?_)
      (hkeeps s e (hmem e List.mem_cons_self) h)
    rintro rfl
    exact hnew hd

theorem lawful_interruptHeld (h : Lawful r b s) (hr : r) : Lawful r b (interruptHeld s) :=
  lawful_overHeld _ (fun _ _ he ht => lawful_endHeld ht hr he _) (fun _ _ _ hd hne => mem_endHeld hd hne _) _
    (h.roles hr).once.of_map (fun _ he => he) h

theorem lawful_suspendMaxLowered (h : Lawful r b s) (hr : r) : Lawful r b (suspendMaxLowered s) := by
  refine lawful_overHeld _ (fun t e he ht => ?_) (fun t e d hd hne => ?_) _ (h.roles hr).once.of_map
    (fun _ he => he) h
  · split
    · exact lawful_expireHeld ht hr he _
    · exact ht
  · split
    · exact mem_endHeld (s := t.event _ _ _ _) (by simpa using hd) hne .expired
    · exact hd

/-- The minute of a held context's age, and its end (R131). -/
theorem lawful_heldMinute (h : Lawful r b s) (hr : r) {e : Held} (he : e ∈ s.held.entries) :
    Lawful r b (heldMinute s e) := by
  unfold heldMinute; dsimp only
  generalize haged : ({ e with ctx := ageOn e.ctx } : Held) = e'
  have hstring : e'.ctx.string = e.ctx.string := by rw [← haged]; rfl
  have hminute : Lawful r b { s with held := { s.held with
      entries := s.held.entries.map fun d => if d.ctx.string = e.ctx.string then e' else d } } := by
    have hkept : (s.held.entries.map fun d => if d.ctx.string = e.ctx.string then e' else d).map (·.ctx.string)
        = s.held.entries.map (·.ctx.string) := by
      rw [List.map_map]
      refine List.map_congr_left fun d _ => ?_
      simp only [Function.comp_apply]
      split
      next hd => rw [hstring, hd]
      next => rfl
    have hview := congrArg (fun l => { s.view with held := l }) hkept
    exact (congrArg (PlantLaws r b) hview).mpr h
  split
  · exact lawful_expireHeld hminute hr (List.mem_map.mpr ⟨e, he, if_pos rfl⟩) _
  · exact hminute

end

/-! ### Admission and the settling of a step -/

section
variable {r b : Prop} {s : State}

/-- A candidate of an equalise kind that is not blocked has its string in the role asked for, with hydrogen clear
(R82, R83). -/
theorem tests_of_equaliseBlocked {p : Pos} {k : Kind} {role : Role} {nb : Option Nat}
    (hpass : equaliseBlocked s p k role nb = .none) : (s.sit.get p).role = role ∧ h2Test s = true := by
  have hall := passes_of_firstFailing _ (by simp) hpass
  simp only [List.mem_cons, List.not_mem_nil, or_false, forall_eq_or_imp, forall_eq, equaliseStringTest,
    Bool.and_eq_true, beq_iff_eq] at hall
  obtain ⟨⟨⟨⟨hrole, -⟩, -⟩, -⟩, -, -, -, hh2, -⟩ := hall
  exact ⟨hrole, hh2⟩

/-- A queue entry that is not blocked has a FLOAT string, with hydrogen clear. -/
theorem tests_of_entryBlocked {e : Entry} (hpass : entryBlocked s e = .none) :
    (s.sit.get e.string).role = .float ∧ h2Test s = true := by
  unfold entryBlocked at hpass
  split at hpass
  next =>
    obtain ⟨hrole, -, hh2⟩ := tests_of_waterBlocked s _ _ hpass
    exact ⟨hrole, hh2⟩
  all_goals exact tests_of_equaliseBlocked hpass

/-- The hydrogen test asks that the alarm presents INACTIVE. -/
theorem view_h2_of_h2Test (hh2 : h2Test s = true) : s.view.h2 = .inactive := by
  simp only [h2Test, Bool.and_eq_true, beq_iff_eq] at hh2
  exact hh2.1

/-- What an evaluation admits is held or queued, and not blocked. -/
theorem nextCandidate_spec {x : Held ⊕ Entry} (hx : nextCandidate s = some x) :
    (∃ e ∈ s.held.entries, x = .inl e ∧ heldBlocked s e = .none)
      ∨ ∃ e : Entry, x = .inr e ∧ entryBlocked s e = .none := by
  unfold nextCandidate at hx
  split at hx
  next e he =>
    exact .inl ⟨e, List.mem_of_find?_eq_some he, (Option.some.inj hx).symm, by simpa using List.find?_some he⟩
  next =>
    split at hx
    next e he => exact .inr ⟨e, (Option.some.inj hx).symm, by simpa using List.find?_some he⟩
    next => cases hx

theorem lawful_admitHeld (h : Lawful r b s) (hr : r) {e : Held} (he : e ∈ s.held.entries) :
    Lawful r b (admitHeld s e) := by
  unfold admitHeld
  split
  · exact lawful_giveChannel (lawful_removeHeld h e) hr _ _ (unclaimed_of_removeHeld h hr he)
  · exact h

theorem lawful_giveLine (h : Lawful r b s) {e : Entry} (hfree : s.view.Unclaimed e.string) :
    Lawful r b (giveLine s e) := by
  unfold giveLine; dsimp only
  rw [Lawful, view_lineTake, if_pos rfl,
    view_modSit s _ _ (fun t => { t with role := .watering, assigned := some .line }) rfl]
  exact h.water e.string _ (fun _ => hfree) rfl rfl

theorem lawful_admitEntry (h : Lawful r b s) (hr : r) {e : Entry} (hrole : (s.sit.get e.string).role = .float) :
    Lawful r b (admitEntry s e) := by
  have hfree : s.view.Unclaimed e.string := (h.roles hr).unclaimed (.inl hrole)
  unfold admitEntry; dsimp only
  generalize ht : markRoundOpen _ _ _ = t
  have hview : t.view = s.view := by rw [← ht, view_markRoundOpen]; rfl
  rw [← hview] at hfree
  have hmarked : Lawful r b t := by rw [Lawful, hview]; exact h
  split
  · exact lawful_giveLine hmarked hfree
  all_goals
    split
    · exact lawful_giveChannel hmarked hr _ _ hfree
    · exact hmarked

theorem lawful_evaluatePasses (n : Nat) (h : Lawful r b s) : Lawful r b (evaluatePasses n s) := by
  induction n generalizing s with
  | zero => exact h
  | succ n ih =>
    have hroles : h2Test s = true → r := fun hh2 =>
      h.quiet.resolve_right (not_not.mpr (view_h2_of_h2Test hh2))
    unfold evaluatePasses
    split
    next e hnext =>
      obtain ⟨e', he, heq, hpass⟩ | ⟨e', heq, -⟩ := nextCandidate_spec hnext
      · obtain rfl := Sum.inl.inj heq
        obtain ⟨-, hh2⟩ := tests_of_equaliseBlocked hpass
        exact ih (lawful_admitHeld h (hroles hh2) he)
      · cases heq
    next e hnext =>
      obtain ⟨e', -, heq, -⟩ | ⟨e', heq, hpass⟩ := nextCandidate_spec hnext
      · cases heq
      · obtain rfl := Sum.inr.inj heq
        obtain ⟨hrole, hh2⟩ := tests_of_entryBlocked hpass
        exact ih (lawful_admitEntry h (hroles hh2) hrole)
    next => exact h

theorem lawful_evaluate (h : Lawful r b s) : Lawful r b (evaluate s) := by
  unfold evaluate
  split
  · exact h
  · exact lawful_evaluatePasses _ h

theorem lawful_reserveTest (h : Lawful r b s) : Lawful r b (reserveTest s) := by
  unfold reserveTest; dsimp only
  split
  · exact h
  · generalize ht : (if s.perm.breach = true then s else _) = t
    have hlawful : Lawful r b t := by
      rw [← ht]
      split
      · exact h
      · simpa [Lawful] using h
    split
    · exact hlawful
    · split
      · exact lawful_suspendingCause hlawful _ _
      · exact hlawful

theorem lawful_settleWith (n : Nat) (h : Lawful r b s) : Lawful r b (settleWith n s) := by
  induction n generalizing s with
  | zero => exact h
  | succ n ih =>
    unfold settleWith
    split
    · exact ih (lawful_reserveTest (s := { s with due := { s.due with reserve := false } }) h)
    · split
      · exact ih (lawful_evaluate (s := { s with due := { s.due with admission := false } }) h)
      · exact h

theorem lawful_settle (h : Lawful r b s) : Lawful r b (settle s) := lawful_settleWith 16 h

end

end Sys2Proof.Machine
end

-- ==== Proofs: permissions, ISOLATED strings, samples, settings ====
section
/-! PROOFS. Deliveries, samples and changes of settings keep the laws. -/

namespace Sys2Proof.Machine

open Sys2Proof.Safety

/-! ### Site Permissions -/

section
variable {r b : Prop} {s : State}

theorem lawful_recomputeSurplus (h : Lawful r b s) : Lawful r b (recomputeSurplus s) := by
  unfold recomputeSurplus; dsimp only
  split
  · exact h
  · generalize ht : ({ s with supply := _ } : State) = t
    have hlawful : Lawful r b t := by rw [← ht]; exact h
    split
    · simpa [Lawful] using hlawful
    · unfold surplusLost
      split
      · exact hlawful
      split
      · exact lawful_deliverCause hlawful _ _
      · simpa [Lawful] using hlawful

theorem lawful_h2Start (h : Lawful r b s) : Lawful r b (h2Start s) := by
  unfold h2Start; dsimp only
  have hdelivered : Lawful r b (deliverCause (disableChargers (s.modPerm fun p => { p with h2Active := true })) .h2
      Stage.active) := lawful_deliverCause (by simpa [Lawful] using h) _ _
  simpa [Lawful] using hdelivered

theorem lawful_h2Delivered (h : Lawful r b s) : Lawful r b (h2Delivered s) := by
  unfold h2Delivered
  split
  · split
    · exact h
    · exact lawful_h2Start h
  · split
    · simpa [Lawful] using h
    · exact h
  · exact h

theorem lawful_ventFails (h : Lawful r b s) : Lawful r b (ventFails s) := by
  unfold ventFails; dsimp only
  exact lawful_deliverCause (by simpa [Lawful] using h) _ _

/-! ### ISOLATED strings (R62) -/

theorem lawful_kfStuckTest (h : Lawful r b s) (p : Pos) : Lawful r b (kfStuckTest s p) := by
  unfold kfStuckTest
  split
  next hstuck =>
    have hrole : (s.view.sit p).role = .isolated := by
      simp only [Bool.and_eq_true, beq_iff_eq] at hstuck
      exact hstuck.1.1
    unfold leaveIsolated
    rw [Lawful, view_modSit _ _ _ (fun t => { t with role := .float, isolation := none }) rfl, view_commandKs]
    exact h.resit_unclaimed p (fun t => { t with role := .float, isolation := none })
      (fun hr => (h.roles hr).unclaimed (.inr hrole)) (fun _ hi => by cases hi) rfl
  next => exact h

/-- A KE seen OPEN on a string ISOLATED for it: KF may close, since KE is commanded OPEN and no channel has the
string (R62). -/
theorem lawful_stringKe (h : Lawful r b s) (hr : r) (p : Pos) : Lawful r b (stringKe s p) := by
  unfold stringKe
  split
  next hstuck =>
    simp only [Bool.and_eq_true, beq_iff_eq] at hstuck
    obtain ⟨⟨hrole, hiso⟩, -⟩ := hstuck
    have hrole : (s.view.sit p).role = .isolated := hrole
    have hfree : s.view.Unclaimed p := (h.roles hr).unclaimed (.inr hrole)
    have hclosed : Lawful r b (commandKf s p .closed) := by
      rw [Lawful, view_commandKf]
      exact h.commandKf p .closed fun hb _ _ =>
        ⟨(h.buses hb).stuck p hrole hiso, fun c hc => absurd hc (hfree.chan c)⟩
    refine lawful_kfStuckTest ?_ p
    rw [Lawful, view_modSit _ _ _ (fun t => { t with isolation := some .kfStuck }) rfl]
    refine hclosed.resit_unclaimed p (fun t => { t with isolation := some .kfStuck }) (fun _ => ?_)
      (fun _ _ hi => by cases hi) rfl
    rw [view_commandKf]
    exact ⟨hfree.chan, hfree.held, hfree.line, hfree.fitted⟩
  next => exact h

/-! ### Samples and deliveries (R12, R13) -/

/-- What a filter record replaced shows of the view: a KF feedback, the hydrogen alarm, or nothing. -/
theorem view_setInput (s : State) (i : InputId) (f : Filter) :
    ({ s with inp := s.inp.set i f } : State).view =
      match i with
      | .kf p => { s.view with kfShown := Function.update s.view.kfShown p f.presented }
      | .h2Alarm => { s.view with h2 := f.presented }
      | _ => s.view := by
  have hkf : ∀ p, i = .kf p → (fun q => ((s.inp.set i f).get (.kf q)).presented)
      = Function.update s.view.kfShown p f.presented := by
    rintro p rfl
    funext q
    by_cases hq : q = p
    · subst hq; simp
    · simp [hq, State.view, presents]
  cases i with
  | kf p => exact congrArg (fun x => { s.view with kfShown := x }) (hkf p rfl)
  | h2Alarm | genRun | resLow | ke p | ks p | level p => rfl

/-- A filter record replaced by one that presents the same. -/
theorem view_setInput_same (s : State) (i : InputId) (f : Filter) (hf : f.presented = presents s i) :
    ({ s with inp := s.inp.set i f } : State).view = s.view := by
  rw [view_setInput]
  cases i with
  | kf p => dsimp only; rw [hf, show presents s (.kf p) = s.view.kfShown p from rfl, Function.update_eq_self]
  | h2Alarm => dsimp only; rw [hf]; rfl
  | genRun | resLow | ke p | ks p | level p => rfl

/-- A delivery of any input but a KF. -/
theorem lawful_deliver (h : Lawful r b s) (hr : r) (i : InputId) (k : DeliveryKind) (hi : ∀ p, i ≠ .kf p) :
    Lawful r b (deliver s i k) := by
  unfold deliver; dsimp only
  split
  next p => exact absurd rfl (hi p)
  next p =>
    have hfed := lawful_channelFeedback (lawful_stringKe h hr p) hr p .ke (s.inp.get (.ke p)).captured
    simpa [Lawful] using hfed
  next p => exact lawful_channelFeedback h hr p .ks _
  next p => simpa [Lawful] using h
  next => exact lawful_recomputeSurplus h
  next => exact lawful_h2Delivered h
  next => simpa [Lawful] using h

/-- A KF's delivery, from the on-bus flag that it recomputes on (R60). -/
theorem lawful_deliver_kf (hr : r) (p : Pos) (k : DeliveryKind) (h : Lawful r b (recomputeOnBus s p)) :
    Lawful r b (deliver s (.kf p) k) := by
  have hfed := lawful_channelFeedback (lawful_kfStuckTest h p) hr p .kf (s.inp.get (.kf p)).captured
  simpa [Lawful, deliver, stringKf] using hfed

theorem lawful_sampleInput (h : Lawful r b s) (hr : r) (i : InputId) (l : Level) :
    Lawful r b (sampleInput s i l) := by
  unfold sampleInput; dsimp only
  split
  next k hk =>
    refine lawful_settle ?_
    have hview := view_setInput s i ((s.inp.get i).sample l).1
    generalize ht : ({ s with inp := s.inp.set i ((s.inp.get i).sample l).1 } : State) = t at hview ⊢
    cases i with
    | kf p =>
      refine lawful_deliver_kf hr p k ?_
      rw [Lawful, view_recomputeOnBus, hview]
      exact h.showKf p _
    | h2Alarm =>
      refine lawful_deliver ?_ hr _ k fun p => by simp
      rw [Lawful, hview]; exact h.showH2 hr _
    | genRun | resLow | ke p | ks p | level p =>
      refine lawful_deliver ?_ hr _ k fun p => by simp
      rw [Lawful, hview]; exact h
  next hk =>
    rw [Lawful, view_setInput_same s i _ (by rw [sample_of_no_delivery _ _ hk]; rfl)]; exact h

theorem lawful_sampleInputs (levels : BitVec 35) (hr : r) (l : List InputId) (n : Nat) (h : Lawful r b s) :
    Lawful r b (sampleInputs levels n l s) := by
  induction l generalizing n s with
  | nil => exact h
  | cons i l ih => exact ih (n + 1) (lawful_sampleInput h hr i _)

/-! ### Scans, seconds, conversions -/

theorem lawful_completeScan (h : Lawful r b s) (p : Pos) (mvs : List Nat) : Lawful r b (completeScan s p mvs) := by
  unfold completeScan; dsimp only
  refine lawful_channelScan ?_ p
  rw [Lawful, view_recomputeSense]; exact h

/-- A second changes no stage, string, call, role or flag (R92, R120, R131). -/
@[simp] theorem view_tickSecond (s : State) : (tickSecond s).view = s.view := by
  have hchan : ∀ ch : Channel, (tickChannel ch).view = ch.view := by
    intro ch
    simp [tickChannel, Channel.view, Function.comp_def, tickContext]
  have hview : (tickSecond s).view = { s.view with
      chan := fun c => ((⟨tickChannel s.chan.a, tickChannel s.chan.b⟩ : Two Channel).get c).view
      sit := fun p => ((tickSecond s).sit.get p).view
      held := (tickSecond s).held.entries.map (·.ctx.string) } := rfl
  have hchans : (fun c => ((⟨tickChannel s.chan.a, tickChannel s.chan.b⟩ : Two Channel).get c).view)
      = s.view.chan := by
    funext c
    cases c <;> exact hchan _
  have hsits : (fun p => ((tickSecond s).sit.get p).view) = s.view.sit := by
    funext p
    simp only [tickSecond, eight_get_of]
    split <;> rfl
  have hheld : (tickSecond s).held.entries.map (·.ctx.string) = s.view.held := by
    simp [tickSecond, State.view, Function.comp_def]
  rw [hview, hchans, hsits, hheld]

theorem lawful_sampleCurrents (h : Lawful r b s) (dA : Eight Int) : Lawful r b (sampleCurrents s dA) := by
  unfold sampleCurrents; dsimp only
  refine lawful_chargeSample (lawful_chargeSample ?_ _ _) _ _
  exact lawful_foldl _ (fun t p ht => by simpa [Lawful] using ht) _ h

theorem lawful_completePilot (h : Lawful r b s) (p : Pos) (nTh nRef : Nat) :
    Lawful r b (completePilot s p nTh nRef) := by
  unfold completePilot; dsimp only
  rw [Lawful, view_wantAdmission]
  refine lawful_channelPilot ?_ p
  rw [Lawful, view_recomputeSense]
  refine lawful_recomputeComp ?_ p
  exact h

theorem lawful_completeAmbient (h : Lawful r b s) (nTh nRef : Nat) : Lawful r b (completeAmbient s nTh nRef) := by
  unfold completeAmbient; dsimp only
  generalize hu : List.foldl _ _ Pos.all = u
  have hlawful : Lawful r b u := by
    rw [← hu]
    refine lawful_foldl _ (fun t p ht => ?_) _ h
    split
    · exact lawful_recomputeComp ht p
    · exact ht
  have hcomputed : Lawful r b (computeFloat u) := by simpa [Lawful] using hlawful
  exact hcomputed

/-! ### Settings -/

/-- A setting other than FITTED leaves FITTED as it is. -/
theorem settings_set_fitted (t : Settings) {i : SettingId} (hi : i ≠ .fitted) (v : Nat) :
    (t.set i v).fitted = t.fitted := by
  cases i with
  | fitted => exact absurd rfl hi
  | _ => rfl

theorem view_setWorking (s : State) {i : SettingId} (hi : i ≠ .fitted) (v : Nat) :
    (setWorking s i v).view = s.view := by
  have hfit : (fun p => fitted (setWorking s i v) p) = s.view.fitted := by
    funext p
    show (s.store.working.set i v).fitted.testBit (p.num - 1) = _
    rw [settings_set_fitted _ hi]; rfl
  exact congrArg (fun x => { s.view with fitted := x }) hfit

/-- A polarity change leaves what every input presents (R16). -/
@[simp] theorem view_changePolarity (s : State) (old new : Nat) : (changePolarity s old new).view = s.view := by
  refine view_foldl s _ (fun t i => ?_) _
  split
  · rfl
  · exact view_setInput_same t i _ rfl

theorem lawful_setpointsChanged (h : Lawful r b s) (floatToo : Bool) : Lawful r b (setpointsChanged s floatToo) := by
  have hall : Lawful r b (Pos.all.foldl recomputeComp s) := lawful_foldl _ (fun t p ht => lawful_recomputeComp ht p) _ h
  unfold setpointsChanged; dsimp only
  split
  · simpa [Lawful] using hall
  · exact hall

@[simp] theorem view_limitChanged (s : State) : (limitChanged s).view = s.view :=
  view_foldl s _ (fun t c => by split <;> rfl) _

@[simp] theorem view_flatCountChanged (s : State) : (flatCountChanged s).view = s.view :=
  view_foldl s _ (fun t c => by split <;> simp) _

/-- The situation of a position taken out of FITTED (R67). -/
def SitView.removed : SitView := { role := .absent, assigned := none, isolation := none, onBus := false }

/-- The situation of a position added to FITTED, with its on-bus flag (R67, R60). -/
def SitView.added (onBus : Bool) : SitView := { role := .float, assigned := none, isolation := none, onBus := onBus }

theorem view_removePosition (s : State) (p : Pos) : (removePosition s p).view = s.view.atSit p fun _ => .removed := by
  unfold removePosition; dsimp only
  rw [view_modSit _ p _ (fun _ => .removed) rfl, view_recomputeOnBus]
  generalize ht : ({ removeEntries s p with scan := _ } : State) = t
  have hview : t.view = s.view := by rw [← ht]; rfl
  simp [hview, PlantView.reflag, PlantView.atSit]

theorem view_addPosition (s : State) (p : Pos) :
    (addPosition s p).view = s.view.atSit p fun _ => .added (s.view.onBusNow p) := by
  unfold addPosition; dsimp only
  rw [view_dueEvaluate, view_modSit_same _ _ _ (by simp), view_recomputeSense, view_recomputeOnBus,
    view_modSit _ p _ (fun _ => .added false) rfl]
  simp [PlantView.reflag, PlantView.atSit, SitView.added, PlantView.onBusNow]

/-- What a row of positions makes of the situations, each position that it concerns given a new one (R67). -/
theorem view_foldl_atSit (f : State → Pos → State) (cond : Pos → Bool) (new : Pos → SitView) (v : PlantView)
    (hf : ∀ (t : State) (p : Pos) (sit : Pos → SitView), t.view = { v with sit := sit } →
      (f t p).view = { v with sit := if cond p then Function.update sit p (new p) else sit })
    (l : List Pos) (t : State) (sit : Pos → SitView) (ht : t.view = { v with sit := sit }) :
    (l.foldl f t).view = { v with sit := fun p => if p ∈ l ∧ cond p = true then new p else sit p } := by
  induction l generalizing t sit with
  | nil => simpa using ht
  | cons p l ih =>
    rw [List.foldl_cons, ih _ _ (hf t p sit ht)]
    congr 1
    funext q
    by_cases hq : q = p
    · subst hq
      by_cases hc : cond q = true <;> simp [hc]
    · by_cases hc : cond p = true <;> simp [hc, hq]

/-- The situations after a change of FITTED, from the old set and the new (R67). -/
def refit (v : PlantView) (new : Pos → Bool) (p : Pos) : SitView :=
  if (!v.fitted p && new p) = true then .added (PlantView.onBusNow { v with fitted := new } p)
  else if (v.fitted p && !new p) = true then .removed
  else v.sit p

theorem pos_mem_all (p : Pos) : p ∈ Pos.all := by cases p <;> decide

/-- A change of FITTED: the removals, then the additions (R67). -/
theorem view_changeFitted (s : State) (n : Nat) :
    (changeFitted s n).view = { s.view with fitted := inSet n, sit := refit s.view (inSet n) } := by
  unfold changeFitted; dsimp only
  have hold : inSet s.cfg.fitted = s.view.fitted := rfl
  rw [hold]
  generalize ht : ({ s with store := _ } : State) = t
  have hloaded : t.view = { s.view with fitted := inSet n, sit := s.view.sit } := by rw [← ht]; rfl
  have hremoved := view_foldl_atSit (fun t p => if s.view.fitted p && !inSet n p then removePosition t p else t)
    (fun p => s.view.fitted p && !inSet n p) (fun _ => .removed) { s.view with fitted := inSet n }
    (fun t p sit ht => by
      dsimp only
      split
      · rw [view_removePosition, ht]; rfl
      · exact ht) Pos.all t _ hloaded
  rw [view_foldl_atSit (fun t p => if !s.view.fitted p && inSet n p then addPosition t p else t)
    (fun p => !s.view.fitted p && inSet n p)
    (fun p => .added (PlantView.onBusNow { s.view with fitted := inSet n } p)) { s.view with fitted := inSet n }
    (fun t p sit ht => by
      dsimp only
      split
      · rw [view_addPosition, ht]; rfl
      · exact ht) Pos.all _ _ hremoved]
  congr 1
  funext p
  simp [refit, pos_mem_all]

/-- A change of FITTED that removes FLOAT strings alone (R67). -/
theorem PlantLaws.refit {v : PlantView} (h : PlantLaws r b v) (new : Pos → Bool)
    (hremoved : ∀ p, v.fitted p = true → new p = false → (v.sit p).role = .float) :
    PlantLaws r b { v with fitted := new, sit := Machine.refit v new } := by
  refine ⟨h.idle, h.call, h.own, h.quiet, fun hr => ?_, fun hb => ?_⟩
  · have hroles := h.roles hr
    have hkept : ∀ p, (v.sit p).role ≠ .float → (v.sit p).role ≠ .absent → Machine.refit v new p = v.sit p := by
      intro p hfloat habsent
      have hfit : v.fitted p = true := by
        by_contra hfit
        exact habsent (hroles.unfitted p (Bool.eq_false_iff.mpr hfit))
      have hnew : new p = true := by
        by_contra hnew
        exact hfloat (hremoved p hfit (Bool.eq_false_iff.mpr hnew))
      simp [Machine.refit, hfit, hnew]
    refine ⟨fun c p hp => ?_, fun p hp => ?_, hroles.once, fun q hq => ?_, fun p hp => ?_⟩
    · have hrole := hroles.channel c p hp
      dsimp only
      rw [hkept p (by simp [hrole.1]) (by simp [hrole.1])]
      exact hrole
    · have hrole := hroles.held p hp
      dsimp only
      rw [hkept p (by simp [hrole]) (by simp [hrole])]
      exact hrole
    · obtain ⟨p, rfl, hrole⟩ := hroles.line q hq
      refine ⟨p, rfl, ?_⟩
      dsimp only
      rw [hkept p (by simp [hrole]) (by simp [hrole])]
      exact hrole
    · have hnew : new p = false := hp
      cases hfit : v.fitted p with
      | true => simp [Machine.refit, hfit, hnew, SitView.removed]
      | false => simpa [Machine.refit, hfit, hnew] using hroles.unfitted p hfit
  · have hbuses := h.buses hb
    refine ⟨hbuses.apart, hbuses.leaving, hbuses.returning, fun p hrole hiso => ?_, fun p => ?_⟩
    · simp only [Machine.refit] at hrole hiso
      split at hrole
      · cases hrole
      split at hrole
      · cases hrole
      next hadd hremove =>
        rw [if_neg hadd, if_neg hremove] at hiso
        exact hbuses.stuck p hrole hiso
    · show (Machine.refit v new p).onBus = PlantView.onBusNow { v with fitted := new } p
      unfold Machine.refit
      split
      next => rfl
      next hadd =>
        split
        next hremove =>
          simp only [Bool.and_eq_true, Bool.not_eq_true'] at hremove
          obtain ⟨-, hnew⟩ := hremove
          simp [SitView.removed, PlantView.onBusNow, hnew]
        next hremove =>
          have hfit : v.fitted p = new p := by
            cases hold : v.fitted p <;> cases hnew : new p <;> simp [hold, hnew] at hadd hremove ⊢
          simpa [PlantView.onBusNow, hfit] using hbuses.flag p

end

end Sys2Proof.Machine
end

-- ==== Proofs: resets and requests ====
section
/-! PROOFS. Resets make the laws hold, and the requests' rules keep them. -/

namespace Sys2Proof.Machine

open Sys2Proof.Safety

/-! ### Resets -/

/-- The view after a reset, by the fitted positions. -/
def PlantView.atReset (fit : Pos → Bool) : PlantView :=
  { chan := fun _ => .free
    sit := fun p => (StringSituation.reset (fit p)).view
    held := []
    round := none
    fitted := fit
    kf := fun _ => .closed
    ke := fun _ => .opened
    kfShown := fun _ => .unknown
    h2 := .unknown }

/-- A situation after a reset: FLOAT or ABSENT, and not on bus (R54). -/
theorem reset_role (fit : Bool) : (StringSituation.reset fit).view.role = if fit then .float else .absent := rfl
theorem reset_onBus (fit : Bool) : (StringSituation.reset fit).view.onBus = false := rfl

/-- A situation after a reset is not ISOLATED. -/
theorem reset_not_isolated (fit : Bool) : (StringSituation.reset fit).view.role ≠ .isolated := by
  rw [reset_role]; split <;> decide

/-- A reset is lawful in every respect. -/
theorem lawful_atReset (r b : Prop) (fit : Pos → Bool) : PlantLaws r b (.atReset fit) where
  idle _ := by simp [PlantView.atReset, ChanView.free]
  call _ hc := by cases hc
  own _ _ _ hp := by cases hp
  quiet := .inr (by simp [PlantView.atReset])
  roles _ :=
    { channel := fun _ _ hp => by cases hp
      held := fun _ hp => by cases hp
      once := .nil
      line := fun _ hq => by cases hq
      unfitted := fun p hp => by
        have hp : fit p = false := hp
        simp [PlantView.atReset, reset_role, hp] }
  buses _ :=
    { apart := fun _ hp => by cases hp
      leaving := fun _ _ hp => by cases hp
      returning := fun _ _ hp => by cases hp
      stuck := fun _ _ _ => rfl
      flag := fun p => by simp [PlantView.atReset, PlantView.onBusNow, reset_onBus] }

/-- The state of manufacture has the view of a reset. -/
theorem view_reset : State.reset.view = .atReset (fitted State.reset) := by
  refine PlantView.ext (funext fun c => ?_) (funext fun p => ?_) rfl rfl rfl (funext fun p => ?_) (funext fun p => ?_)
    (funext fun p => ?_) rfl
  · cases c <;> rfl
  · cases p <;> rfl
  · cases p <;> rfl
  · cases p <;> rfl
  · cases p <;> rfl

/-- A part held in reset (R6). -/
theorem lawful_afterReset (r b : Prop) (s : State) (stored : Settings) (ok : Bool) :
    Lawful r b (afterReset s (heldStore stored ok)) := by
  have hview : (afterReset s (heldStore stored ok)).view = State.reset.view := rfl
  rw [Lawful, hview, view_reset]
  exact lawful_atReset r b _

/-- What a reset takes from the settings: the fitted positions' situations, and inputs that present nothing (R10,
R54). -/
theorem view_deriveFromSettings (s : State) :
    (deriveFromSettings s).view =
      { s.view with
        sit := fun p => (StringSituation.reset (s.view.fitted p)).view, kfShown := fun _ => .unknown
        h2 := .unknown } := by
  refine PlantView.ext rfl (funext fun p => ?_) rfl rfl rfl rfl rfl (funext fun p => ?_) rfl
  · simp only [State.view, deriveFromSettings, eight_get_of]
  · simp only [State.view, deriveFromSettings, presents, Inputs.get, eight_get_of]; rfl

/-- A Restart's reset (R190). -/
theorem lawful_restartReset (r b : Prop) (s : State) : Lawful r b (restartReset s) := by
  have hview : (restartReset s).view = .atReset (fitted s) := by
    unfold restartReset; dsimp only
    rw [view_deriveFromSettings]
    generalize hu : ({ afterReset s _ with clock := _, phase := _ } : State) = u
    have hu : u.view = { State.reset.view with fitted := fitted s } := by rw [← hu]; rfl
    rw [hu, view_reset]; rfl
  rw [Lawful, hview]
  exact lawful_atReset r b _

/-- The situations and inputs of a reset under channels that are still in use: the roles are lost, and no input
presents INACTIVE. -/
theorem PlantLaws.reload {r b : Prop} {v : PlantView} (h : PlantLaws r b v) (fit : Pos → Bool) :
    PlantLaws False b
      { v with
        fitted := fit, sit := fun p => (StringSituation.reset (fit p)).view, kfShown := fun _ => .unknown
        h2 := .unknown } where
  idle := h.idle
  call := h.call
  own := h.own
  quiet := .inr (by simp)
  roles := False.elim
  buses hb :=
    { apart := (h.buses hb).apart
      leaving := (h.buses hb).leaving
      returning := (h.buses hb).returning
      stuck := fun p hrole => absurd hrole (reset_not_isolated _)
      flag := fun p => by simp [PlantView.onBusNow, reset_onBus] }

/-- The load of the settings at a reset's release, whatever the channels do (R189). -/
theorem lawful_loadSettings {r b : Prop} {s : State} (h : Lawful r b s) : Lawful False b (loadSettings s) := by
  unfold loadSettings; dsimp only
  rw [Lawful, view_deriveFromSettings]
  exact h.reload _

@[simp] theorem view_recoverRecords (s : State) : (recoverRecords s).view = s.view :=
  view_foldl s _ (fun t p => by split <;> simp) _

@[simp] theorem view_initialTests (s : State) : (initialTests s).view = s.view := by simp [initialTests]

/-! ### Commands -/

/-- A command's answer is a lawful state. -/
def KeepsLaws (r b : Prop) (o : Host.Outcome State Fault Refusal) : Prop := ∀ t, o = .next t → Lawful r b t

section
variable {r b : Prop} {s : State}

theorem keepsLaws_next (h : Lawful r b s) : KeepsLaws r b (.next s) := by
  rintro t ⟨⟩
  exact h

theorem keepsLaws_settled (h : Lawful r b s) : KeepsLaws r b (settled s) := keepsLaws_next (lawful_settle h)

/-- A command that acts on a condition, and otherwise changes nothing. -/
theorem keepsLaws_ite {c : Prop} [Decidable c] {o : Host.Outcome State Fault Refusal} (h : Lawful r b s)
    (hact : c → KeepsLaws r b o) : KeepsLaws r b (if c then o else .next s) := by
  split
  next hc => exact hact hc
  next => exact keepsLaws_next h

/-! #### Requests -/

/-- A request is served by a lawful rule (R181, R182). -/
theorem keepsLaws_serve (h : Lawful r b s) (mine : Frame → Bool) (fits : Nat → Bool) {act : State → Frame → State}
    (hact : ∀ t f, Lawful r b t → Lawful r b (act t f)) : KeepsLaws r b (serve s mine fits act) := by
  have htaken : Lawful r b (afterTaking s) := by simpa [Lawful] using h
  unfold serve
  split
  · exact keepsLaws_next h
  split
  · split
    · exact keepsLaws_next (by simpa [Lawful] using h)
    · split
      · exact keepsLaws_settled (hact _ _ htaken)
      · exact keepsLaws_next (by simpa [Lawful] using h)
  · exact keepsLaws_next h

/-- A request whose rule leaves the view alone. -/
theorem keepsLaws_report (h : Lawful r b s) (mine : Frame → Bool) (fits : Nat → Bool) {act : State → Frame → State}
    (hact : ∀ t f, (act t f).view = t.view) : KeepsLaws r b (serve s mine fits act) :=
  keepsLaws_serve h mine fits fun t f ht => by rw [Lawful, hact]; exact ht

@[simp] theorem view_readStatusReply (f : Frame) : (readStatusReply s f).view = s.view := by
  unfold readStatusReply
  split <;> rfl

@[simp] theorem view_readStringReply (f : Frame) : (readStringReply s f).view = s.view := by
  unfold readStringReply
  split <;> rfl

@[simp] theorem view_readCellsReply (f : Frame) : (readCellsReply s f).view = s.view := by
  unfold readCellsReply
  split
  · rfl
  · split
    · split <;> rfl
    · rfl

@[simp] theorem view_readSettingReply (f : Frame) : (readSettingReply s f).view = s.view := by
  unfold readSettingReply
  split <;> rfl

theorem view_submitTests (f : Frame) (d : Submission) (k : Kind) (c : RoundClass) (p : Pos) :
    (submitTests s f d k c p).view = s.view := by
  unfold submitTests; dsimp only
  split
  · simp
  split
  · simp
  split
  · simp
  split
  · simp
  split <;> simp

@[simp] theorem view_serveSubmitRound (f : Frame) : (serveSubmitRound s f).view = s.view := by
  unfold serveSubmitRound; dsimp only
  split
  · split
    · simp
    · split
      · simp
      · split
        · simp
        · exact view_submitTests ..
  · simp

theorem lawful_cancelOnChannel (h : Lawful r b s) (f : Frame) (c : Ch) : Lawful r b (cancelOnChannel s f c) := by
  have hreplied : ∀ st, Lawful r b (cancelReply s f st .activeChannel) := fun st => by simpa [Lawful] using h
  unfold cancelOnChannel
  split
  · exact hreplied _
  · exact hreplied _
  all_goals exact lawful_readingCause (hreplied _) _ _

theorem view_cancelOnLine (f : Frame) : (cancelOnLine s f).view = s.view := by
  unfold cancelOnLine
  split <;> simp

theorem lawful_cancelHeld (h : Lawful r b s) (hr : r) (f : Frame) (p : Pos) : Lawful r b (cancelHeld s f p) := by
  have hreplied : Lawful r b (cancelReply s f .ok .held) := by simpa [Lawful] using h
  unfold cancelHeld; dsimp only
  split
  next e he => exact lawful_endHeld hreplied hr (List.mem_of_find?_eq_some he) _
  next => exact hreplied

theorem lawful_serveCancelRound (h : Lawful r b s) (hr : r) (f : Frame) : Lawful r b (serveCancelRound s f) := by
  unfold serveCancelRound
  split
  · simpa [Lawful] using h
  split
  · simpa [Lawful] using h
  · simpa [Lawful] using h
  · exact lawful_cancelHeld h hr f _
  · split
    · exact lawful_cancelOnChannel h f _
    · exact h
  · rw [Lawful, view_cancelOnLine]; exact h

theorem lawful_serveSupplyGrant (h : Lawful r b s) (f : Frame) : Lawful r b (serveSupplyGrant s f) := by
  unfold serveSupplyGrant; dsimp only
  rw [Lawful, view_reply]
  exact lawful_recomputeSurplus h

/-- The host's claim takes no standalone round's line (R149). -/
theorem lawful_serveClaimLine (h : Lawful r b s) (f : Frame) : Lawful r b (serveClaimLine s f) := by
  unfold serveClaimLine
  split
  · simpa [Lawful] using h
  split
  · rw [Lawful, view_reply]
    exact h.endRound
  · simpa [Lawful] using h

theorem lawful_serveReleaseLine (h : Lawful r b s) (f : Frame) : Lawful r b (serveReleaseLine s f) := by
  have hended : ∀ t : State, t.view = s.view → Lawful r b (t.modLine fun l => { l with claimEnded := true }) := by
    intro t hview
    rw [Lawful, view_modLine _ _ rfl, hview]; exact h
  unfold serveReleaseLine; dsimp only
  split
  · simpa [Lawful] using h
  · rw [Lawful, view_reply]
    split
    · exact lawful_lineNext h
    · exact hended s rfl
    all_goals exact hended _ (view_closeLine s _)

theorem lawful_serveManualDose (h : Lawful r b s) (f : Frame) : Lawful r b (serveManualDose s f) := by
  unfold serveManualDose; dsimp only
  split
  · simpa [Lawful] using h
  split
  · simpa [Lawful] using h
  split
  · simpa [Lawful] using h
  split
  · simpa [Lawful] using h
  split
  · simpa [Lawful] using h
  split
  · simpa [Lawful] using h
  · rw [Lawful, view_reply, view_lineTake]
    exact h.endRound

@[simp] theorem view_serveRefill (f : Frame) : (serveRefill s f).view = s.view := by simp [serveRefill]

@[simp] theorem view_serveClearWeak (f : Frame) : (serveClearWeak s f).view = s.view := by
  unfold serveClearWeak; dsimp only
  split <;> rfl

@[simp] theorem view_serveReleaseLock (f : Frame) : (serveReleaseLock s f).view = s.view := by
  unfold serveReleaseLock; dsimp only
  split
  · rfl
  split
  · rfl
  · split <;> rfl

@[simp] theorem view_serveSetNoticeMaster (f : Frame) : (serveSetNoticeMaster s f).view = s.view := by
  unfold serveSetNoticeMaster; dsimp only
  split <;> rfl

@[simp] theorem view_relatch (c : Condition) : (relatch s c).view = s.view := by cases c <;> rfl

@[simp] theorem view_clearLatch (c : Condition) : (clearLatch s c).view = s.view := rfl

@[simp] theorem view_serveClearConditions (f : Frame) : (serveClearConditions s f).view = s.view := by
  unfold serveClearConditions; dsimp only
  split
  · rfl
  · rw [view_reply, view_foldl _ _ fun t c => view_relatch c, view_foldl _ _ fun t c => view_clearLatch c]

@[simp] theorem view_serveReadLog (f : Frame) : (serveReadLog s f).view = s.view := by
  unfold serveReadLog; dsimp only
  split
  · rfl
  split
  · rfl
  · split <;> rfl

theorem lawful_serveRestart (h : Lawful r b s) (hr : r) (f : Frame) : Lawful r b (serveRestart s f) := by
  unfold serveRestart; dsimp only
  generalize ht : ({ reply s f .ok [] with restartAt := _ } : State) = t
  have hlawful : Lawful r b t := by rw [← ht]; exact h
  exact lawful_restartLine
    (lawful_restartChannel (lawful_restartChannel (lawful_interruptHeld hlawful hr) .a) .b)

/-! #### Set Setting -/

/-- A change of FITTED that no test of R67 refuses. -/
theorem lawful_changeFitted (h : Lawful r b s) (n : Nat) (hfree : engagedRemoval s n = false) :
    Lawful r b (changeFitted s n) := by
  rw [Lawful, view_changeFitted]
  refine h.refit _ fun p hfit hnew => ?_
  simp only [engagedRemoval, List.any_eq_false, Bool.and_eq_true, Bool.not_eq_true', bne_iff_ne, not_and,
    not_not] at hfree
  exact hfree p (pos_mem_all p) ⟨hfit, hnew⟩

theorem lawful_applySetting (h : Lawful r b s) (hr : r) (i : SettingId) (n : Nat)
    (hfree : i = .fitted → engagedRemoval s n = false) : Lawful r b (applySetting s i n) := by
  have hset : i ≠ .fitted → Lawful r b (setWorking s i n) := fun hi => by rw [Lawful, view_setWorking s hi]; exact h
  unfold applySetting; dsimp only
  split
  next => exact lawful_changeFitted h n (hfree rfl)
  next => simpa [Lawful] using hset (by simp)
  next => exact lawful_setpointsChanged (hset (by simp)) _
  next => exact lawful_setpointsChanged (hset (by simp)) _
  next => exact lawful_setpointsChanged (hset (by simp)) _
  next => exact lawful_setpointsChanged (hset (by simp)) _
  next => exact lawful_setpointsChanged (hset (by simp)) _
  next => simpa [Lawful] using hset (by simp)
  next => simpa [Lawful] using hset (by simp)
  next => exact lawful_suspendMaxLowered (hset (by simp)) hr
  all_goals simpa [Lawful] using hset (by simp)

theorem lawful_acceptSetting (h : Lawful r b s) (hr : r) (f : Frame) (i : SettingId) (n : Nat)
    (hfree : i = .fitted → engagedRemoval s n = false) : Lawful r b (acceptSetting s f i n) := by
  unfold acceptSetting; dsimp only
  generalize ht : ({ s with store := _ } : State) = t
  have hlawful : Lawful r b t := by rw [← ht]; exact h
  rw [Lawful, view_reply]
  split
  · exact hlawful
  · refine (lawful_applySetting hlawful hr i _ fun hi => ?_ : Lawful r b (applySetting t i (settingValue i n)))
    subst hi ht
    exact hfree rfl

/-- A FITTED that is not refused removes no engaged position (R67). -/
theorem not_engagedRemoval {n : Nat} (hpass : settingRefusal s .fitted n = none) : engagedRemoval s n = false := by
  unfold settingRefusal at hpass
  split at hpass
  · cases hpass
  · rw [if_pos rfl] at hpass
    split at hpass
    · cases hpass
    · split at hpass
      next => cases hpass
      next hfree => exact Bool.eq_false_iff.mpr hfree

theorem lawful_serveSetSetting (h : Lawful r b s) (hr : r) (f : Frame) : Lawful r b (serveSetSetting s f) := by
  unfold serveSetSetting; dsimp only
  split
  · simpa [Lawful] using h
  split
  · simpa [Lawful] using h
  split
  · simpa [Lawful] using h
  next i _ _ hpass =>
    refine lawful_acceptSetting h hr f _ _ fun hi => ?_
    subst hi
    exact not_engagedRemoval hpass

end

end Sys2Proof.Machine
end

-- ==== Proofs: every command ====
section
/-! PROOFS. Every command keeps the laws, and so every step keeps the buses apart (O56). -/

namespace Sys2Proof.Machine

open Sys2Proof.Safety

section
variable {r b : Prop} {s : State}

/-! #### Events and timed rows -/

theorem keepsLaws_execResetN (r b : Prop) (s : State) : KeepsLaws r b (execResetN s) := by
  unfold execResetN
  split
  · split <;> exact keepsLaws_next (lawful_afterReset r b _ _ _)
  · exact keepsLaws_next (lawful_afterReset r b s _ _)

theorem keepsLaws_execSampleInstant (h : Lawful r b s) (hr : r) (levels : BitVec 35) :
    KeepsLaws r b (execSampleInstant levels s) :=
  keepsLaws_ite h fun _ => keepsLaws_next (lawful_sampleInputs levels hr _ _ h)

theorem keepsLaws_execScanCompletion (h : Lawful r b s) (mvs : List Nat) :
    KeepsLaws r b (execScanCompletion mvs s) := by
  unfold execScanCompletion
  split
  · exact keepsLaws_ite h fun _ => keepsLaws_settled (lawful_completeScan h _ mvs)
  · exact keepsLaws_next h

theorem keepsLaws_execCurrentSample (h : Lawful r b s) (dA : Eight Int) : KeepsLaws r b (execCurrentSample dA s) :=
  keepsLaws_ite h fun _ => keepsLaws_settled (lawful_sampleCurrents (by simpa [Lawful] using h) dA)

theorem keepsLaws_execConversionCompletion (h : Lawful r b s) (gateTh gateRef : Nat) :
    KeepsLaws r b (execConversionCompletion gateTh gateRef s) := by
  refine keepsLaws_ite h fun _ => ?_
  have hticked : Lawful r b (conversionTick s) := h
  dsimp only
  split
  · exact keepsLaws_settled (lawful_completePilot hticked _ _ _)
  · exact keepsLaws_settled (lawful_completeAmbient hticked _ _)

theorem keepsLaws_execFlowPulse (h : Lawful r b s) : KeepsLaws r b (execFlowPulse s) := by
  refine keepsLaws_ite h fun _ => keepsLaws_settled ?_
  rw [Lawful, view_linePulse]; exact h

theorem keepsLaws_execTachEdge (h : Lawful r b s) (t : Nat) : KeepsLaws r b (execTachEdge t s) := by
  refine keepsLaws_ite h fun _ => ?_
  split
  · exact keepsLaws_next h
  · dsimp only
    split
    · exact keepsLaws_next h
    · refine keepsLaws_settled ?_
      rw [Lawful, view_speedDelivered]; exact h

theorem keepsLaws_execTachTimeout (h : Lawful r b s) : KeepsLaws r b (execTachTimeout s) := by
  unfold execTachTimeout
  split
  · exact keepsLaws_next h
  · refine keepsLaws_ite h fun _ => keepsLaws_settled ?_
    rw [Lawful, view_speedDelivered]; exact h

theorem keepsLaws_execGrantCountdown (h : Lawful r b s) : KeepsLaws r b (execGrantCountdown s) :=
  keepsLaws_ite h fun _ => keepsLaws_settled (lawful_recomputeSurplus h)

theorem keepsLaws_execTransferOutTimeout (h : Lawful r b s) (c : Ch) :
    KeepsLaws r b (execTransferOutTimeout c s) := by
  unfold execTransferOutTimeout
  split
  next w hw =>
    obtain ⟨hst, -⟩ := dueStep_spec hw
    exact keepsLaws_settled (lawful_outTimeout (by simpa [Lawful] using h) _ (by simp [hst]))
  next => exact keepsLaws_next h

theorem keepsLaws_execTransferBackTimeout (h : Lawful r b s) (c : Ch) :
    KeepsLaws r b (execTransferBackTimeout c s) := by
  unfold execTransferBackTimeout
  split
  next w hw =>
    obtain ⟨hst, hwaits⟩ := dueStep_spec hw
    exact keepsLaws_settled
      (lawful_backTimeout (by simpa [Lawful] using h) (by simpa using hst) (by simpa using hwaits))
  next => exact keepsLaws_next h

theorem keepsLaws_execHoldMinute (h : Lawful r b s) (c : Ch) : KeepsLaws r b (execHoldMinute c s) :=
  keepsLaws_ite h fun hc => keepsLaws_settled (lawful_holdMinute h (by simpa [inHold, view_stage] using hc.1))

theorem keepsLaws_execSettleEnd (h : Lawful r b s) (c : Ch) : KeepsLaws r b (execSettleEnd c s) :=
  keepsLaws_ite h fun hc => keepsLaws_settled (lawful_settleEnd h (by simp [view_stage, hc.1]))

theorem keepsLaws_execGiveUp (h : Lawful r b s) (c : Ch) : KeepsLaws r b (execGiveUp c s) := by
  unfold execGiveUp
  split
  next hst _ => exact keepsLaws_ite h fun _ => keepsLaws_settled (lawful_giveUp h (by simp [view_stage, hst]))
  next => exact keepsLaws_next h

theorem keepsLaws_execAgeMinute (h : Lawful r b s) (hr : r) (p : Pos) : KeepsLaws r b (execAgeMinute p s) := by
  unfold execAgeMinute
  split
  · exact keepsLaws_ite h fun _ => keepsLaws_next (by
      rw [Lawful, view_modCtx s _ ageOn fun _ => rfl]; exact h)
  · split
    next e he =>
      exact keepsLaws_ite h fun _ => keepsLaws_settled (lawful_heldMinute h hr (List.mem_of_find?_eq_some he))
    next => exact keepsLaws_next h

theorem keepsLaws_execGraceExpiry (h : Lawful r b s) : KeepsLaws r b (execGraceExpiry s) :=
  keepsLaws_ite h fun _ => keepsLaws_settled (lawful_deliverCause (by simpa [Lawful] using h) _ _)

theorem keepsLaws_execManualDoseEnd (h : Lawful r b s) : KeepsLaws r b (execManualDoseEnd s) := by
  unfold execManualDoseEnd
  split
  · exact keepsLaws_ite h fun _ => keepsLaws_next h
  · exact keepsLaws_next h

theorem keepsLaws_execNotice (h : Lawful r b s) : KeepsLaws r b (execNotice s) := by
  refine keepsLaws_ite h fun _ => ?_
  split
  · split
    · exact keepsLaws_next h
    · exact keepsLaws_next h
  · exact keepsLaws_next h

theorem keepsLaws_execLogRecord (h : Lawful r b s) : KeepsLaws r b (execLogRecord s) := by
  unfold execLogRecord; dsimp only
  split
  · exact keepsLaws_next h
  split
  · exact keepsLaws_next h
  split
  · exact keepsLaws_next h
  · exact keepsLaws_next h

theorem keepsLaws_execLogEnd (h : Lawful r b s) : KeepsLaws r b (execLogEnd s) := by
  unfold execLogEnd
  split
  · exact keepsLaws_next h
  split
  · exact keepsLaws_next h
  · exact keepsLaws_next h

/-- A Restart's final step resets the part (R190). -/
theorem keepsLaws_execFinalStep (h : Lawful r b s) : KeepsLaws r b (execFinalStep s) :=
  keepsLaws_ite h fun _ => keepsLaws_settled (by
    rw [Lawful, view_initialTests, view_recoverRecords]
    exact lawful_restartReset r b _)

/-- A reset's release with channels in use keeps the buses alone (R189). -/
theorem keepsLaws_execResetRelease (hheld : s.phase = .held) (h : Lawful r b s) :
    KeepsLaws False b (execResetRelease s) := by
  unfold execResetRelease
  rw [if_pos hheld]
  refine keepsLaws_settled ?_
  rw [Lawful, view_initialTests, view_recoverRecords]
  refine lawful_loadSettings (r := r) ?_
  exact h

/-! #### Requests by KIND -/

theorem keepsLaws_serveKind (h : Lawful r b s) (kind : Byte) (n : Nat) {act : State → Frame → State}
    (hact : ∀ t f, Lawful r b t → Lawful r b (act t f)) : KeepsLaws r b (serveKind s kind n act) :=
  keepsLaws_serve h _ _ hact

theorem keepsLaws_reportKind (h : Lawful r b s) (kind : Byte) (n : Nat) {act : State → Frame → State}
    (hact : ∀ t f, (act t f).view = t.view) : KeepsLaws r b (serveKind s kind n act) :=
  keepsLaws_report h _ _ hact

theorem keepsLaws_execUnknownKind (h : Lawful r b s) : KeepsLaws r b (execUnknownKind s) := by
  unfold execUnknownKind
  exact keepsLaws_report h _ _ fun _ _ => rfl

theorem keepsLaws_execIdentify (h : Lawful r b s) : KeepsLaws r b (execIdentify s) := by
  unfold execIdentify serveKind
  exact keepsLaws_report h _ _ fun _ _ => rfl

theorem keepsLaws_execSetClock (h : Lawful r b s) : KeepsLaws r b (execSetClock s) := by
  unfold execSetClock serveKind
  exact keepsLaws_report h _ _ fun _ _ => rfl

theorem keepsLaws_execReadTemperatures (h : Lawful r b s) : KeepsLaws r b (execReadTemperatures s) := by
  unfold execReadTemperatures
  exact keepsLaws_report h _ _ fun _ _ => by split <;> rfl

theorem keepsLaws_execReadTemperatureDetail (h : Lawful r b s) : KeepsLaws r b (execReadTemperatureDetail s) := by
  unfold execReadTemperatureDetail
  exact keepsLaws_report h _ _ fun _ _ => rfl

theorem keepsLaws_execReadPlant (h : Lawful r b s) : KeepsLaws r b (execReadPlant s) := by
  unfold execReadPlant serveKind
  exact keepsLaws_report h _ _ fun _ _ => rfl

theorem keepsLaws_execReadQueue (h : Lawful r b s) : KeepsLaws r b (execReadQueue s) := by
  unfold execReadQueue serveKind
  exact keepsLaws_report h _ _ fun _ _ => by dsimp only; split <;> rfl

theorem keepsLaws_execReadHeld (h : Lawful r b s) : KeepsLaws r b (execReadHeld s) := by
  unfold execReadHeld
  exact keepsLaws_report h _ _ fun _ _ => by split <;> rfl

theorem keepsLaws_execReadHeldDetail (h : Lawful r b s) : KeepsLaws r b (execReadHeldDetail s) := by
  unfold execReadHeldDetail
  exact keepsLaws_report h _ _ fun _ _ => by split <;> rfl

theorem keepsLaws_execReadWeak (h : Lawful r b s) : KeepsLaws r b (execReadWeak s) := by
  unfold execReadWeak serveKind
  exact keepsLaws_report h _ _ fun _ _ => by dsimp only; split <;> rfl

theorem keepsLaws_execReadConditions (h : Lawful r b s) : KeepsLaws r b (execReadConditions s) := by
  unfold execReadConditions serveKind
  refine keepsLaws_report h _ _ fun _ _ => ?_
  dsimp only
  split
  · rfl
  · split <;> rfl

theorem keepsLaws_execClearConditions (h : Lawful r b s) : KeepsLaws r b (execClearConditions s) :=
  keepsLaws_report h _ _ fun _ f => view_serveClearConditions f

/-- Every command but a reset's release keeps the laws, with the roles and with the buses or without. -/
theorem keepsLaws_exec (h : Lawful r b s) (hr : r) (c : Instr) (hc : c ≠ .resetRelease) :
    KeepsLaws r b (exec c s) := by
  have hwhen : ∀ (c : Prop) [Decidable c] (t : State), (c → Lawful r b t) →
      KeepsLaws r b (if c then settled t else .next s) :=
    fun c _ t ht => keepsLaws_ite h fun hc => keepsLaws_settled (ht hc)
  cases c with
  | powerOn => exact keepsLaws_next (lawful_afterReset r b s _ _)
  | resetN => exact keepsLaws_execResetN r b s
  | resetRelease => exact absurd rfl hc
  | ready => exact keepsLaws_ite h fun _ => keepsLaws_next h
  | sampleInstant levels => exact keepsLaws_execSampleInstant h hr levels
  | slotStart => exact keepsLaws_ite h fun _ => keepsLaws_next h
  | scanCompletion cells => exact keepsLaws_execScanCompletion h cells
  | currentSample amps => exact keepsLaws_execCurrentSample h amps
  | conversionCompletion gateTh gateRef => exact keepsLaws_execConversionCompletion h gateTh gateRef
  | flowPulse => exact keepsLaws_execFlowPulse h
  | flowRest => exact keepsLaws_next h
  | tachEdge atMicros => exact keepsLaws_execTachEdge h atMicros
  | tachTimeout => exact keepsLaws_execTachTimeout h
  | hourRollover p => exact hwhen _ _ fun _ => by simpa [Lawful] using h
  | grantCountdown => exact keepsLaws_execGrantCountdown h
  | minuteEvaluation => exact hwhen _ _ fun _ => h
  | transferOutTimeout c => exact keepsLaws_execTransferOutTimeout h c
  | transferBackTimeout c => exact keepsLaws_execTransferBackTimeout h c
  | rampStep c => exact hwhen _ _ fun _ => lawful_rampStep h c
  | holdMinute c => exact keepsLaws_execHoldMinute h c
  | settleEnd c => exact keepsLaws_execSettleEnd h c
  | giveUp c => exact keepsLaws_execGiveUp h c
  | ageMinute p => exact keepsLaws_execAgeMinute h hr p
  | runOnExpiry => exact hwhen _ _ fun _ => by simpa [Lawful] using h
  | lowSpeedExpiry => exact hwhen _ _ fun _ => lawful_ventFails h
  | recoveryExpiry => exact hwhen _ _ fun _ => by simpa [Lawful] using h
  | purgeEnd => exact hwhen _ _ fun _ => by simpa [Lawful] using h
  | graceExpiry => exact keepsLaws_execGraceExpiry h
  | primingEnd => exact hwhen _ _ fun _ => by simpa [Lawful] using h
  | primeTimeout => exact hwhen _ _ fun _ => by simpa [Lawful] using h
  | flowStop => exact hwhen _ _ fun _ => by simpa [Lawful] using h
  | pauseEnd => exact hwhen _ _ fun _ => by simpa [Lawful] using h
  | closingEnd => exact hwhen _ _ fun _ => lawful_closingEnd h
  | manualDoseEnd => exact keepsLaws_execManualDoseEnd h
  | notice => exact keepsLaws_execNotice h
  | logRecord => exact keepsLaws_execLogRecord h
  | logEnd => exact keepsLaws_execLogEnd h
  | messageSent => exact keepsLaws_next h
  | frameReceived byte => exact keepsLaws_ite h fun _ => keepsLaws_next (by simpa [Lawful] using h)
  | unknownKind => exact keepsLaws_execUnknownKind h
  | identify => exact keepsLaws_execIdentify h
  | readStatus => exact keepsLaws_reportKind h _ _ fun _ f => view_readStatusReply f
  | setClock => exact keepsLaws_execSetClock h
  | readString => exact keepsLaws_reportKind h _ _ fun _ f => view_readStringReply f
  | readCells => exact keepsLaws_reportKind h _ _ fun _ f => view_readCellsReply f
  | readTemperatures => exact keepsLaws_execReadTemperatures h
  | readTemperatureDetail => exact keepsLaws_execReadTemperatureDetail h
  | readPlant => exact keepsLaws_execReadPlant h
  | setSetting => exact keepsLaws_serveKind h _ _ fun _ f ht => lawful_serveSetSetting ht hr f
  | storeWriteEnd => exact keepsLaws_ite h fun _ => keepsLaws_next h
  | readSetting => exact keepsLaws_reportKind h _ _ fun _ f => view_readSettingReply f
  | submitRound => exact keepsLaws_reportKind h _ _ fun _ f => view_serveSubmitRound f
  | cancelRound => exact keepsLaws_serveKind h _ _ fun _ f ht => lawful_serveCancelRound ht hr f
  | readQueue => exact keepsLaws_execReadQueue h
  | readHeld => exact keepsLaws_execReadHeld h
  | readHeldDetail => exact keepsLaws_execReadHeldDetail h
  | supplyGrant => exact keepsLaws_serveKind h _ _ fun _ f ht => lawful_serveSupplyGrant ht f
  | claimLine => exact keepsLaws_serveKind h _ _ fun _ f ht => lawful_serveClaimLine ht f
  | releaseLine => exact keepsLaws_serveKind h _ _ fun _ f ht => lawful_serveReleaseLine ht f
  | manualDose => exact keepsLaws_serveKind h _ _ fun _ f ht => lawful_serveManualDose ht f
  | refill => exact keepsLaws_reportKind h _ _ fun _ f => view_serveRefill f
  | readWeak => exact keepsLaws_execReadWeak h
  | clearWeak => exact keepsLaws_reportKind h _ _ fun _ f => view_serveClearWeak f
  | releaseLock => exact keepsLaws_reportKind h _ _ fun _ f => view_serveReleaseLock f
  | setNoticeMaster => exact keepsLaws_reportKind h _ _ fun _ f => view_serveSetNoticeMaster f
  | readConditions => exact keepsLaws_execReadConditions h
  | clearConditions => exact keepsLaws_execClearConditions h
  | readLog => exact keepsLaws_reportKind h _ _ fun _ f => view_serveReadLog f
  | stopLog => exact keepsLaws_reportKind h _ _ fun _ _ => rfl
  | restart => exact keepsLaws_serveKind h _ _ fun _ f ht => lawful_serveRestart ht hr f
  | finalStep => exact keepsLaws_execFinalStep h
  | receivedByte byte => exact keepsLaws_ite h fun _ => keepsLaws_next (by simpa [Lawful] using h)

end

/-- Settles O56: every command keeps roles and buses together, but for a release of a part held in reset, which may
lose the roles of channels in use and keeps the buses without them. -/
theorem busesStayApart : Obligations.BusesStayApart := by
  intro s t hroles hbuses hstep
  have h : Lawful True True s := (lawful_iff s True).2 ⟨hroles, fun _ => hbuses⟩
  have hapart : ∀ r, KeepsLaws r True (step s) → BusesApart t := fun r hkeeps =>
    (busesApart_iff t).2 ((hkeeps t hstep).buses trivial)
  unfold step at hapart
  split at hapart
  next c rest hpending =>
    have hpopped : Lawful True True { s with pending := rest } := h
    by_cases hc : c = .resetRelease
    · subst hc
      by_cases hheld : s.phase = .held
      · exact hapart False (keepsLaws_execResetRelease hheld hpopped)
      · refine hapart True ?_
        show KeepsLaws True True (if s.phase = .held then _ else _)
        rw [if_neg hheld]
        exact keepsLaws_next hpopped
    · exact hapart True (keepsLaws_exec hpopped trivial c hc)
  next =>
    refine hapart True (keepsLaws_next ?_)
    rcases passTime_cases s with hsame | ⟨-, hmoved⟩
    · rw [hsame]; exact h
    · rw [hmoved]; exact h

end Sys2Proof.Machine
end

-- ==== Proofs: the state after reset ====
section
/-! PROOFS. The state after reset meets every law (O60). -/

namespace Sys2Proof.Machine

open Sys2Proof.Safety

/-- The default settings lie in their ranges (R184). -/
theorem inRange_default : InRange .default := by
  refine ⟨fun i => ?_, by decide⟩
  cases i <;> decide

/-- Every channel is IDLE, with nothing on its stack, after reset (R91). -/
@[simp] theorem reset_chan (c : Ch) : State.reset.chan.get c = Channel.reset := by cases c <;> rfl

/-- Every string's situation after reset is the after-reset one, by whether the position is fitted (R54). -/
theorem reset_sit (p : Pos) : State.reset.sit.get p = .reset (State.reset.cfg.fitted.testBit (p.num - 1)) := by
  cases p <;> decide

/-- Roles and buses are lawful after reset. -/
theorem lawful_reset : RolesAgree State.reset ∧ BusesApart State.reset := by
  have h : Lawful True True State.reset := by
    rw [Lawful, view_reset]
    exact lawful_atReset True True _
  obtain ⟨hroles, hbuses⟩ := (lawful_iff _ True).1 h
  exact ⟨hroles, hbuses trivial⟩

/-- Settles O60: each law is looked up in the state after reset. -/
theorem resetMeetsTheLaws : Obligations.ResetMeetsTheLaws := by
  refine ⟨by unfold Capacities; decide, fun c => ?_, fun c _ => ?_, ⟨fun p => ?_, by decide, by decide⟩,
    ⟨by decide, by decide, fun k hk => absurd hk (Nat.not_lt_zero k)⟩, ⟨inRange_default, inRange_default⟩,
    lawful_reset.1, lawful_reset.2,
    fun _ => ⟨rfl, rfl, rfl, rfl, fun c => reset_chan c, rfl, rfl, rfl, rfl, fun p => reset_sit p⟩,
    ⟨fun _ => rfl, fun h => absurd rfl h⟩⟩
  · cases c <;> rfl
  · cases c <;> rfl
  · simp [State.reset, Outputs.safe, Line.reset, LineStage.dispensing]

end Sys2Proof.Machine
end

-- ==== Proofs: cell scans, the tach and the flow ====
section
/-! PROOFS. Slots, cell entries, a scan's statistics, flow pulses and tach edges (O11, O13, O14, O20, O21). -/

namespace Sys2Proof.Machine

open Sys2Proof.Safety

/-! ### The timer base -/

/-- Outside a reset the measuring blocks run. -/
theorem running_of_phase (s : State) (h : s.phase ≠ .held) : running s = true := by
  simpa [running] using h

/-! ### Slots -/

/-- Settles O11: the slot's rule, unfolded once. -/
theorem slotStartSelects : Obligations.SlotStartSelects := by
  intro s hphase
  show execSlotStart s = _
  unfold execSlotStart
  rw [if_pos (running_of_phase s hphase)]
  rfl

/-! ### Cell entries (R19) -/

/-- A measurement above 3000 mV is stored as 3000 with OVER. -/
theorem cellEntry_of_over (mv : Nat) (h : 3000 < mv) :
    cellEntry mv = { mv := 3000, isOver := true, isOpen := false } := by
  simp [cellEntry, h]

/-- A measurement up to 3000 mV is stored as it is, with OPEN below 500 mV. -/
theorem cellEntry_of_le (mv : Nat) (h : mv ≤ 3000) :
    cellEntry mv = { mv := mv, isOver := false, isOpen := decide (mv < 500) } := by
  simp [cellEntry, Nat.not_lt.2 h]

/-- The stored value of a measurement. -/
@[simp] theorem cellEntry_mv (mv : Nat) : (cellEntry mv).mv = min 3000 mv := by
  rcases Nat.lt_or_ge 3000 mv with h | h
  · rw [cellEntry_of_over mv h]; exact (Nat.min_eq_left h.le).symm
  · rw [cellEntry_of_le mv h]; exact (Nat.min_eq_right h).symm

/-- OVER marks the measurements above 3000 mV. -/
@[simp] theorem cellEntry_isOver (mv : Nat) : (cellEntry mv).isOver = decide (3000 < mv) := by
  rcases Nat.lt_or_ge 3000 mv with h | h
  · simp [cellEntry_of_over mv h, h]
  · simp [cellEntry_of_le mv h, h]

/-- OPEN marks the measurements below 500 mV. -/
@[simp] theorem cellEntry_isOpen (mv : Nat) : (cellEntry mv).isOpen = decide (mv < 500) := by
  rcases Nat.lt_or_ge 3000 mv with h | h
  · have hge : 500 ≤ mv := by omega
    simp [cellEntry_of_over mv h, hge]
  · rw [cellEntry_of_le mv h]

/-- Settles O14: the three ranges of a measurement, and the two flags' bounds apart. -/
theorem cellEntryOfAMeasurement : Obligations.CellEntryOfAMeasurement := by
  refine ⟨cellEntry_of_over, fun mv h => ?_, fun mv hlo hhi => ?_, fun mv => ⟨?_, ?_⟩, fun _ _ => rfl⟩
  · rw [cellEntry_of_le mv (by omega), decide_eq_true h]
  · rw [cellEntry_of_le mv hhi, decide_eq_false (by omega)]
  · rw [cellEntry_isOver, cellEntry_isOpen, decide_eq_true_iff, decide_eq_true_iff]
    omega
  · rw [cellEntry_mv]; exact Nat.min_le_left _ _

/-! ### Statistics (R20) -/

/-- A value and a cell number are the extreme of a list of entries in an order: the cell holds the value, no entry
comes before it in the order, and those of lower-numbered cells come after it. -/
structure IsExtreme (r : Nat → Nat → Prop) (l : List CellEntry) (best : Nat × Nat) : Prop where
  numbered : 1 ≤ best.2
  holds : (l[best.2 - 1]?).map (·.mv) = some best.1
  first : ∀ e ∈ l, ¬ r e.mv best.1
  lowest : ∀ e ∈ l.take (best.2 - 1), r best.1 e.mv

section
variable {r : Nat → Nat → Prop} [DecidableRel r] [IsStrictTotalOrder Nat r]

/-- One more entry: it is the new extreme if it comes before the old one, and leaves it otherwise. -/
theorem IsExtreme.snoc {l : List CellEntry} {best : Nat × Nat} (h : IsExtreme r l best) (e : CellEntry) :
    IsExtreme r (l ++ [e]) (if r e.mv best.1 then (e.mv, l.length + 1) else best) := by
  split
  next hbefore =>
    refine ⟨by simp, by simp, fun d hd => ?_, fun d hd => ?_⟩
    · rcases List.mem_append.1 hd with hd | hd
      · exact fun hde => h.first d hd (trans_of r hde hbefore)
      · rw [List.mem_singleton.1 hd]; exact irrefl_of r _
    · have hmem : d ∈ l := by simpa using hd
      exact trans_trichotomous_right hbefore (h.first d hmem)
  next hafter =>
    have hlt : best.2 - 1 < l.length := by
      by_contra hge
      simpa [List.getElem?_eq_none (Nat.not_lt.1 hge)] using h.holds
    refine ⟨h.numbered, ?_, fun d hd => ?_, fun d hd => ?_⟩
    · rw [List.getElem?_append_left hlt]; exact h.holds
    · rcases List.mem_append.1 hd with hd | hd
      · exact h.first d hd
      · rw [List.mem_singleton.1 hd]; exact hafter
    · rw [List.take_append_of_le_length hlt.le] at hd
      exact h.lowest d hd

/-- The search goes on from the extreme of the cells already seen. -/
theorem isExtreme_extreme (seen l : List CellEntry) (best : Nat × Nat) (h : IsExtreme r seen best) :
    IsExtreme r (seen ++ l) (extreme (fun v b => decide (r v b)) (seen.length + 1) l best) := by
  induction l generalizing seen best with
  | nil => simpa [extreme] using h
  | cons e l ih =>
    have hnext := ih (seen ++ [e]) _ (h.snoc e)
    simpa [extreme] using hnext

/-- The search from the first cell finds the extreme of a list that is not empty. -/
theorem isExtreme_of_ne_nil (l : List CellEntry) (hl : l ≠ []) :
    IsExtreme r l (extreme (fun v b => decide (r v b)) 1 l (firstCell l)) := by
  obtain ⟨e, l, rfl⟩ := List.exists_cons_of_ne_nil hl
  have hone : IsExtreme r [e] (e.mv, 1) := ⟨le_rfl, by simp, by simp [irrefl_of r], by simp⟩
  simpa [extreme, firstCell, irrefl_of r] using isExtreme_extreme [e] l (e.mv, 1) hone

end

/-- The least value, with the lowest-numbered cell that holds it. -/
theorem isExtreme_min (l : List CellEntry) (hl : l ≠ []) :
    IsExtreme (· < ·) l ((statsOf l).minMv, (statsOf l).minCell) := isExtreme_of_ne_nil l hl

/-- The greatest value, with the lowest-numbered cell that holds it. -/
theorem isExtreme_max (l : List CellEntry) (hl : l ≠ []) :
    IsExtreme (· > ·) l ((statsOf l).maxMv, (statsOf l).maxCell) := isExtreme_of_ne_nil l hl

/-- The flag for OPEN. -/
theorem statsOf_anyOpen (l : List CellEntry) : (statsOf l).anyOpen = l.any (·.isOpen) := rfl

/-- The flag for OVER. -/
theorem statsOf_anyOver (l : List CellEntry) : (statsOf l).anyOver = l.any (·.isOver) := rfl

/-- Settles O13: the two extremes of a list that is not empty, and the flags. -/
theorem statisticsOfAScan : Obligations.StatisticsOfAScan := by
  intro l hlength
  have hl : l ≠ [] := List.ne_nil_of_length_pos (by omega)
  have hmin := isExtreme_min l hl
  have hmax := isExtreme_max l hl
  exact ⟨rfl, rfl, hmin.numbered, hmin.holds, fun e he => Nat.not_lt.1 (hmin.first e he), hmin.lowest,
    hmax.numbered, hmax.holds, fun e he => Nat.not_lt.1 (hmax.first e he), hmax.lowest,
    by rw [statsOf_anyOpen]; exact List.any_eq_true, by rw [statsOf_anyOver]; exact List.any_eq_true⟩

/-! ### Condition events -/

/-- A condition event leaves every other latch as it is (R171). -/
theorem event_latches_other (s : State) (c d : Condition) (n v : Nat) (l : Option Level) (h : d ≠ c) :
    (s.event c n v l).latches.get d = s.latches.get d := by
  unfold State.event
  exact latches_get_set_other _ _ _ _ h

/-! ### Flow pulses (R30, R140, R153) -/

/-- The low test latches RESERVOIR_LOW at most (R154). -/
theorem reservoirTest_latches_other (s : State) (c : Condition) (h : c ≠ .reservoirLow) :
    (reservoirTest s).latches.get c = s.latches.get c := by
  unfold reservoirTest; dsimp only
  split
  · exact event_latches_other _ _ _ _ _ _ h
  · rfl

/-- A new account is tested: the account, the low mark and the latches alone change (R153, R154). -/
theorem setAccount_frame (s : State) (v : Nat) :
    { s with
      reservoir := { account := v, low := decide (v < s.cfg.reservoirLowMl) }
      latches := (setAccount s v).latches } = setAccount s v :=
  reservoirTest_frame { s with reservoir := { s.reservoir with account := v } }

/-- With no watering in progress a pulse lowers the account alone (R140, R153). -/
theorem linePulse_of_not_watering (s : State) (h : s.line.stage.watering = false) :
    linePulse s = setAccount s (s.reservoir.account - s.cfg.flowMlPerPulse) := by
  unfold linePulse; dsimp only
  have hline : (setAccount s (s.reservoir.account - s.cfg.flowMlPerPulse)).line = s.line := by
    rw [← setAccount_frame]
  rw [hline, h]
  rfl

/-- A level that stays PULSE is not counted again (R30). -/
theorem execFlowPulse_of_pulse (s : State) (h : s.flow.pulse = true) : execFlowPulse s = .next s := by
  simp [execFlowPulse, h]

/-- A state with a pulse counted by the Flow Counter (R30). -/
def pulsed (s : State) : State :=
  { s with flow := { pulse := true, total := (s.flow.total + 1) % 4294967296, lastPulse := some s.base.runSec } }

/-- A change to PULSE is counted and delivered to the line (R30). -/
theorem execFlowPulse_of_rest (s : State) (hphase : s.phase ≠ .held) (h : s.flow.pulse = false) :
    execFlowPulse s = settled (linePulse (pulsed s)) := by
  simp [execFlowPulse, running_of_phase s hphase, h, pulsed]

/-- Settles O20: the pulse's count, then the account's change while no watering is in progress. -/
theorem flowPulseIsCounted : Obligations.FlowPulseIsCounted := by
  refine ⟨fun s hphase hrest hsettled hstage => ?_, fun _ => rfl, execFlowPulse_of_pulse⟩
  have hdry : (pulsed s).line.stage.watering = false := by
    show s.line.stage.watering = false
    rcases hstage with h | h <;> rw [h] <;> rfl
  have hframe := setAccount_frame (pulsed s) (s.reservoir.account - s.cfg.flowMlPerPulse)
  have hexec : exec .flowPulse s =
      .next (setAccount (pulsed s) (s.reservoir.account - s.cfg.flowMlPerPulse)) := by
    show execFlowPulse s = _
    rw [execFlowPulse_of_rest s hphase hrest, linePulse_of_not_watering _ hdry]
    exact settled_of_settled _ (by rw [← setAccount_frame]; exact hsettled)
  exact ⟨_, hexec, reservoirTest_latches_other _, hframe⟩

/-! ### Tach edges (R32, R33, R122) -/

/-- A timer that is to run while a fan turns slowly. -/
theorem runWhile_and (b : Bool) (P : Prop) [Decidable P] (t : Option Nat) :
    runWhile (b && decide P) t = if b = true ∧ P then some (t.getD 0) else none := by
  simp [runWhile]

/-- A speed taken while the vent is OK: Site Permissions holds it, and times a fan that turns slowly (R122). -/
theorem speedDelivered_ok (s : State) (rpm : Nat) (h : s.perm.ventFailed = false) :
    speedDelivered s rpm =
      { s with perm := { s.perm with
          speed := rpm
          lowSpeed :=
            if s.perm.fan = true ∧ rpm < s.cfg.fanMinRpm then some (s.perm.lowSpeed.getD 0) else none } } := by
  have hok : (s.modPerm fun p => { p with speed := rpm }).perm.ventFailed = false := h
  rw [speedDelivered, ventMonitor_ok _ hok, ← runWhile_and]
  rfl

/-- A speed taken while the vent is OK makes nothing due. -/
theorem settled_speedDelivered (s : State) (rpm : Nat) (hok : s.perm.ventFailed = false) (hs : Settled s) :
    settled (speedDelivered s rpm) =
      .next { s with perm := { s.perm with
        speed := rpm
        lowSpeed :=
          if s.perm.fan = true ∧ rpm < s.cfg.fanMinRpm then some (s.perm.lowSpeed.getD 0) else none } } := by
  rw [speedDelivered_ok s rpm hok]
  exact settled_of_settled _ hs

/-- Settles O21: an edge by the reference it finds, and the timeout; both deliver a speed while the vent is OK. -/
theorem tachEdgeGivesSpeed : Obligations.TachEdgeGivesSpeed := by
  refine ⟨fun s at' hphase hnone => ?_, fun s at' r href hnear => ?_, fun s at' r hphase href hfar hok hsettled => ?_,
    fun s r href hdue hok hsettled => ?_⟩
  · show execTachEdge at' s = _
    simp [execTachEdge, running_of_phase s hphase, hnone]
  · show execTachEdge at' s = _
    simp [execTachEdge, href, hnear]
  · have hlater : ¬ at' < r + 500 := Nat.not_lt.2 hfar
    show execTachEdge at' s = _
    simp only [execTachEdge, running_of_phase s hphase, if_true, href, hlater, if_false]
    exact settled_speedDelivered { s with tach := _ } _ hok hsettled
  · have htimeout : tachDue s r = true := decide_eq_true hdue
    show execTachTimeout s = _
    simp only [execTachTimeout, href, htimeout, if_true]
    exact settled_speedDelivered { s with tach := _ } _ hok hsettled

end Sys2Proof.Machine
end

-- ==== Proofs: completed scans ====
section
/-! PROOFS. A scan's completion: the readings, the SENSE fault, and the holdback of a string in HOLD (O12). -/

namespace Sys2Proof.Machine

open Sys2Proof.Safety

/-! ### The channel that holds a string -/

/-- Which channel holds a string is a matter of the channels alone (R69). -/
theorem holder_of_chan (s t : State) (p : Pos) (h : t.chan = s.chan) : holder t p = holder s p := by
  unfold holder isIdle; dsimp only; rw [h]

/-- With both channels IDLE no channel holds a string. -/
theorem holder_of_idle (s : State) (p : Pos) (h : ChannelsIdle s) : holder s p = none := by
  obtain ⟨ha, hb⟩ := h
  simp [holder, isIdle, Two.get, ha, hb]

/-- The context of the channel that holds a string names the string. -/
theorem string_of_holder (s : State) (p : Pos) (c : Ch) (x : Context) (hc : holder s p = some c)
    (hx : (s.chan.get c).ctx = some x) : x.string = p := by
  obtain ⟨-, hstring⟩ := holder_spec hc
  simpa [State.view, Channel.view, hx] using hstring

/-! ### SENSE faults (R59) -/

/-- A recomputed SENSE fault leaves the other strings' situations as they are. -/
theorem recomputeSense_sit_other (s : State) (p q : Pos) (h : q ≠ p) :
    (recomputeSense s p).sit.get q = s.sit.get q := by
  rw [recomputeSense_sit]; split
  · exact eight_get_set_other _ _ _ _ h
  · rfl

/-- Of its own string's situation it changes the two parts of the fault. -/
theorem recomputeSense_sit_parts (s : State) (p : Pos) :
    { s.sit.get p with
      senseCell := ((recomputeSense s p).sit.get p).senseCell
      sensePilot := ((recomputeSense s p).sit.get p).sensePilot } = (recomputeSense s p).sit.get p := by
  rw [recomputeSense_sit]; split
  · rw [eight_get_set_same]
  · rfl

/-- The cell part of a fitted position stands as its statistics do. -/
theorem recomputeSense_cell (s : State) (p : Pos) (h : fitted s p = true) :
    ((recomputeSense s p).sit.get p).senseCell = senseCellNow s p := by
  rw [recomputeSense_sit, if_pos h, eight_get_set_same]

/-- It latches SENSE_FAULT at most. -/
theorem recomputeSense_latches_other (s : State) (p : Pos) (c : Condition) (h : c ≠ .senseFault) :
    (recomputeSense s p).latches.get c = s.latches.get c := by
  unfold recomputeSense; split
  · dsimp only; split
    · exact event_latches_other _ _ _ _ _ _ h
    · rfl
  · rfl

/-! ### The readings of a completed scan (R20) -/

/-- OPEN stands in the statistics when a cell measures below 500 mV (R19, R20). -/
theorem statsOf_cellEntry_anyOpen (mvs : List Nat) :
    (statsOf (mvs.map cellEntry)).anyOpen = mvs.any fun v => decide (v < 500) := by
  simp [statsOf_anyOpen, List.any_map, Function.comp_def]

/-- The maximum of the statistics is not below any cell's stored measurement (R19, R20). -/
theorem min_le_statsOf_maxMv (mvs : List Nat) (mv : Nat) (h : mv ∈ mvs) :
    min 3000 mv ≤ (statsOf (mvs.map cellEntry)).maxMv := by
  have hentry : cellEntry mv ∈ mvs.map cellEntry := List.mem_map_of_mem h
  have hmax := (isExtreme_max _ (List.ne_nil_of_mem hentry)).first _ hentry
  rwa [cellEntry_mv, gt_iff_lt, Nat.not_lt] at hmax

/-- A state with a completed scan's readings stored, before its delivery (R20, R21). -/
def scanned (s : State) (p : Pos) (mvs : List Nat) : State :=
  { s with
    base := { s.base with ms := max s.base.ms s.base.slotAt }
    scan :=
      { s.scan with
        measuring := none
        strings := s.scan.strings.set p ((s.scan.strings.get p).complete mvs) } }

/-- The completion stores the readings and delivers them to the String Table and the channel. -/
theorem completeScan_eq (s : State) (p : Pos) (mvs : List Nat) :
    completeScan s p mvs = channelScan (recomputeSense (scanned s p mvs) p) p := rfl

/-- The command completes the scan of the string under measurement. -/
theorem execScanCompletion_of_measuring (s : State) (p : Pos) (mvs : List Nat) (hp : s.scan.measuring = some p)
    (hlength : mvs.length = 24) :
    execScanCompletion mvs s = settled (channelScan (recomputeSense (scanned s p mvs) p) p) := by
  simp [execScanCompletion, hp, hlength, cellsPerString, completeScan_eq]

/-- The statistics of the string just scanned. -/
theorem scanned_stats (s : State) (p : Pos) (mvs : List Nat) :
    ((scanned s p mvs).scan.strings.get p).stats = some (statsOf (mvs.map cellEntry)) := by
  simp [scanned, Scan.complete]

/-- The cell part of the string just scanned: OPEN when a cell measures below 500 mV (R59). -/
theorem senseCellNow_scanned (s : State) (p : Pos) (mvs : List Nat) :
    senseCellNow (scanned s p mvs) p = if mvs.any (fun v => decide (v < 500)) then .opened else .none := by
  simp only [senseCellNow, scanned_stats, statsOf_cellEntry_anyOpen]

/-! ### What the channel makes of a scan (R102, R105) -/

/-- A string that no channel holds: no channel takes its scan. -/
theorem channelScan_of_free (s : State) (p : Pos) (h : holder s p = none) : channelScan s p = s := by
  simp [channelScan, h]

/-- In HOLD a scan without an OPEN cell and with a maximum above CELL_MAX_MV makes a holdback. -/
theorem channelScan_of_high_cell (s : State) (p : Pos) (c : Ch) (x : Context) (t : Stats)
    (hc : holder s p = some c) (hx : (s.chan.get c).ctx = some x) (hstage : (s.chan.get c).stage = .hold)
    (ht : (s.scan.strings.get p).stats = some t) (hopen : t.anyOpen = false) (hmax : s.cfg.cellMaxMv < t.maxMv) :
    channelScan s p = holdback s c x := by
  simp [channelScan, hc, hx, hstage, ht, hopen, hmax]

/-- A ceiling lowered to a candidate, never raised (R102). -/
def loweredCeiling (x : Context) (cand : Nat) : Nat :=
  match x.ceiling with
  | some old => min old cand
  | none => cand

/-- The target test concerns RAMP alone (R98). -/
theorem targetTest_of_not_ramp (s : State) (c : Ch) (h : (s.chan.get c).stage ≠ .ramp) : targetTest s c = s := by
  unfold targetTest; dsimp only
  split
  next hramp _ => exact absurd hramp h
  next => rfl

/-- A direct event in HOLD writes the effective target (R45, R47). -/
theorem writeDirect_of_hold (s : State) (c : Ch) (x : Context) (hx : (s.chan.get c).ctx = some x)
    (hstage : (s.chan.get c).stage = .hold) :
    writeDirect s c = writeDemand s c (cellCode (effectiveTarget s x)) (some (effectiveTarget s x)) := by
  simp [writeDirect, hx, hstage, cellDemand]

/-- A holdback in HOLD: the new ceiling, and the demand it gives written at once (R102, R45, R47). -/
theorem holdback_of_hold (s : State) (c : Ch) (x : Context) (v h w : Nat) (hx : (s.chan.get c).ctx = some x)
    (hstage : (s.chan.get c).stage = .hold) (hv : (s.present.get c).cell = some v)
    (hh : h = loweredCeiling x (max (s.comp.get x.string).floatMv (v - s.cfg.rampStepMv)))
    (hw : w = max (min (s.comp.get x.string).eqMv h) (s.comp.get x.string).floatMv) :
    holdback s c x =
      { s with
        chan := s.chan.set c { s.chan.get c with ctx := some { x with ceiling := some h } }
        present := s.present.set c { code := cellCode w, cell := some w }
        out := { s.out with charger := s.out.charger.set c { s.out.charger.get c with demand := cellCode w } } } := by
  have hheld : holdback s c x =
      targetTest (writeDirect (s.modCtx c fun y => { y with ceiling := some h }) c) c := by
    rw [hh]; simp only [holdback, hv, Option.getD_some]; rfl
  have hctx : s.modCtx c (fun y => { y with ceiling := some h }) =
      { s with chan := s.chan.set c { s.chan.get c with ctx := some { x with ceiling := some h } } } := by
    simp [State.modCtx, State.modChan, hx]
  have htarget : effectiveTarget
      { s with chan := s.chan.set c { s.chan.get c with ctx := some { x with ceiling := some h } } }
      { x with ceiling := some h } = w := hw.symm
  rw [hheld, hctx, writeDirect_of_hold _ c { x with ceiling := some h } (by simp) (by simpa using hstage), htarget]
  exact targetTest_of_not_ramp _ c (by simp [writeDemand, hstage])

/-- Settles O12: the readings are stored and the fault recomputed; a string in HOLD then makes its holdback. -/
theorem scanCompletionReplaces : Obligations.ScanCompletionReplaces := by
  refine ⟨fun s p mvs hp hlength hsettled hfree => ?_,
    fun s p mvs c x v h w hp hlength hsettled hc hstage hx hv hclosed hhigh hh hw => ?_⟩
  · have hframe := recomputeSense_frame (scanned s p mvs) p
    have hscan : (recomputeSense (scanned s p mvs) p).scan = (scanned s p mvs).scan := by rw [← hframe]
    have hchan : (recomputeSense (scanned s p mvs) p).chan = s.chan := by rw [← hframe]; rfl
    have hexec : exec (.scanCompletion mvs) s = .next (recomputeSense (scanned s p mvs) p) := by
      show execScanCompletion mvs s = _
      rw [execScanCompletion_of_measuring s p mvs hp hlength,
        channelScan_of_free _ p ((holder_of_chan s _ p hchan).trans hfree)]
      exact settled_of_settled _ (by rw [← hframe]; exact hsettled)
    refine ⟨_, hexec, ?_, fun q hq => ⟨?_, recomputeSense_sit_other _ p q hq⟩, ?_, ?_, ?_, fun hfit => ?_,
      recomputeSense_sit_parts (scanned s p mvs) p, recomputeSense_latches_other _ p, ?_⟩
    · rw [hscan]; exact eight_get_set_same _ _ _
    · rw [hscan]; exact eight_get_set_other _ _ _ _ hq
    · rw [hscan]; rfl
    · rw [hscan]; rfl
    · rw [hscan]; rfl
    · rw [recomputeSense_cell (scanned s p mvs) p hfit, senseCellNow_scanned]
    · rw [hscan]; exact hframe
  · obtain rfl := string_of_holder s p c x hc hx
    obtain ⟨sit, latches, hsense⟩ : ∃ sit latches, recomputeSense (scanned s x.string mvs) x.string =
        { scanned s x.string mvs with sit := sit, latches := latches } := ⟨_, _, (recomputeSense_frame _ _).symm⟩
    obtain ⟨mv, hmem, hmv⟩ := hhigh
    have hopen : (statsOf (mvs.map cellEntry)).anyOpen = false := by
      rw [statsOf_cellEntry_anyOpen, List.any_eq_false]
      exact fun v hv => by simpa using hclosed v hv
    have hmax : s.cfg.cellMaxMv < (statsOf (mvs.map cellEntry)).maxMv :=
      hmv.trans_le (min_le_statsOf_maxMv mvs mv hmem)
    have hheld := (channelScan_of_high_cell { scanned s x.string mvs with sit := sit, latches := latches } x.string c x
      _ hc hx hstage (scanned_stats s x.string mvs) hopen hmax).trans (holdback_of_hold _ c x v h w hx hstage hv hh hw)
    have hexec : exec (.scanCompletion mvs) s = _ := execScanCompletion_of_measuring s x.string mvs hp hlength
    rw [hexec, hsense, hheld]
    exact ⟨_, settled_of_settled _ hsettled, rfl, rfl, rfl, rfl⟩

end Sys2Proof.Machine
end

-- ==== Proofs: seconds and currents ====
section
/-! PROOFS. A second of the timer base and its current samples: what it makes of the histories and the situations while
it makes no string due, and the second with no channel in RAMP or HOLD (O15). -/

namespace Sys2Proof.Machine

open Sys2Proof.Safety

/-! ### One position's sample (R23, R56) -/

/-- A sample's record is the sample clamped at 200.0 A either way, with the flag (R23). -/
theorem currentRec_eq (dA : Int) :
    currentRec dA =
      { amps := max (-2000) (min 2000 dA), clamped := decide (2000 < dA ∨ dA < -2000) } := rfl

/-- A position's sample does not make its string due (R57). -/
def Undue (s : State) (dA : Eight Int) (p : Pos) : Prop :=
  fitted s p = true → dA.get p < 0 →
    (sampledHistory s dA p).hours < s.cfg.dueDays * 24
      ∧ (sampledHistory s dA p).throughput < s.cfg.dueAh * 36000

/-- No sample makes its string due when none of the eight does. -/
theorem noneDue_iff (s : State) (dA : Eight Int) : NoneDue s dA ↔ ∀ p, Undue s dA p := Iff.rfl

/-- A position's situation after its sample, when the sample does not make it due (R57). -/
def undueSituation (s : State) (dA : Eight Int) (p : Pos) : StringSituation :=
  if s.cfg.fitted.testBit (p.num - 1) = true ∧ dA.get p < 0 then { s.sit.get p with due := false } else s.sit.get p

/-- A state with one position's sample taken, when it does not make the string due (R56, R57). -/
def sampledAt (s : State) (dA : Eight Int) (p : Pos) : State :=
  { s with hist := s.hist.set p (sampledHistory s dA p), sit := s.sit.set p (undueSituation s dA p) }

/-- A fitted position's negative sample is added to the throughput (R56). -/
theorem sampledHistory_of_negative (s : State) (dA : Eight Int) (p : Pos) (hfit : fitted s p = true)
    (hneg : dA.get p < 0) :
    sampledHistory s dA p =
      { s.hist.get p with throughput := min 4294967295 ((s.hist.get p).throughput + min 2000 (dA.get p).natAbs) } :=
  if_pos ⟨hfit, hneg⟩

/-- The sample of one position, when it does not make the string due, changes its history and situation. -/
theorem throughputAdd_of_undue (s : State) (dA : Eight Int) (p : Pos) (hundue : Undue s dA p) :
    throughputAdd s p (currentRec (dA.get p)).amps = sampledAt s dA p := by
  by_cases hadds : fitted s p = true ∧ dA.get p < 0
  · obtain ⟨hfit, hneg⟩ := hadds
    have hclamped : (currentRec (dA.get p)).amps < 0 := by rw [currentRec_eq]; dsimp only; omega
    have hmagnitude : (currentRec (dA.get p)).amps.natAbs = min 2000 (dA.get p).natAbs := by
      rw [currentRec_eq]; dsimp only; omega
    have hadded : throughputAdd s p (currentRec (dA.get p)).amps =
        dueEvaluate { s with hist := s.hist.set p (sampledHistory s dA p) } p := by
      rw [sampledHistory_of_negative s dA p hfit hneg]
      simp [throughputAdd, hfit, hclamped, State.modHist, satAdd, Config.max32, hmagnitude]
    have hnot : isDue { s with hist := s.hist.set p (sampledHistory s dA p) } p = false := by
      obtain ⟨hhours, hthroughput⟩ := hundue hfit hneg
      simpa [isDue] using ⟨hhours, hthroughput⟩
    have hsituation : undueSituation s dA p = { s.sit.get p with due := false } := if_pos ⟨hfit, hneg⟩
    rw [hadded, dueEvaluate_of_not_due _ p hnot, sampledAt, hsituation]
    rfl
  · have hhistory : sampledHistory s dA p = s.hist.get p := if_neg hadds
    have hsituation : undueSituation s dA p = s.sit.get p := if_neg hadds
    rw [sampledAt, hhistory, hsituation, eight_set_get, eight_set_get]
    rcases not_and_or.1 hadds with hfit | hneg
    · simp [throughputAdd, hfit]
    · refine throughputAdd_of_nonneg s p _ ?_
      rw [currentRec_eq]; dsimp only; omega

/-! ### The samples of all positions -/

section
variable (s t : State) (dA : Eight Int) (p : Pos) (hhist : t.hist.get p = s.hist.get p) (hstore : t.store = s.store)
include hhist hstore

/-- A position's history after its sample is a matter of its own history. -/
theorem sampledHistory_congr : sampledHistory t dA p = sampledHistory s dA p := by
  simp only [sampledHistory, State.cfg, hhist, hstore]

/-- Whether a sample makes a string due is a matter of the string's own history. -/
theorem undue_congr : Undue t dA p ↔ Undue s dA p := by
  simp only [Undue, fitted, State.cfg, sampledHistory_congr s t dA p hhist hstore, hstore]

end

/-- A position's situation after its sample is a matter of its own situation. -/
theorem undueSituation_congr (s t : State) (dA : Eight Int) (p : Pos) (hsit : t.sit.get p = s.sit.get p)
    (hstore : t.store = s.store) : undueSituation t dA p = undueSituation s dA p := by
  simp only [undueSituation, State.cfg, hsit, hstore]

/-- A sample leaves the other positions' histories as they are. -/
theorem sampledAt_hist_other (s : State) (dA : Eight Int) (p q : Pos) (h : q ≠ p) :
    (sampledAt s dA p).hist.get q = s.hist.get q := eight_get_set_other _ _ _ _ h

/-- A sample leaves the other positions' situations as they are. -/
theorem sampledAt_sit_other (s : State) (dA : Eight Int) (p q : Pos) (h : q ≠ p) :
    (sampledAt s dA p).sit.get q = s.sit.get q := eight_get_set_other _ _ _ _ h

/-- The samples of a row of positions, when none makes its string due: the histories and situations of those positions
alone change. -/
theorem throughputAdd_over (dA : Eight Int) (l : List Pos) (hl : l.Nodup) (s : State) (hundue : ∀ p ∈ l, Undue s dA p) :
    l.foldl (fun s p => throughputAdd s p (currentRec (dA.get p)).amps) s =
      { s with
        hist := Eight.of fun p => if p ∈ l then sampledHistory s dA p else s.hist.get p
        sit := Eight.of fun p => if p ∈ l then undueSituation s dA p else s.sit.get p } := by
  induction l generalizing s with
  | nil =>
    have hhist : s.hist = Eight.of s.hist.get := eight_ext _ _ fun p => by simp
    have hsit : s.sit = Eight.of s.sit.get := eight_ext _ _ fun p => by simp
    simp [← hhist, ← hsit]
  | cons q l ih =>
    obtain ⟨hq, hl⟩ := List.nodup_cons.1 hl
    have hrest : ∀ p ∈ l, Undue (sampledAt s dA q) dA p := fun p hp =>
      (undue_congr s _ dA p (sampledAt_hist_other s dA q p (ne_of_mem_of_not_mem hp hq)) rfl).2
        (hundue p (List.mem_cons_of_mem q hp))
    rw [List.foldl_cons, throughputAdd_of_undue s dA q (hundue q (by simp)), ih hl _ hrest]
    have hhist : ∀ p, (if p ∈ l then sampledHistory (sampledAt s dA q) dA p else (sampledAt s dA q).hist.get p) =
        if p ∈ q :: l then sampledHistory s dA p else s.hist.get p := by
      intro p
      by_cases hpq : p = q
      · subst hpq; simp [hq, sampledAt]
      · have hother := sampledAt_hist_other s dA q p hpq
        simp [hpq, hother, sampledHistory_congr s _ dA p hother rfl]
    have hsit : ∀ p, (if p ∈ l then undueSituation (sampledAt s dA q) dA p else (sampledAt s dA q).sit.get p) =
        if p ∈ q :: l then undueSituation s dA p else s.sit.get p := by
      intro p
      by_cases hpq : p = q
      · subst hpq; simp [hq, sampledAt]
      · have hother := sampledAt_sit_other s dA q p hpq
        simp [hpq, hother, undueSituation_congr s _ dA p hother rfl]
    simp only [hhist, hsit]
    rfl

/-! ### The second (R55, R92) -/

/-- The eight samples, clamped (R23). -/
def clampedAmps (dA : Eight Int) : Eight Int := Eight.of fun p => (currentRec (dA.get p)).amps

/-- A state with the current records stored (R23). -/
def currentsStored (s : State) (dA : Eight Int) : State :=
  { s with scan := { s.scan with currents := Eight.of fun p => some (currentRec (dA.get p)) } }

/-- The samples are stored, added to the throughput and integrated (R23). -/
theorem sampleCurrents_eq (s : State) (dA : Eight Int) :
    sampleCurrents s dA =
      chargeSample (chargeSample
        (Pos.all.foldl (fun s p => throughputAdd s p (currentRec (dA.get p)).amps) (currentsStored s dA))
        .a (clampedAmps dA)) .b (clampedAmps dA) := by
  simp only [sampleCurrents, eight_get_of]
  rfl

/-- A state with a second passed and its samples stored and added to the throughput, when none makes its string due:
what stands before the channels' charge (R23, R55, R56, R92). -/
def secondSampled (s : State) (dA : Eight Int) : State :=
  { secondPassed s with
    scan := { s.scan with currents := Eight.of fun p => some (currentRec (dA.get p)) }
    hist := Eight.of (sampledHistory s dA)
    sit := Eight.of (sampledSituation s dA)
    chan := ⟨tickChannel s.chan.a, tickChannel s.chan.b⟩ }

/-- The hour second and the sample of a position together (R55, R57). -/
theorem undueSituation_tickSecond (s : State) (dA : Eight Int) (p : Pos) :
    undueSituation (currentsStored (tickSecond s) dA) dA p = sampledSituation s dA p := by
  have hticked : (tickSecond s).sit.get p =
      if fitted s p then { s.sit.get p with hourSec := (s.sit.get p).hourSec + 1 } else s.sit.get p :=
    eight_get_of _ p
  have hsit : undueSituation (currentsStored (tickSecond s) dA) dA p =
      if fitted s p = true ∧ dA.get p < 0 then { (tickSecond s).sit.get p with due := false }
      else (tickSecond s).sit.get p := rfl
  have hsampled : sampledSituation s dA p =
      if fitted s p then
        { s.sit.get p with
          hourSec := (s.sit.get p).hourSec + 1
          due := if dA.get p < 0 then false else (s.sit.get p).due }
      else s.sit.get p := rfl
  rw [hsit, hsampled, hticked]
  by_cases hfit : fitted s p = true
  · by_cases hneg : dA.get p < 0 <;> simp [hfit, hneg]
  · simp [hfit]

/-- A second's samples, when none makes its string due. -/
theorem sampleCurrents_of_noneDue (s : State) (dA : Eight Int) (hundue : NoneDue s dA) :
    sampleCurrents (tickSecond s) dA =
      chargeSample (chargeSample (secondSampled s dA) .a (clampedAmps dA)) .b (clampedAmps dA) := by
  have hall : ∀ p ∈ Pos.all, Undue (currentsStored (tickSecond s) dA) dA p := fun p _ =>
    (undue_congr s _ dA p rfl rfl).2 ((noneDue_iff s dA).1 hundue p)
  have hadded : Pos.all.foldl (fun s p => throughputAdd s p (currentRec (dA.get p)).amps)
      (currentsStored (tickSecond s) dA) = secondSampled s dA := by
    rw [throughputAdd_over dA Pos.all (by decide) _ hall]
    simp only [pos_mem_all, if_true, undueSituation_tickSecond,
      sampledHistory_congr s (currentsStored (tickSecond s) dA) dA _ rfl rfl]
    rfl
  rw [sampleCurrents_eq, hadded]

/-- A channel in neither RAMP nor HOLD integrates no charge (R101). -/
theorem chargeSample_of_not_charging (s : State) (c : Ch) (amps : Eight Int) (hramp : (s.chan.get c).stage ≠ .ramp)
    (hhold : (s.chan.get c).stage ≠ .hold) : chargeSample s c amps = s := by
  unfold chargeSample; dsimp only
  split
  · rfl
  · simp [hramp, hhold]

/-- A channel's second outside HOLD: its stage timer, its age and its waiting call's wait (R92, R112). -/
theorem tickChannel_of_not_hold (ch : Channel) (h : ch.stage ≠ .hold) :
    tickChannel ch =
      { ch with
        ctx := ch.ctx.map fun x => { x with stageTimer := x.stageTimer + 1, ageSec := x.ageSec + 1 }
        call := ch.call.map fun k => if k.serving then k else { k with waitSec := k.waitSec + 1 } } := by
  have hctx : tickContext ch.stage = fun x => { x with stageTimer := x.stageTimer + 1, ageSec := x.ageSec + 1 } := by
    funext x; simp [tickContext, h]
  rw [tickChannel, hctx]
  rfl

/-- The channels after a second, one at a time. -/
theorem secondSampled_chan (s : State) (dA : Eight Int) (c : Ch) :
    (secondSampled s dA).chan.get c = tickChannel (s.chan.get c) := by
  cases c <;> rfl

/-- Settles O15: the second and its samples, and then no charge, as no channel is in RAMP or HOLD. -/
theorem currentSampleStores : Obligations.CurrentSampleStores := by
  intro s dA through hphase hsettled hidle hthrough hdue
  have hhistory : ∀ p : Pos, sampledHistory s dA p =
      if s.cfg.fitted.testBit (p.num - 1) = true ∧ dA.get p < 0 then
        { s.hist.get p with throughput := through p }
      else s.hist.get p := fun p => by rw [hthrough p]; rfl
  have hundue : NoneDue s dA := fun p hfit hneg => by
    rw [hhistory p, if_pos ⟨hfit, hneg⟩]
    exact hdue p hfit hneg
  have hstage : ∀ c, ((secondSampled s dA).chan.get c).stage = (s.chan.get c).stage := fun c => by
    rw [secondSampled_chan]; rfl
  have hcharge : ∀ c, chargeSample (secondSampled s dA) c (clampedAmps dA) = secondSampled s dA := fun c =>
    chargeSample_of_not_charging _ c _ (by rw [hstage]; exact (hidle c).1) (by rw [hstage]; exact (hidle c).2)
  have hexec : exec (.currentSample dA) s = .next (secondSampled s dA) := by
    show execCurrentSample dA s = _
    rw [execCurrentSample, if_pos (running_of_phase s hphase), sampleCurrents_of_noneDue s dA hundue, hcharge, hcharge]
    exact settled_of_settled _ hsettled
  refine ⟨_, hexec, fun p => ?_, fun p => ?_, fun p => ?_, fun c => ?_, rfl, rfl⟩
  · exact (eight_get_of _ p).trans (by rw [currentRec_eq])
  · exact (eight_get_of _ p).trans (hhistory p)
  · exact eight_get_of _ p
  · rw [secondSampled_chan]
    exact tickChannel_of_not_hold _ (hidle c).2

end Sys2Proof.Machine
end

-- ==== Proofs: temperature conversions ====
section
/-! PROOFS. The completions of a pilot's and of the ambient's conversion (O17). -/

namespace Sys2Proof.Machine

open Sys2Proof.Safety

/-! ### A channel's record (R26, R37) -/

/-- What a completed conversion makes of a channel's record: the counts, their class, the temperature and clamp of a
VALID pair and of no other, and the count of conversions. -/
theorem convert_spec (old : TempRec) (nTh nRef : Nat) :
    (convert old nTh nRef).nTh = some nTh ∧ (convert old nTh nRef).nRef = some nRef
      ∧ (convert old nTh nRef).state =
          (if nRef < 20000 ∨ 80000 < nRef then .opened
           else if nTh < 800 then .opened
           else if 120000 < nTh then .shorted
           else .valid)
      ∧ ((convert old nTh nRef).state = .valid →
          (convert old nTh nRef).temp = some (temperatureOf ((nRef * 1024 + nTh / 2) / nTh)).1
          ∧ (convert old nTh nRef).clamp = (temperatureOf ((nRef * 1024 + nTh / 2) / nTh)).2)
      ∧ ((convert old nTh nRef).state ≠ .valid →
          (convert old nTh nRef).temp = none ∧ (convert old nTh nRef).clamp = .none)
      ∧ (convert old nTh nRef).convNo = (old.convNo + 1) % 256 :=
  ⟨rfl, rfl, rfl, fun hvalid => ⟨if_pos hvalid, if_pos hvalid⟩, fun hother => ⟨if_neg hother, if_neg hother⟩, rfl⟩

/-! ### Compensation records (R40, R43) -/

/-- A string's compensation record is a matter of the temperatures and the settings. -/
theorem compRecord_congr (s t : State) (p : Pos) (hpilots : t.temps.pilots = s.temps.pilots)
    (hambient : t.temps.ambient = s.temps.ambient) (hstore : t.store = s.store) : compRecord t p = compRecord s p := by
  simp only [compRecord, chooseTemp, clampTc10, State.cfg, hpilots, hambient, hstore]

/-- A state with one string's compensation record recomputed (R43). -/
def compensated (s : State) (p : Pos) : State := { s with comp := s.comp.set p (compRecord s p) }

/-- A recomputation that no channel takes writes the record alone. -/
theorem recomputeComp_of_free (s : State) (p : Pos) (h : holder s p = none) : recomputeComp s p = compensated s p := by
  have hfree : holder (compensated s p) p = none := (holder_of_chan s _ p rfl).trans h
  unfold recomputeComp; dsimp only
  split
  next c hc => exact absurd (hc.symm.trans hfree) (by simp)
  next => rfl

/-- A recomputed record leaves the other strings' as they are. -/
theorem compensated_comp_other (s : State) (p q : Pos) (h : q ≠ p) : (compensated s p).comp.get q = s.comp.get q :=
  eight_get_set_other _ _ _ _ h

/-- Whether TA concerns a position is a matter of its own record and the temperatures (R43). -/
theorem ambientConcerns_congr (s t : State) (p : Pos) (htemps : t.temps = s.temps)
    (hcomp : t.comp.get p = s.comp.get p) : ambientConcerns t p = ambientConcerns s p := by
  simp only [ambientConcerns, chooseTemp, htemps, hcomp]

/-- A string's compensation record after TA's completion (R43). -/
def ambientComp (s : State) (p : Pos) : CompRec := if ambientConcerns s p then compRecord s p else s.comp.get p

/-- It is a matter of the string's own record, the temperatures and the settings. -/
theorem ambientComp_congr (s t : State) (p : Pos) (htemps : t.temps = s.temps) (hstore : t.store = s.store)
    (hcomp : t.comp.get p = s.comp.get p) : ambientComp t p = ambientComp s p := by
  have hrecord := compRecord_congr s t p (by rw [htemps]) (by rw [htemps]) hstore
  simp only [ambientComp, ambientConcerns_congr s t p htemps hcomp, hrecord, hcomp]

/-- A state with TA's completion taken for one position. -/
def ambientTaken (s : State) (p : Pos) : State := { s with comp := s.comp.set p (ambientComp s p) }

/-- With both channels IDLE a position takes TA's completion by its record alone. -/
theorem recomputeComp_of_ambient (s : State) (p : Pos) (hidle : ChannelsIdle s) :
    (if ambientConcerns s p then recomputeComp s p else s) = ambientTaken s p := by
  unfold ambientTaken ambientComp
  split
  · exact recomputeComp_of_free s p (holder_of_idle s p hidle)
  · rw [eight_set_get]

/-- TA's completion over a row of positions, with both channels IDLE: those positions' compensation records alone
change. -/
theorem recomputeComp_over (l : List Pos) (hl : l.Nodup) (s : State) (hidle : ChannelsIdle s) :
    l.foldl (fun s p => if ambientConcerns s p then recomputeComp s p else s) s =
      { s with comp := Eight.of fun p => if p ∈ l then ambientComp s p else s.comp.get p } := by
  induction l generalizing s with
  | nil =>
    have hcomp : s.comp = Eight.of s.comp.get := eight_ext _ _ fun p => by simp
    simp [← hcomp]
  | cons q l ih =>
    obtain ⟨hq, hl⟩ := List.nodup_cons.1 hl
    rw [List.foldl_cons, recomputeComp_of_ambient s q hidle, ih hl (ambientTaken s q) hidle]
    have hcomp : ∀ p, (if p ∈ l then ambientComp (ambientTaken s q) p else (ambientTaken s q).comp.get p) =
        if p ∈ q :: l then ambientComp s p else s.comp.get p := by
      intro p
      by_cases hpq : p = q
      · subst hpq; simp [hq, ambientTaken]
      · have hother : (ambientTaken s q).comp.get p = s.comp.get p := eight_get_set_other _ _ _ _ hpq
        simp [hpq, hother, ambientComp_congr s (ambientTaken s q) p rfl rfl hother]
    simp only [hcomp]
    rfl

/-- A position without a VALID pilot is concerned by TA. -/
theorem ambientComp_of_not_valid (s : State) (p : Pos) (h : (s.temps.pilots.get p).state ≠ .valid) :
    ambientComp s p = compRecord s p := by
  refine if_pos ?_
  have hreading : (s.temps.pilots.get p).reading = none := if_neg h
  have hsource : (chooseTemp s p).2 ≠ .pilot := by
    unfold chooseTemp; rw [hreading]; dsimp only; split <;> simp
  simp [ambientConcerns, hsource]

/-- A position whose record came from TA is concerned by TA. -/
theorem ambientComp_of_source (s : State) (p : Pos) (h : (s.comp.get p).source = .ambient) :
    ambientComp s p = compRecord s p := by
  refine if_pos ?_
  simp [ambientConcerns, h]

/-- A position with a VALID pilot's temperature, whose record did not come from TA, is left as it is. -/
theorem ambientComp_of_pilot (s : State) (p : Pos) (h : (s.temps.pilots.get p).state = .valid)
    (htemp : (s.temps.pilots.get p).temp.isSome = true) (hsource : (s.comp.get p).source ≠ .ambient) :
    ambientComp s p = s.comp.get p := by
  obtain ⟨v, hv⟩ := Option.isSome_iff_exists.1 htemp
  have hreading : (s.temps.pilots.get p).reading = some v := by simp [TempRec.reading, h, hv]
  have hpilot : (chooseTemp s p).2 = .pilot := by simp [chooseTemp, hreading]
  simp [ambientComp, ambientConcerns, hpilot, hsource]

/-! ### The float rectifier demand (R48) -/

/-- The float rectifier demand's code is a matter of the temperatures read, the on-bus flags and the settings. -/
theorem floatCode_congr (s t : State) (hpilots : t.temps.pilots = s.temps.pilots)
    (hambient : t.temps.ambient = s.temps.ambient) (hsit : t.sit = s.sit) (hstore : t.store = s.store) :
    floatCode t = floatCode s := by
  simp only [floatCode, clampTc10, plantTemp, hottestOnBus, State.cfg, hpilots, hambient, hsit, hstore]

/-- The demand after its computation: kept when it was computed before and differs by less than 2 from the new code,
which it takes otherwise. -/
def nextFloat (s : State) : Nat :=
  if s.out.floatComputed = true ∧ floatCode s < s.out.floatDemand + 2 ∧ s.out.floatDemand < floatCode s + 2 then
    s.out.floatDemand
  else floatCode s

/-- The computation of the demand. -/
theorem computeFloat_eq (s : State) :
    computeFloat s = { s with out := { s.out with floatDemand := nextFloat s, floatComputed := true } } := by
  unfold computeFloat nextFloat writeFloat; dsimp only
  split
  next hcomputed =>
    split
    next hfar =>
      rw [if_neg (by omega)]
    next hnear =>
      rw [if_pos ⟨hcomputed, by omega, by omega⟩, ← hcomputed]
  next hfirst => rw [if_neg (fun h => hfirst h.1)]

/-! ### The completions (R25, R27, R28) -/

/-- An evaluation that a settled state without a candidate is asked for changes nothing. -/
theorem settle_wantAdmission (s : State) (hsettled : Settled s) (hnone : NoCandidates s) :
    settle s.wantAdmission = s := by
  have hdue : s.due = { reserve := false, admission := false } := hsettled
  have hreserve : s.wantAdmission.due.reserve = false := by simp [State.wantAdmission, hdue]
  rw [settle_of_no_candidates s.wantAdmission hreserve hnone, ← hdue]
  rfl

/-- A state with a pilot's completed conversion stored (R26). -/
def pilotStored (s : State) (p : Pos) (nTh nRef : Nat) : State :=
  { s with temps :=
      { s.temps with pilots := s.temps.pilots.set p (convert (s.temps.pilots.get p) nTh nRef) } }

/-- A string that no channel holds: no channel takes its pilot's conversion. -/
theorem channelPilot_of_free (s : State) (p : Pos) (h : holder s p = none) : channelPilot s p = s := by
  simp [channelPilot, h]

/-- The state after a pilot's completion, of a string that no channel holds, before the evaluation it asks for: the
records of the conversion, of the compensation and of the SENSE fault (R27). -/
def pilotDone (s : State) (p : Pos) (nTh nRef : Nat) : State :=
  recomputeSense (compensated (pilotStored s p nTh nRef) p) p

/-- Such a completion changes the temperatures, the compensation records, the situations and the latches. -/
theorem pilotDone_frame (s : State) (p : Pos) (nTh nRef : Nat) :
    { s with
      temps := (pilotStored s p nTh nRef).temps
      comp := (compensated (pilotStored s p nTh nRef) p).comp
      sit := (pilotDone s p nTh nRef).sit, latches := (pilotDone s p nTh nRef).latches } = pilotDone s p nTh nRef :=
  recomputeSense_frame (compensated (pilotStored s p nTh nRef) p) p

/-- The temperatures after it. -/
theorem pilotDone_temps (s : State) (p : Pos) (nTh nRef : Nat) :
    (pilotDone s p nTh nRef).temps = (pilotStored s p nTh nRef).temps := by
  rw [← pilotDone_frame]

/-- The compensation records after it. -/
theorem pilotDone_comp (s : State) (p : Pos) (nTh nRef : Nat) :
    (pilotDone s p nTh nRef).comp = (compensated (pilotStored s p nTh nRef) p).comp := by
  rw [← pilotDone_frame]

/-- The completion of the pilot of a string that no channel holds asks for an evaluation besides (R27). -/
theorem completePilot_of_free (s : State) (p : Pos) (nTh nRef : Nat) (h : holder s p = none) :
    completePilot s p nTh nRef = (pilotDone s p nTh nRef).wantAdmission := by
  have hstored : holder (pilotStored s p nTh nRef) p = none := (holder_of_chan s _ p rfl).trans h
  have hdone : holder (pilotDone s p nTh nRef) p = none :=
    (holder_of_chan s _ p (by rw [← pilotDone_frame])).trans h
  have hcomplete : completePilot s p nTh nRef =
      (channelPilot (recomputeSense (recomputeComp (pilotStored s p nTh nRef) p) p) p).wantAdmission := rfl
  rw [hcomplete, recomputeComp_of_free _ p hstored]
  exact congrArg State.wantAdmission (channelPilot_of_free _ p hdone)

/-- A state with the ambient's completed conversion stored (R26). -/
def ambientStored (s : State) (nTh nRef : Nat) : State :=
  { s with temps := { s.temps with ambient := convert s.temps.ambient nTh nRef } }

/-- A state with the end of a conversion cycle marked (R28). -/
def cycleDone (s : State) : State := { s with temps := { s.temps with cycleEnded := true } }

/-- TA's completion: its record, the compensation records, the float rectifier demand, and the end of the cycle (R27,
R28, R43, R48). -/
theorem completeAmbient_eq (s : State) (nTh nRef : Nat) :
    completeAmbient s nTh nRef =
      cycleDone (computeFloat (Pos.all.foldl (fun s p => if ambientConcerns s p then recomputeComp s p else s)
        (ambientStored s nTh nRef))) := by
  simp only [completeAmbient, cycleDone, ambientStored]

/-- The state after TA's completion with both channels IDLE. -/
def ambientDone (s : State) (nTh nRef : Nat) : State :=
  { s with
    temps := { s.temps with ambient := convert s.temps.ambient nTh nRef, cycleEnded := true }
    comp := Eight.of (ambientComp (ambientStored s nTh nRef))
    out := { s.out with floatDemand := nextFloat (ambientStored s nTh nRef), floatComputed := true } }

/-- TA's completion with both channels IDLE. -/
theorem completeAmbient_of_idle (s : State) (nTh nRef : Nat) (hidle : ChannelsIdle s) :
    completeAmbient s nTh nRef = ambientDone s nTh nRef := by
  have hfloat : ∀ comp,
      nextFloat { ambientStored s nTh nRef with comp := comp } = nextFloat (ambientStored s nTh nRef) := fun comp => by
    simp only [nextFloat, floatCode_congr (ambientStored s nTh nRef) { ambientStored s nTh nRef with comp := comp }
      rfl rfl rfl rfl]
  rw [completeAmbient_eq, recomputeComp_over Pos.all (by decide) (ambientStored s nTh nRef) hidle, computeFloat_eq,
    hfloat]
  simp only [pos_mem_all, if_true]
  rfl

section
variable (s : State) (nTh nRef : Nat) (p : Pos)

/-- A compensation record after TA's completion. -/
theorem ambientDone_comp : (ambientDone s nTh nRef).comp.get p = ambientComp (ambientStored s nTh nRef) p :=
  eight_get_of _ p

/-- The rest of the completion leaves the temperatures that a compensation record is made of as TA's record left
them. -/
theorem compRecord_ambientDone :
    compRecord (ambientDone s nTh nRef) p = compRecord (ambientStored s nTh nRef) p :=
  compRecord_congr (ambientStored s nTh nRef) (ambientDone s nTh nRef) p rfl rfl rfl

/-- Likewise those that the float rectifier demand is made of. -/
theorem floatCode_ambientDone : floatCode (ambientDone s nTh nRef) = floatCode (ambientStored s nTh nRef) :=
  floatCode_congr (ambientStored s nTh nRef) (ambientDone s nTh nRef) rfl rfl rfl rfl

end

/-- The command completes the conversion of the channel that is next, with the counters stopped (R25). -/
theorem execConversionCompletion_of_pilot (s : State) (p : Pos) (gateTh gateRef : Nat) (hphase : s.phase ≠ .held)
    (hnext : s.temps.next = .pilot p) :
    execConversionCompletion gateTh gateRef s =
      settled (completePilot (conversionTick s) p (min gateTh 1048575) (min gateRef 1048575)) := by
  simp only [execConversionCompletion, running_of_phase s hphase, if_true, hnext, Config.gateStop]

/-- Likewise for TA. -/
theorem execConversionCompletion_of_ambient (s : State) (gateTh gateRef : Nat) (hphase : s.phase ≠ .held)
    (hnext : s.temps.next = .ambient) :
    execConversionCompletion gateTh gateRef s =
      settled (completeAmbient (conversionTick s) (min gateTh 1048575) (min gateRef 1048575)) := by
  simp only [execConversionCompletion, running_of_phase s hphase, if_true, hnext, Config.gateStop]

/-- The timer base after a pilot's completion: the next conversion completes 400 ms on (R25). -/
theorem conversionTick_of_pilot (s : State) (p : Pos) (h : s.temps.next = .pilot p) :
    conversionTick s =
      { s with
        base := { s.base with ms := max s.base.ms s.base.convAt, convAt := s.base.convAt + 400 }
        temps := { s.temps with next := (TempCh.pilot p).after } } := by
  simp [conversionTick, atLeastMs, h]

/-- The timer base after TA's completion: the next cycle's first conversion completes 800 ms on (R25). -/
theorem conversionTick_of_ambient (s : State) (h : s.temps.next = .ambient) :
    conversionTick s =
      { s with
        base := { s.base with ms := max s.base.ms s.base.convAt, convAt := s.base.convAt + 800 }
        temps := { s.temps with next := .pilot .p1 } } := by
  simp [conversionTick, atLeastMs, h, TempCh.after]

/-- A pilot's completion with no channel holding the string and no candidate (R25, R26, R27, R43, R59). -/
theorem conversion_of_pilot (s : State) (p : Pos) (gateTh gateRef nTh nRef : Nat) (hphase : s.phase ≠ .held)
    (hsettled : Settled s) (hnext : s.temps.next = .pilot p) (hfree : holder s p = none) (hnone : NoCandidates s)
    (hTh : nTh = min gateTh 1048575) (hRef : nRef = min gateRef 1048575) :
    exec (.conversionCompletion gateTh gateRef) s = .next (pilotDone (conversionTick s) p nTh nRef) := by
  have hframe := pilotDone_frame (conversionTick s) p nTh nRef
  show execConversionCompletion gateTh gateRef s = _
  rw [execConversionCompletion_of_pilot s p gateTh gateRef hphase hnext, ← hTh, ← hRef,
    completePilot_of_free _ p nTh nRef ((holder_of_chan s (conversionTick s) p rfl).trans hfree), settled,
    settle_wantAdmission _ (by rw [← hframe]; exact hsettled) (by rw [← hframe]; exact hnone)]

/-- TA's completion with both channels IDLE (R25, R26, R27, R28, R43, R48). -/
theorem conversion_of_ambient (s : State) (gateTh gateRef nTh nRef : Nat) (hphase : s.phase ≠ .held)
    (hsettled : Settled s) (hnext : s.temps.next = .ambient) (hidle : ChannelsIdle s)
    (hTh : nTh = min gateTh 1048575) (hRef : nRef = min gateRef 1048575) :
    exec (.conversionCompletion gateTh gateRef) s = .next (ambientDone (conversionTick s) nTh nRef) := by
  show execConversionCompletion gateTh gateRef s = _
  rw [execConversionCompletion_of_ambient s gateTh gateRef hphase hnext, ← hTh, ← hRef,
    completeAmbient_of_idle (conversionTick s) nTh nRef hidle]
  exact settled_of_settled _ hsettled

/-- Settles O17: what is read of the state after a pilot's completion, and of the one after TA's. -/
theorem conversionIsStored : Obligations.ConversionIsStored := by
  refine ⟨fun s p gateTh gateRef nTh nRef hphase hsettled hnext hfree hnone hTh hRef => ?_,
    fun s gateTh gateRef nTh nRef hphase hsettled hnext hidle hTh hRef => ?_⟩
  · refine ⟨_, conversion_of_pilot s p gateTh gateRef nTh nRef hphase hsettled hnext hfree hnone hTh hRef, ?_⟩
    have hframe := pilotDone_frame (conversionTick s) p nTh nRef
    rw [conversionTick_of_pilot s p hnext] at hframe ⊢
    rw [pilotDone_temps, pilotDone_comp]
    have hrecord := convert_spec (s.temps.pilots.get p) nTh nRef
    rw [← eight_get_set_same s.temps.pilots p (convert (s.temps.pilots.get p) nTh nRef)] at hrecord
    obtain ⟨hnTh, hnRef, hstate, hvalid, hother, hcount⟩ := hrecord
    exact ⟨hnTh, hnRef, hstate, hvalid, hother, hcount,
      fun q hq => ⟨eight_get_set_other _ _ _ _ hq, eight_get_set_other _ _ _ _ hq, recomputeSense_sit_other _ p q hq⟩,
      rfl, rfl, recomputeSense_latches_other _ p, hframe⟩
  · refine ⟨_, conversion_of_ambient s gateTh gateRef nTh nRef hphase hsettled hnext hidle hTh hRef, ?_⟩
    rw [conversionTick_of_ambient s hnext]
    obtain ⟨hnTh, hnRef, hstate, hvalid, hother, hcount⟩ := convert_spec s.temps.ambient nTh nRef
    refine ⟨hnTh, hnRef, hstate, hvalid, hother, hcount, rfl, rfl, rfl, fun p hp => ?_, fun p hp => ?_,
      fun p hp htemp hsource => ?_, ?_, rfl⟩
    · rw [ambientDone_comp, compRecord_ambientDone]; exact ambientComp_of_not_valid _ p hp
    · rw [ambientDone_comp, compRecord_ambientDone]; exact ambientComp_of_source _ p hp
    · rw [ambientDone_comp]; exact ambientComp_of_pilot _ p hp htemp hsource
    · rw [floatCode_ambientDone]; rfl

end Sys2Proof.Machine
end

-- ==== Proofs: the chargers' laws and the operations beside them ====
section
/-! PROOFS. What the laws of the chargers (`DemandShown`, `ChargerOff`) look at of a state, and the operations that
leave it alone. The two laws are stated once for both uses: `Charged True False` is the demand's (R47), `Charged False
True` the enable's (R91, R114). -/

namespace Sys2Proof.Machine

open Sys2Proof.Safety

/-! ### What the laws look at -/

/-- What the laws of the chargers look at of a channel: its stage, its charger's enable and demand, and its present
code. -/
structure ChargerView where
  stage : Stage
  enable : Bool
  demand : Nat
  code : Nat

/-- The chargers of a state, by channel. -/
def State.chargers (s : State) (c : Ch) : ChargerView :=
  { stage := (s.chan.get c).stage
    enable := (s.out.charger.get c).enable
    demand := (s.out.charger.get c).demand
    code := (s.present.get c).code }

/-- The law of the demand outputs where `d` holds, that of the enables where `e` does. -/
structure ChargerLaws (d e : Prop) (v : Ch → ChargerView) : Prop where
  shown : d → ∀ c, (v c).demand = (v c).code
  off : e → ∀ c, (v c).stage = .idle ∨ (v c).stage = .transferBack → (v c).enable = false

/-- The laws hold of a state. -/
abbrev Charged (d e : Prop) (s : State) : Prop := ChargerLaws d e s.chargers

/-- The demand's law alone. -/
theorem demandShown_iff (s : State) : DemandShown s ↔ Charged True False s :=
  ⟨fun h => ⟨fun _ => h, False.elim⟩, fun h => h.shown trivial⟩

/-- The enable's law alone. -/
theorem chargerOff_iff (s : State) : ChargerOff s ↔ Charged False True s :=
  ⟨fun h => ⟨False.elim, fun _ => h⟩, fun h => h.off trivial⟩

/-- One channel's part replaced by one that fits the laws. -/
theorem ChargerLaws.update {d e : Prop} {v : Ch → ChargerView} (h : ChargerLaws d e v) (c : Ch) (w : ChargerView)
    (hshown : d → w.demand = w.code) (hoff : e → w.stage = .idle ∨ w.stage = .transferBack → w.enable = false) :
    ChargerLaws d e (Function.update v c w) := by
  refine ⟨fun hd k => ?_, fun he k => ?_⟩
  · by_cases hk : k = c
    · subst hk; simpa using hshown hd
    · simpa [hk] using h.shown hd k
  · by_cases hk : k = c
    · subst hk; simpa using hoff he
    · simpa [hk] using h.off he k

/-- A channel's part after that of a channel was replaced by a function of it. -/
theorem chargers_eq_update {s t : State} (c : Ch) {w : ChargerView} (hsame : t.chargers c = w)
    (hother : ∀ k, k ≠ c → t.chargers k = s.chargers k) : t.chargers = Function.update s.chargers c w := by
  funext k
  by_cases hk : k = c
  · subst hk; simpa using hsame
  · simpa [hk] using hother k hk

/-! ### Operations that leave the chargers alone -/

section
variable (s : State)

/-! #### Updates of one unit -/

@[simp] theorem chargers_modSit (p : Pos) (f : StringSituation → StringSituation) :
    (s.modSit p f).chargers = s.chargers := rfl
@[simp] theorem chargers_modHist (p : Pos) (f : StringHistory → StringHistory) :
    (s.modHist p f).chargers = s.chargers := rfl
@[simp] theorem chargers_modPerm (f : Permissions → Permissions) : (s.modPerm f).chargers = s.chargers := rfl
@[simp] theorem chargers_modLine (f : Line → Line) : (s.modLine f).chargers = s.chargers := rfl
@[simp] theorem chargers_wantReserve : s.wantReserve.chargers = s.chargers := rfl
@[simp] theorem chargers_wantAdmission : s.wantAdmission.chargers = s.chargers := rfl
@[simp] theorem chargers_event (c : Condition) (n v : Nat) (l : Option Level) :
    (s.event c n v l).chargers = s.chargers := rfl
@[simp] theorem chargers_atLeastMs (t : Nat) : (atLeastMs s t).chargers = s.chargers := rfl

/-- A change of a channel that keeps its stage. -/
@[simp] theorem chargers_modChan (c : Ch) (f : Channel → Channel) (h : ∀ ch, (f ch).stage = ch.stage) :
    (s.modChan c f).chargers = s.chargers := by
  funext k
  by_cases hk : k = c
  · subst hk; simp [State.chargers, h]
  · simp [State.chargers, hk]

@[simp] theorem chargers_modCtx (c : Ch) (f : Context → Context) : (s.modCtx c f).chargers = s.chargers :=
  chargers_modChan s c _ fun _ => rfl
@[simp] theorem chargers_modCall (c : Ch) (f : Call → Call) : (s.modCall c f).chargers = s.chargers :=
  chargers_modChan s c _ fun _ => rfl
@[simp] theorem chargers_stopWait (c : Ch) : (stopWait s c).chargers = s.chargers :=
  chargers_modChan s c _ fun _ => rfl
@[simp] theorem chargers_startWait (c : Ch) (k : Contactor) : (startWait s c k).chargers = s.chargers :=
  chargers_modChan s c _ fun _ => rfl
@[simp] theorem chargers_withdrawCall (c : Ch) : (withdrawCall s c).chargers = s.chargers := by simp [withdrawCall]

/-- A change made item by item that leaves the chargers alone. -/
theorem chargers_foldl {α : Type} (f : State → α → State) (h : ∀ t a, (f t a).chargers = t.chargers) (l : List α) :
    (l.foldl f s).chargers = s.chargers := by
  induction l generalizing s with
  | nil => rfl
  | cons a l ih => rw [List.foldl_cons, ih, h]

/-! #### Outputs and Site Permissions -/

@[simp] theorem chargers_recomputeOnBus (p : Pos) : (recomputeOnBus s p).chargers = s.chargers := by
  rw [← recomputeOnBus_frame]; rfl
@[simp] theorem chargers_commandKf (p : Pos) (k : Contact) : (commandKf s p k).chargers = s.chargers := by
  rw [← commandKf_frame]; rfl
@[simp] theorem chargers_commandKe (p : Pos) (k : Contact) : (commandKe s p k).chargers = s.chargers := rfl
@[simp] theorem chargers_commandKs (p : Pos) (k : Ch) : (commandKs s p k).chargers = s.chargers := rfl
@[simp] theorem chargers_setPump (on : Bool) : (setPump s on).chargers = s.chargers := rfl
@[simp] theorem chargers_setValve (p : Pos) (k : Contact) : (setValve s p k).chargers = s.chargers := rfl

/-- A charger's limit is no matter of the laws (R46). -/
@[simp] theorem chargers_setLimit (c : Ch) (n : Nat) : (setLimit s c n).chargers = s.chargers := by
  funext k
  by_cases hk : k = c
  · subst hk; simp [State.chargers, setLimit]
  · simp [State.chargers, setLimit, hk]

@[simp] theorem chargers_limitChanged : (limitChanged s).chargers = s.chargers :=
  chargers_foldl s _ (fun t c => by split <;> simp) _

@[simp] theorem chargers_ventMonitor : (ventMonitor s).chargers = s.chargers := by rw [← ventMonitor_frame]; rfl

/-- The chargers are a matter of the channels, the charger outputs and the present records. -/
theorem chargers_congr {s t : State} (hchan : t.chan = s.chan) (hcharger : t.out.charger = s.out.charger)
    (hpresent : t.present = s.present) : t.chargers = s.chargers := by
  funext c
  simp only [State.chargers, hchan, hcharger, hpresent]

@[simp] theorem chargers_recomputeFan : (recomputeFan s).chargers = s.chargers :=
  chargers_congr (by rw [← recomputeFan_frame]) (congrArg Outputs.charger (recomputeFan_outputs s) :)
    (by rw [← recomputeFan_frame])

@[simp] theorem chargers_stageDelivered (st : Stage) : (stageDelivered s st).chargers = s.chargers :=
  chargers_congr (by rw [← stageDelivered_frame]) (congrArg Outputs.charger (stageDelivered_outputs s st) :)
    (by rw [← stageDelivered_frame])

@[simp] theorem chargers_speedDelivered (n : Nat) : (speedDelivered s n).chargers = s.chargers := by
  simp [speedDelivered]
@[simp] theorem chargers_purgeStart : (purgeStart s).chargers = s.chargers := by simp [purgeStart]
@[simp] theorem chargers_ventRecovers : (ventRecovers s).chargers = s.chargers := by simp [ventRecovers]
@[simp] theorem chargers_surplusBack : (surplusBack s).chargers = s.chargers := rfl

/-! #### Strings, records, lists, readings -/

@[simp] theorem chargers_writeRecord (r : Record) : (writeRecord s r).chargers = s.chargers := rfl
@[simp] theorem chargers_placeEntry (e : Entry) : (placeEntry s e).chargers = s.chargers := rfl
@[simp] theorem chargers_removeEntries (p : Pos) : (removeEntries s p).chargers = s.chargers := rfl
@[simp] theorem chargers_removeHeld (h : Held) : (removeHeld s h).chargers = s.chargers := rfl
@[simp] theorem chargers_markRoundOpen (p : Pos) (k : Kind) : (markRoundOpen s p k).chargers = s.chargers := rfl
@[simp] theorem chargers_setEqLock (p : Pos) (r : EqLockReason) : (setEqLock s p r).chargers = s.chargers := rfl
@[simp] theorem chargers_setWaterLock (p : Pos) : (setWaterLock s p).chargers = s.chargers := rfl
@[simp] theorem chargers_historyUpdate (p : Pos) : (historyUpdate s p).chargers = s.chargers := rfl
@[simp] theorem chargers_enterIsolated (p : Pos) (r : Isolation) : (enterIsolated s p r).chargers = s.chargers := rfl
@[simp] theorem chargers_leaveIsolated (p : Pos) : (leaveIsolated s p).chargers = s.chargers := rfl

@[simp] theorem chargers_offer (p : Pos) (k : Kind) (o : Origin) (tag : Byte) :
    (offer s p k o tag).1.chargers = s.chargers := by
  rw [← offer_frame]; rfl

@[simp] theorem chargers_weakOffer (p : Pos) (cell deficit : Nat) :
    (weakOffer s p cell deficit).1.chargers = s.chargers := by
  rw [← weakOffer_frame]; rfl

@[simp] theorem chargers_recomputeSense (p : Pos) : (recomputeSense s p).chargers = s.chargers := by
  rw [← recomputeSense_frame]; rfl

@[simp] theorem chargers_kfStuckTest (p : Pos) : (kfStuckTest s p).chargers = s.chargers := by
  unfold kfStuckTest; split <;> rfl

@[simp] theorem chargers_stringKf (p : Pos) : (stringKf s p).chargers = s.chargers := by simp [stringKf]

@[simp] theorem chargers_stringKe (p : Pos) : (stringKe s p).chargers = s.chargers := by
  unfold stringKe; split <;> simp

@[simp] theorem chargers_dueRise (p : Pos) : (dueRise s p).chargers = s.chargers := by
  unfold dueRise; dsimp only
  split <;> simp

@[simp] theorem chargers_dueEvaluate (p : Pos) : (dueEvaluate s p).chargers = s.chargers := by
  unfold dueEvaluate
  split
  · split <;> simp
  · simp

@[simp] theorem chargers_dueEvaluateAll : (dueEvaluateAll s).chargers = s.chargers :=
  chargers_foldl s _ (fun t p => by split <;> simp) _

@[simp] theorem chargers_hourRollover (p : Pos) : (hourRollover s p).chargers = s.chargers := by simp [hourRollover]

@[simp] theorem chargers_throughputAdd (p : Pos) (v : Int) : (throughputAdd s p v).chargers = s.chargers := by
  unfold throughputAdd; split <;> simp

@[simp] theorem chargers_levelDelivered (p : Pos) (k : DeliveryKind) :
    (levelDelivered s p k).chargers = s.chargers := by
  unfold levelDelivered; dsimp only
  split
  · split
    · split <;> simp
    · simp
    · rfl
  · rfl

@[simp] theorem chargers_removePosition (p : Pos) : (removePosition s p).chargers = s.chargers := by
  unfold removePosition; dsimp only
  rw [chargers_modSit, chargers_recomputeOnBus]; rfl

@[simp] theorem chargers_addPosition (p : Pos) : (addPosition s p).chargers = s.chargers := by simp [addPosition]

@[simp] theorem chargers_changeFitted (n : Nat) : (changeFitted s n).chargers = s.chargers := by
  unfold changeFitted; dsimp only
  rw [chargers_foldl _ _ (fun t p => by split <;> simp), chargers_foldl _ _ (fun t p => by split <;> simp)]
  rfl

@[simp] theorem chargers_screenCell (c : Ch) (p : Pos) (mean cell mv : Nat) :
    (screenCell s c p mean cell mv).chargers = s.chargers := by
  unfold screenCell; dsimp only
  split
  · split <;> simp
  · rfl

@[simp] theorem chargers_screenFrom (c : Ch) (p : Pos) (mean n : Nat) (l : List CellEntry) :
    (screenFrom c p mean n l s).chargers = s.chargers := by
  induction l generalizing n s with
  | nil => rfl
  | cons e l ih => rw [screenFrom, ih, chargers_screenCell]

@[simp] theorem chargers_screenCells (c : Ch) (p : Pos) : (screenCells s c p).chargers = s.chargers := by
  unfold screenCells; split <;> simp

@[simp] theorem chargers_keepFinalCell (c : Ch) : (keepFinalCell s c).chargers = s.chargers := by
  unfold keepFinalCell; split <;> simp

@[simp] theorem chargers_computeFloat : (computeFloat s).chargers = s.chargers := by rw [computeFloat_eq]; rfl

@[simp] theorem chargers_endHeld (h : Held) (o : Outcome) : (endHeld s h o).chargers = s.chargers := by simp [endHeld]
@[simp] theorem chargers_expireHeld (h : Held) (why : Expiry) : (expireHeld s h why).chargers = s.chargers := by
  simp [expireHeld]

@[simp] theorem chargers_interruptHeld : (interruptHeld s).chargers = s.chargers :=
  chargers_foldl s _ (fun t h => chargers_endHeld t h _) _

@[simp] theorem chargers_suspendMaxLowered : (suspendMaxLowered s).chargers = s.chargers :=
  chargers_foldl s _ (fun t h => by split <;> simp) _

@[simp] theorem chargers_heldMinute (h : Held) : (heldMinute s h).chargers = s.chargers := by
  unfold heldMinute; dsimp only
  split
  · rw [chargers_expireHeld]; rfl
  · rfl

/-- A second changes no stage, no output and no present record (R92). -/
@[simp] theorem chargers_tickSecond : (tickSecond s).chargers = s.chargers := by
  funext c; cases c <;> rfl

/-! #### The line and the account -/

@[simp] theorem chargers_enterDosing : (enterDosing s).chargers = s.chargers := by
  unfold enterDosing countDose; split <;> rfl

@[simp] theorem chargers_enterPause : (enterPause s).chargers = s.chargers := rfl

@[simp] theorem chargers_closeLine (o : Outcome) : (closeLine s o).chargers = s.chargers := by
  unfold closeLine; dsimp only
  split <;> rfl

@[simp] theorem chargers_endReservoirEmpty : (endReservoirEmpty s).chargers = s.chargers := by
  simp [endReservoirEmpty]

@[simp] theorem chargers_lineStop : (lineStop s).chargers = s.chargers := by unfold lineStop; split <;> simp
@[simp] theorem chargers_lineHalt : (lineHalt s).chargers = s.chargers := by unfold lineHalt; split <;> simp
@[simp] theorem chargers_lineResLow : (lineResLow s).chargers = s.chargers := by unfold lineResLow; split <;> simp

@[simp] theorem chargers_lineTake (o : Owner) (p : Pos) (i : Option RoundIdentity) (d : Option ManualDose) :
    (lineTake s o p i d).chargers = s.chargers := by
  unfold lineTake; dsimp only
  split <;> simp

@[simp] theorem chargers_lineTakeCall (c : Ch) : (lineTakeCall s c).chargers = s.chargers := by
  unfold lineTakeCall; split <;> simp

@[simp] theorem chargers_lineNext : (lineNext s).chargers = s.chargers := by
  unfold lineNext; dsimp only
  split <;> simp

@[simp] theorem chargers_askStop (c : Ch) : (askStop s c).chargers = s.chargers := by
  unfold askStop; split <;> simp

@[simp] theorem chargers_reservoirTest : (reservoirTest s).chargers = s.chargers := by
  rw [← reservoirTest_frame]; rfl

@[simp] theorem chargers_setAccount (n : Nat) : (setAccount s n).chargers = s.chargers := by
  rw [setAccount, chargers_reservoirTest]; rfl

@[simp] theorem chargers_overvolume : (overvolume s).chargers = s.chargers := by
  unfold overvolume; split <;> simp

@[simp] theorem chargers_pulseTests : (pulseTests s).chargers = s.chargers := by
  unfold pulseTests
  split
  · split <;> simp
  · split
    · simp
    · split <;> simp

@[simp] theorem chargers_linePulse : (linePulse s).chargers = s.chargers := by
  unfold linePulse countPulse; dsimp only
  split
  · split <;> simp
  · simp

@[simp] theorem chargers_handDoseEnd (d : DoseEnd) : (handDoseEnd s d).chargers = s.chargers := by
  unfold handDoseEnd; split <;> rfl

@[simp] theorem chargers_backToManual : (backToManual s).chargers = s.chargers := rfl

@[simp] theorem chargers_endLineRound : (endLineRound s).chargers = s.chargers := by
  unfold endLineRound; dsimp only
  split <;> rfl

@[simp] theorem chargers_restartLine : (restartLine s).chargers = s.chargers := by
  unfold restartLine; dsimp only
  split
  · split <;> simp
  · split <;> simp
  · split <;> simp
  · split <;> rfl
  · simp
  · rfl

/-! #### Settings and inputs -/

@[simp] theorem chargers_setWorking (i : SettingId) (v : Nat) : (setWorking s i v).chargers = s.chargers := rfl

@[simp] theorem chargers_flatCountChanged : (flatCountChanged s).chargers = s.chargers :=
  chargers_foldl s _ (fun t c => by split <;> simp) _

@[simp] theorem chargers_changePolarity (old new : Nat) : (changePolarity s old new).chargers = s.chargers :=
  chargers_foldl s _ (fun t i => by split <;> rfl) _

/-! #### The link -/

@[simp] theorem chargers_placeMessage (f : Frame) : (placeMessage s f).chargers = s.chargers := rfl
@[simp] theorem chargers_reply (f : Frame) (st : Status) (l : List Byte) : (reply s f st l).chargers = s.chargers := rfl
@[simp] theorem chargers_refuse (f : Frame) (r : Reason) : (refuse s f r).chargers = s.chargers := rfl
@[simp] theorem chargers_cancelReply (f : Frame) (st : Status) (pl : Place) :
    (cancelReply s f st pl).chargers = s.chargers := rfl
@[simp] theorem chargers_afterTaking : (afterTaking s).chargers = s.chargers := rfl

@[simp] theorem chargers_completeFrame (b : Byte) : (completeFrame s b).chargers = s.chargers := by
  unfold completeFrame; dsimp only
  split
  · rfl
  · split <;> rfl

@[simp] theorem chargers_framerByte (b : Byte) : (framerByte s b).chargers = s.chargers := by
  unfold framerByte; dsimp only
  split
  · split <;> rfl
  · split
    · rfl
    · split <;> rfl
  · rfl
  · split
    · simp
    · rfl

end

end Sys2Proof.Machine
end

-- ==== Proofs: the channels keep the chargers' laws ====
section
/-! PROOFS. The operations that write a demand, an enable or a stage keep the laws of the chargers, and so does the
settling of a step. -/

namespace Sys2Proof.Machine

open Sys2Proof.Safety

/-! ### What writes a demand, an enable or a stage -/

section
variable (s : State) (c : Ch)

/-- The demand output is written with the present code (R47). -/
theorem chargers_writeDemand (code : Nat) (cell : Option Nat) :
    (writeDemand s c code cell).chargers =
      Function.update s.chargers c { s.chargers c with demand := code, code := code } :=
  chargers_eq_update c (by simp [State.chargers, writeDemand]) fun k hk => by simp [State.chargers, writeDemand, hk]

/-- A charger's enable written (R3). -/
theorem chargers_setEnable (on : Bool) :
    (setEnable s c on).chargers = Function.update s.chargers c { s.chargers c with enable := on } :=
  chargers_eq_update c (by simp [State.chargers, setEnable]) fun k hk => by simp [State.chargers, setEnable, hk]

/-- A channel's stage written. -/
theorem chargers_modChan_stage (f : Channel → Channel) :
    (s.modChan c f).chargers =
      Function.update s.chargers c { s.chargers c with stage := (f (s.chan.get c)).stage } :=
  chargers_eq_update c (by simp [State.chargers]) fun k hk => by simp [State.chargers, hk]

/-- What a direct event can do: write a demand, or nothing (R47). -/
theorem writeDirect_cases : writeDirect s c = s ∨ ∃ code cell, writeDirect s c = writeDemand s c code cell := by
  unfold writeDirect; dsimp only
  split
  · exact .inr ⟨_, _, rfl⟩
  · split
    · exact .inr ⟨_, _, rfl⟩
    · exact .inr ⟨_, _, rfl⟩
    · exact .inr ⟨_, _, rfl⟩
    all_goals
      split
      · exact .inr ⟨_, _, rfl⟩
      · exact .inl rfl

/-- What a recomputation can do: write a demand, or nothing (R47). -/
theorem writeHysteresis_cases :
    writeHysteresis s c = s ∨ ∃ code cell, writeHysteresis s c = writeDemand s c code cell := by
  unfold writeHysteresis; dsimp only
  split
  · exact .inl rfl
  split
  · exact .inl rfl
  split
  · exact .inr ⟨_, _, rfl⟩
  · exact .inl rfl

/-- A channel's stage after a stage change (R91). -/
theorem chargers_setStage_stage (st : Stage) : ((setStage s c st).chargers c).stage = st := by
  simp [State.chargers, setStage_chan]

end

section
variable {d e : Prop} {s : State}

theorem charged_writeDemand (h : Charged d e s) (c : Ch) (code : Nat) (cell : Option Nat) :
    Charged d e (writeDemand s c code cell) := by
  rw [Charged, chargers_writeDemand]
  exact h.update c _ (fun _ => rfl) fun he => h.off he c

theorem charged_writeDirect (h : Charged d e s) (c : Ch) : Charged d e (writeDirect s c) := by
  rcases writeDirect_cases s c with hsame | ⟨code, cell, hwritten⟩
  · rwa [hsame]
  · rw [hwritten]; exact charged_writeDemand h c code cell

theorem charged_writeHysteresis (h : Charged d e s) (c : Ch) : Charged d e (writeHysteresis s c) := by
  rcases writeHysteresis_cases s c with hsame | ⟨code, cell, hwritten⟩
  · rwa [hsame]
  · rw [hwritten]; exact charged_writeDemand h c code cell

theorem charged_setEnable_false (h : Charged d e s) (c : Ch) : Charged d e (setEnable s c false) := by
  rw [Charged, chargers_setEnable]
  exact h.update c _ (fun hd => h.shown hd c) fun _ _ => rfl

/-- A charger is enabled on a channel that is neither IDLE nor returning (R91, R94, R114). -/
theorem charged_setEnable_true (h : Charged d e s) {c : Ch} (hidle : (s.chargers c).stage ≠ .idle)
    (hback : (s.chargers c).stage ≠ .transferBack) : Charged d e (setEnable s c true) := by
  rw [Charged, chargers_setEnable]
  exact h.update c _ (fun hd => h.shown hd c) fun _ hst => (hst.elim hidle hback).elim

/-- A channel that is changed with its charger disabled where its new stage asks for it. -/
theorem charged_modChan (h : Charged d e s) (c : Ch) (f : Channel → Channel)
    (hoff : e → (f (s.chan.get c)).stage = .idle ∨ (f (s.chan.get c)).stage = .transferBack →
      (s.chargers c).enable = false) : Charged d e (s.modChan c f) := by
  rw [Charged, chargers_modChan_stage]
  exact h.update c _ (fun hd => h.shown hd c) hoff

/-- A stage change writes the demand of the new stage, and asks that the charger of an IDLE or returning channel be
disabled (R91, R114). -/
theorem charged_setStage (h : Charged d e s) {c : Ch} {st : Stage}
    (hoff : st = .idle ∨ st = .transferBack → (s.chargers c).enable = false) : Charged d e (setStage s c st) := by
  unfold setStage; dsimp only
  rw [Charged, chargers_stageDelivered]
  refine charged_writeDirect ?_ c
  rw [Charged, chargers_modCtx]
  exact charged_modChan h c _ fun _ => hoff

/-- A stage change to a stage in which the charger may run. -/
theorem charged_advance (h : Charged d e s) (c : Ch) {st : Stage} (hidle : st ≠ .idle) (hback : st ≠ .transferBack) :
    Charged d e (setStage s c st) :=
  charged_setStage h fun hst => (hst.elim hidle hback).elim

/-- What is done to one item after another keeps the laws. -/
theorem charged_foldl {α : Type} (f : State → α → State) (hf : ∀ t a, Charged d e t → Charged d e (f t a))
    (l : List α) {s : State} (h : Charged d e s) : Charged d e (l.foldl f s) := by
  induction l generalizing s with
  | nil => exact h
  | cons a l ih => exact ih (hf s a h)

/-! ### The return to the load bus -/

/-- The end of a round on a channel whose charger is disabled where the enable's law stands (R116). -/
theorem charged_endRound (h : Charged d e s) {c : Ch} (x : Context) (failed : Bool)
    (hback : (s.chargers c).stage = .transferBack) : Charged d e (endRound s c x failed) := by
  have hfreed : Charged d e (s.modChan c fun ch => { Channel.reset with toStart := ch.toStart }) :=
    charged_modChan h c _ fun he _ => h.off he c (.inr hback)
  unfold endRound; dsimp only
  rw [Charged, chargers_stageDelivered]
  refine charged_writeDirect ?_ c
  rw [Charged, chargers_writeRecord]
  split <;> simpa [Charged] using hfreed

theorem charged_suspension (h : Charged d e s) {c : Ch} (x : Context) (cause : Cause)
    (hback : (s.chargers c).stage = .transferBack) : Charged d e (suspension s c x cause) := by
  unfold suspension; dsimp only
  split
  · exact charged_endRound (by simpa [Charged] using h) _ _ (by simpa using hback)
  split
  · exact charged_endRound h _ _ hback
  · rw [Charged, chargers_wantAdmission, chargers_stageDelivered]
    refine charged_writeDirect ?_ c
    rw [Charged, chargers_modSit]
    exact charged_modChan h c (fun ch => { Channel.reset with toStart := ch.toStart })
      fun he _ => h.off he c (.inr hback)

theorem charged_backComplete (h : Charged d e s) {c : Ch} (hback : (s.chargers c).stage = .transferBack) :
    Charged d e (backComplete s c) := by
  have hstopped : Charged d e (stopWait s c) := by simpa [Charged] using h
  have hstage : ((stopWait s c).chargers c).stage = .transferBack := by simpa using hback
  unfold backComplete; dsimp only
  split
  · exact hstopped
  split
  · exact hstopped
  split
  · exact charged_suspension hstopped _ _ hstage
  all_goals exact charged_endRound hstopped _ _ hstage

theorem charged_backStep4 (h : Charged d e s) {c : Ch} (hback : (s.chargers c).stage = .transferBack) :
    Charged d e (backStep4 s c) := by
  unfold backStep4
  split
  · exact h
  · exact charged_backComplete (by simpa [Charged] using h) (by simpa using hback)

theorem charged_backStep3 (h : Charged d e s) {c : Ch} (hback : (s.chargers c).stage = .transferBack) :
    Charged d e (backStep3 s c) := by
  unfold backStep3; dsimp only
  split
  · exact h
  split
  · split
    · exact charged_backStep4 (by simpa [Charged] using h) (by simpa using hback)
    · simpa [Charged] using h
  · exact charged_backStep4 h hback

theorem charged_backStep2 (h : Charged d e s) {c : Ch} (hback : (s.chargers c).stage = .transferBack) :
    Charged d e (backStep2 s c) := by
  unfold backStep2; dsimp only
  split
  · exact h
  split
  · split
    · exact charged_backStep3 (by simpa [Charged] using h) (by simpa using hback)
    · simpa [Charged] using h
  · exact charged_backStep3 h hback

/-- The entry to TRANSFER_BACK disables the charger before the stage changes (R114). -/
theorem charged_enterBack (h : Charged d e s) (c : Ch) (x : Exit) : Charged d e (enterBack s c x) := by
  have hdisabled : Charged d e (setEnable s c false) := charged_setEnable_false h c
  have henable : ((setEnable s c false).chargers c).enable = false := by simp [chargers_setEnable]
  unfold enterBack; dsimp only
  refine charged_backStep2 ?_ (by rw [chargers_setLimit, chargers_setStage_stage])
  rw [Charged, chargers_setLimit]
  exact charged_setStage (by simpa [Charged] using hdisabled) fun _ => by simpa using henable

/-! ### Aborts, cuts, suspending causes -/

theorem charged_abortRound (h : Charged d e s) (c : Ch) (o : Outcome) : Charged d e (abortRound s c o) :=
  charged_enterBack (by simpa [Charged] using h) c _

theorem charged_cutRound (h : Charged d e s) (c : Ch) (defer h2 : Bool) : Charged d e (cutRound s c defer h2) := by
  unfold cutRound cutFlags; dsimp only
  split
  · exact charged_enterBack (by simpa [Charged] using h) c _
  · split
    · split
      · exact h
      · split <;> simpa [Charged] using h
    · exact charged_enterBack (by simpa [Charged] using h) c _
  · exact h

theorem charged_readingCause (h : Charged d e s) (c : Ch) (o : Outcome) : Charged d e (readingCause s c o) := by
  unfold readingCause
  split
  next => exact charged_abortRound h c o
  next => exact charged_abortRound h c o
  next => exact charged_abortRound h c o
  next => exact charged_cutRound h c _ _
  next => exact charged_cutRound h c _ _
  next => exact h
  next => exact h

theorem charged_suspendingCause (h : Charged d e s) (c : Ch) (cause : Cause) :
    Charged d e (suspendingCause s c cause) := by
  have hback : Charged d e (enterBack (keepFinalCell s c) c (.suspended cause)) :=
    charged_enterBack (by simpa [Charged] using h) c _
  unfold suspendingCause
  split
  next => exact hback
  next => exact hback
  next => exact hback
  next => exact charged_cutRound h c _ _
  next => exact charged_cutRound h c _ _
  next => exact h
  next => exact h

theorem charged_deliverCause (h : Charged d e s) (cause : Cause) (concerns : Stage → Bool) :
    Charged d e (deliverCause s cause concerns) :=
  charged_foldl _ (fun t c ht => by
    split
    · exact charged_suspendingCause ht c cause
    · exact ht) _ h

/-! ### Ramp and hold -/

theorem charged_enterHold (h : Charged d e s) (c : Ch) : Charged d e (enterHold s c) :=
  charged_advance (by simpa [Charged] using h) c (by decide) (by decide)

theorem charged_targetTest (h : Charged d e s) (c : Ch) : Charged d e (targetTest s c) := by
  unfold targetTest; dsimp only
  split
  · split
    · exact charged_enterHold h c
    · exact h
  · exact h

theorem charged_enterRamp (h : Charged d e s) (c : Ch) : Charged d e (enterRamp s c) :=
  charged_targetTest (charged_advance (by simpa [Charged] using h) c (by decide) (by decide)) c

theorem charged_rampStep (h : Charged d e s) (c : Ch) : Charged d e (rampStep s c) :=
  charged_targetTest (charged_writeDirect (by simpa [Charged] using h) c) c

theorem charged_finish (h : Charged d e s) (c : Ch) (o : Outcome) : Charged d e (finish s c o) := by
  unfold finish
  split
  · exact h
  · exact charged_advance (by simpa [Charged] using h) c (by decide) (by decide)

theorem charged_windowEnd (h : Charged d e s) (c : Ch) : Charged d e (windowEnd s c) := by
  unfold windowEnd runawayAbort; dsimp only
  split
  · exact h
  split
  · simpa [Charged] using h
  split
  · exact charged_abortRound (by simpa [Charged] using h) c _
  split
  · exact charged_finish (by simpa [Charged] using h) c _
  · simpa [Charged] using h

theorem charged_holdWindow (h : Charged d e s) (c : Ch) : Charged d e (holdWindow s c) := by
  unfold holdWindow; dsimp only
  split
  · exact h
  split
  · split
    · simpa [Charged] using charged_windowEnd h c
    · exact charged_windowEnd h c
  · exact h

theorem charged_holdLimitTest (h : Charged d e s) (c : Ch) : Charged d e (holdLimitTest s c) := by
  unfold holdLimitTest
  split
  · exact h
  split
  · exact charged_finish h c _
  · exact h

theorem charged_holdMinute (h : Charged d e s) (c : Ch) : Charged d e (holdMinute s c) :=
  charged_holdLimitTest (charged_holdWindow (by simpa [Charged] using h) c) c

theorem charged_chargeSample (h : Charged d e s) (c : Ch) (amps : Eight Int) :
    Charged d e (chargeSample s c amps) := by
  unfold chargeSample; dsimp only
  split
  · exact h
  split
  · split
    · exact charged_finish (by simpa [Charged] using h) c _
    · simpa [Charged] using h
  · exact h

/-! ### Readings of the held string -/

theorem charged_holdback (h : Charged d e s) (c : Ch) (x : Context) : Charged d e (holdback s c x) :=
  charged_targetTest (charged_writeDirect (by simpa [Charged] using h) c) c

theorem charged_channelScan (h : Charged d e s) (p : Pos) : Charged d e (channelScan s p) := by
  have hlimit : ∀ (c : Ch) (x : Context) (mv : Nat),
      Charged d e (if s.cfg.cellMaxMv < mv then holdback s c x else s) := by
    intro c x mv
    split
    · exact charged_holdback h c x
    · exact h
  unfold channelScan
  split
  · exact h
  split
  · split
    · exact charged_readingCause h _ _
    · split
      · exact hlimit _ _ _
      · exact hlimit _ _ _
      all_goals exact h
  · exact h

theorem charged_channelPilot (h : Charged d e s) (p : Pos) : Charged d e (channelPilot s p) := by
  unfold channelPilot; dsimp only
  split
  · exact h
  split
  · split
    · exact charged_readingCause (by simpa [Charged] using h) _ _
    · simpa [Charged] using h
  · split
    · exact charged_readingCause h _ _
    · exact h

theorem charged_recomputeComp (h : Charged d e s) (p : Pos) : Charged d e (recomputeComp s p) := by
  unfold recomputeComp; dsimp only
  split
  · exact charged_targetTest (charged_writeHysteresis (s := compensated s p) h _) _
  · exact h

theorem charged_setpointsChanged (h : Charged d e s) (floatToo : Bool) :
    Charged d e (setpointsChanged s floatToo) := by
  have hall : Charged d e (Pos.all.foldl recomputeComp s) :=
    charged_foldl _ (fun _ p ht => charged_recomputeComp ht p) _ h
  unfold setpointsChanged; dsimp only
  split
  · simpa [Charged] using hall
  · exact hall

/-! ### Leaving the load bus -/

theorem charged_outStep4 (h : Charged d e s) (c : Ch) : Charged d e (outStep4 s c) := by
  unfold outStep4; dsimp only
  split
  · exact h
  split
  · exact charged_enterRamp (by simpa [Charged] using h) c
  · simpa [Charged] using h

theorem charged_outStep3 (h : Charged d e s) (c : Ch) : Charged d e (outStep3 s c) := by
  unfold outStep3; dsimp only
  split
  · exact h
  split
  · exact charged_outStep4 (by simpa [Charged] using h) c
  · simpa [Charged] using h

theorem charged_outStep2 (h : Charged d e s) (c : Ch) : Charged d e (outStep2 s c) := by
  unfold outStep2; dsimp only
  split
  · exact h
  split
  · exact charged_outStep3 (by simpa [Charged] using h) c
  · simpa [Charged] using h

/-- The entry to TRANSFER_OUT changes the stage before it enables the charger (R94). -/
theorem charged_startTransferOut (h : Charged d e s) (c : Ch) : Charged d e (startTransferOut s c) := by
  unfold startTransferOut; dsimp only
  generalize ht : setStage (s.modChan c _) c .transferOut = t
  have hout : Charged d e t := by
    rw [← ht]
    exact charged_advance (by simpa [Charged] using h) c (by decide) (by decide)
  have hstage : (t.chargers c).stage = .transferOut := by rw [← ht, chargers_setStage_stage]
  exact charged_outStep2
    (charged_setEnable_true (by simpa [Charged] using hout) (by simp [hstage]) (by simp [hstage])) c

theorem charged_giveChannel (h : Charged d e s) (c : Ch) (x : Context) : Charged d e (giveChannel s c x) :=
  charged_startTransferOut (by simpa [Charged] using h) c

/-! ### Contactor feedback, timeouts -/

theorem charged_contactorFault (h : Charged d e s) (c : Ch) (p : Pos) (k : Contactor) (l : Option Level) :
    Charged d e (contactorFault s c p k l) := by
  simpa [Charged, contactorFault] using charged_setEnable_false h c

theorem charged_disagreement (h : Charged d e s) (c : Ch) (p : Pos) (k : Contactor) (l : Option Level) :
    Charged d e (disagreement s c p k l) := by
  unfold disagreement
  split
  · split
    · split
      · exact h
      · simpa [Charged] using charged_contactorFault h c p k l
    · exact charged_abortRound (charged_contactorFault (by simpa [Charged] using h) c p k l) c _
  · exact charged_abortRound (charged_contactorFault h c p k l) c _

theorem charged_nextStep (h : Charged d e s) (c : Ch) (k : Contactor) : Charged d e (nextStep s c k) := by
  have hstopped : Charged d e (stopWait s c) := by simpa [Charged] using h
  unfold nextStep; dsimp only
  split
  next => exact charged_outStep3 hstopped c
  next => exact charged_outStep4 hstopped c
  next => exact charged_enterRamp hstopped c
  next hback => exact charged_backStep3 hstopped hback
  next hback => exact charged_backStep4 hstopped hback
  next => exact hstopped

theorem charged_channelFeedback (h : Charged d e s) (p : Pos) (k : Contactor) (l : Option Level) :
    Charged d e (channelFeedback s p k l) := by
  unfold channelFeedback; dsimp only
  split
  · exact h
  split
  · split
    · exact charged_nextStep h _ k
    · exact h
  · split
    · exact charged_disagreement h _ p k l
    · exact h

theorem charged_outTimeout (h : Charged d e s) (c : Ch) (k : Contactor) : Charged d e (outTimeout s c k) := by
  unfold outTimeout
  split
  · exact h
  · exact charged_abortRound (charged_contactorFault h c _ k none) c _

theorem charged_backTimeout (h : Charged d e s) {c : Ch} (k : Contactor)
    (hback : (s.chargers c).stage = .transferBack) : Charged d e (backTimeout s c k) := by
  unfold backTimeout; dsimp only
  split
  · exact h
  · exact charged_endRound (by simpa [Charged] using h) _ _ (by simpa using hback)

/-! ### Settle and water -/

theorem charged_enterWater (h : Charged d e s) (c : Ch) : Charged d e (enterWater s c) := by
  unfold enterWater; dsimp only
  split
  · exact h
  split
  · exact charged_enterBack h c _
  · generalize hw : setStage (s.modChan c _) c .water = w
    have hwater : Charged d e w := by
      rw [← hw]
      exact charged_advance (by simpa [Charged] using h) c (by decide) (by decide)
    split <;> simpa [Charged] using hwater

theorem charged_settleEnd (h : Charged d e s) (c : Ch) : Charged d e (settleEnd s c) := by
  unfold settleEnd
  split
  · exact h
  split
  · exact charged_enterWater h c
  · exact charged_enterBack h c _

theorem charged_giveUp (h : Charged d e s) (c : Ch) : Charged d e (giveUp s c) :=
  charged_enterBack (by simpa [Charged] using h) c _

theorem charged_lineReturn (h : Charged d e s) (c : Ch) (w : WaterResult) : Charged d e (lineReturn s c w) := by
  unfold lineReturn; dsimp only
  split
  · exact h
  next k hk =>
    generalize ht : (s.modCtx c _).modChan c _ = t
    have hpopped : Charged d e t := by rw [← ht]; simpa [Charged] using h
    split
    next hback =>
      split
      · exact charged_backComplete hpopped hback
      · exact hpopped
    next => exact charged_enterBack hpopped c _

theorem charged_closingEnd (h : Charged d e s) : Charged d e (closingEnd s) := by
  unfold closingEnd; dsimp only
  split
  · simpa [Charged] using h
  · rw [Charged, chargers_lineNext]; exact charged_lineReturn h _ _
  · split
    · split <;> simpa [Charged] using h
    · split <;> simpa [Charged] using h
  · simpa [Charged] using h

theorem charged_restartChannel (h : Charged d e s) (c : Ch) : Charged d e (restartChannel s c) := by
  have habort : ∀ waits : Bool,
      Charged d e (abortRound (if waits = true then withdrawCall s c else s) c .interrupted) := by
    intro waits
    refine charged_abortRound ?_ c _
    split
    · simpa [Charged] using h
    · exact h
  unfold restartChannel; dsimp only
  split
  · exact h
  · simpa [Charged] using h
  all_goals exact habort _

/-! ### Admission, Site Permissions, the settling of a step -/

theorem charged_admitHeld (h : Charged d e s) (x : Held) : Charged d e (admitHeld s x) := by
  unfold admitHeld
  split
  · exact charged_giveChannel (by simpa [Charged] using h) _ _
  · exact h

theorem charged_admitEntry (h : Charged d e s) (x : Entry) : Charged d e (admitEntry s x) := by
  unfold admitEntry giveLine; dsimp only
  generalize ht : markRoundOpen _ _ _ = t
  have hmarked : Charged d e t := by rw [← ht]; exact h
  split
  · simpa [Charged] using hmarked
  all_goals
    split
    · exact charged_giveChannel hmarked _ _
    · exact hmarked

theorem charged_evaluatePasses (n : Nat) (h : Charged d e s) : Charged d e (evaluatePasses n s) := by
  induction n generalizing s with
  | zero => exact h
  | succ n ih =>
    unfold evaluatePasses
    split
    · exact ih (charged_admitHeld h _)
    · exact ih (charged_admitEntry h _)
    · exact h

theorem charged_evaluate (h : Charged d e s) : Charged d e (evaluate s) := by
  unfold evaluate
  split
  · exact h
  · exact charged_evaluatePasses _ h

theorem charged_reserveTest (h : Charged d e s) : Charged d e (reserveTest s) := by
  unfold reserveTest; dsimp only
  split
  · exact h
  · generalize ht : (if s.perm.breach = true then s else _) = t
    have hbreach : Charged d e t := by
      rw [← ht]
      split <;> simpa [Charged] using h
    split
    · exact hbreach
    · split
      · exact charged_suspendingCause hbreach _ _
      · exact hbreach

theorem charged_settleWith (n : Nat) (h : Charged d e s) : Charged d e (settleWith n s) := by
  induction n generalizing s with
  | zero => exact h
  | succ n ih =>
    unfold settleWith
    split
    · exact ih (charged_reserveTest (s := { s with due := { s.due with reserve := false } }) h)
    · split
      · exact ih (charged_evaluate (s := { s with due := { s.due with admission := false } }) h)
      · exact h

theorem charged_settle (h : Charged d e s) : Charged d e (settle s) := charged_settleWith 16 h

theorem charged_recomputeSurplus (h : Charged d e s) : Charged d e (recomputeSurplus s) := by
  unfold recomputeSurplus surplusLost; dsimp only
  generalize ht : ({ s with supply := _ } : State) = t
  have hsurplus : Charged d e t := by rw [← ht]; exact h
  split
  · exact h
  split
  · simpa [Charged] using hsurplus
  split
  · exact hsurplus
  split
  · exact charged_deliverCause hsurplus _ _
  · simpa [Charged] using hsurplus

theorem charged_disableChargers (h : Charged d e s) : Charged d e (disableChargers s) :=
  charged_foldl _ (fun t c ht => by
    split
    · exact ht
    · exact charged_setEnable_false ht c) _ h

theorem charged_h2Start (h : Charged d e s) : Charged d e (h2Start s) := by
  unfold h2Start; dsimp only
  generalize ht : disableChargers _ = t
  have hdisabled : Charged d e t := by rw [← ht]; exact charged_disableChargers (by simpa [Charged] using h)
  simpa [Charged] using charged_deliverCause hdisabled .h2 Stage.active

theorem charged_h2Delivered (h : Charged d e s) : Charged d e (h2Delivered s) := by
  unfold h2Delivered
  split
  · split
    · exact h
    · exact charged_h2Start h
  · split
    · simpa [Charged] using h
    · exact h
  · exact h

theorem charged_ventFails (h : Charged d e s) : Charged d e (ventFails s) := by
  unfold ventFails; dsimp only
  exact charged_deliverCause (by simpa [Charged] using h) _ _

end

end Sys2Proof.Machine
end

-- ==== Proofs: every command keeps the chargers' laws ====
section
/-! PROOFS. Samples, resets, settings and requests keep the laws of the chargers, and so does every step (O54). -/

namespace Sys2Proof.Machine

open Sys2Proof.Safety

section
variable {d e : Prop} {s : State}

/-! ### Samples and deliveries -/

theorem charged_deliver (h : Charged d e s) (i : InputId) (k : DeliveryKind) : Charged d e (deliver s i k) := by
  unfold deliver; dsimp only
  split
  next p =>
    rw [Charged, chargers_wantAdmission]
    exact charged_channelFeedback (by simpa [Charged] using h) p .kf _
  next p =>
    rw [Charged, chargers_wantAdmission]
    exact charged_channelFeedback (by simpa [Charged] using h) p .ke _
  next p => exact charged_channelFeedback h p .ks _
  next => simpa [Charged] using h
  next => exact charged_recomputeSurplus h
  next => exact charged_h2Delivered h
  next => simpa [Charged] using h

theorem charged_sampleInput (h : Charged d e s) (i : InputId) (l : Level) : Charged d e (sampleInput s i l) := by
  unfold sampleInput; dsimp only
  generalize ht : ({ s with inp := _ } : State) = t
  have hsampled : Charged d e t := by rw [← ht]; exact h
  split
  · exact charged_settle (charged_deliver hsampled i _)
  · exact hsampled

theorem charged_sampleInputs (levels : BitVec 35) (l : List InputId) (n : Nat) (h : Charged d e s) :
    Charged d e (sampleInputs levels n l s) := by
  induction l generalizing n s with
  | nil => exact h
  | cons i l ih => exact ih (n + 1) (charged_sampleInput h i _)

theorem charged_completeScan (h : Charged d e s) (p : Pos) (mvs : List Nat) : Charged d e (completeScan s p mvs) := by
  rw [completeScan_eq]
  refine charged_channelScan ?_ p
  rw [Charged, chargers_recomputeSense]
  exact h

theorem charged_sampleCurrents (h : Charged d e s) (dA : Eight Int) : Charged d e (sampleCurrents s dA) := by
  rw [sampleCurrents_eq]
  refine charged_chargeSample (charged_chargeSample ?_ _ _) _ _
  rw [Charged, chargers_foldl _ _ fun t p => chargers_throughputAdd t p _]
  exact h

theorem charged_completePilot (h : Charged d e s) (p : Pos) (nTh nRef : Nat) :
    Charged d e (completePilot s p nTh nRef) := by
  have hcomp : Charged d e (recomputeComp (pilotStored s p nTh nRef) p) :=
    charged_recomputeComp (s := pilotStored s p nTh nRef) h p
  have hsense : Charged d e (recomputeSense (recomputeComp (pilotStored s p nTh nRef) p) p) := by
    rw [Charged, chargers_recomputeSense]; exact hcomp
  exact charged_channelPilot hsense p

theorem chargers_cycleDone (s : State) : (cycleDone s).chargers = s.chargers := rfl

theorem charged_completeAmbient (h : Charged d e s) (nTh nRef : Nat) : Charged d e (completeAmbient s nTh nRef) := by
  rw [completeAmbient_eq, Charged, chargers_cycleDone, chargers_computeFloat]
  have hstored : Charged d e (ambientStored s nTh nRef) := h
  exact charged_foldl _ (fun t p ht => by
    split
    · exact charged_recomputeComp ht p
    · exact ht) _ hstored

/-! ### Resets -/

/-- A reset leaves the chargers off with demand 0 (R6, R91). -/
theorem charged_afterReset (d e : Prop) (s : State) (store : Store) : Charged d e (afterReset s store) :=
  ⟨fun _ c => by cases c <;> rfl, fun _ c _ => by cases c <;> rfl⟩

theorem charged_restartReset (d e : Prop) (s : State) : Charged d e (restartReset s) :=
  charged_afterReset d e s s.store

@[simp] theorem chargers_recoverRecords (s : State) : (recoverRecords s).chargers = s.chargers :=
  chargers_foldl s _ (fun t p => by split <;> rfl) _

@[simp] theorem chargers_initialTests (s : State) : (initialTests s).chargers = s.chargers := by simp [initialTests]

/-! ### Commands -/

/-- A command's answer meets the laws. -/
def KeepsCharged (d e : Prop) (o : Host.Outcome State Fault Refusal) : Prop := ∀ t, o = .next t → Charged d e t

theorem keepsCharged_next (h : Charged d e s) : KeepsCharged d e (.next s) := by
  rintro t ⟨⟩
  exact h

theorem keepsCharged_settled (h : Charged d e s) : KeepsCharged d e (settled s) := keepsCharged_next (charged_settle h)

/-- A command that acts on a condition, and otherwise changes nothing. -/
theorem keepsCharged_ite {c : Prop} [Decidable c] {o : Host.Outcome State Fault Refusal} (h : Charged d e s)
    (hact : c → KeepsCharged d e o) : KeepsCharged d e (if c then o else .next s) := by
  split
  next hc => exact hact hc
  next => exact keepsCharged_next h

/-- A request is served by a rule that keeps the laws (R181, R182). -/
theorem keepsCharged_serve (h : Charged d e s) (mine : Frame → Bool) (fits : Nat → Bool) {act : State → Frame → State}
    (hact : ∀ t f, Charged d e t → Charged d e (act t f)) : KeepsCharged d e (serve s mine fits act) := by
  unfold serve
  split
  · exact keepsCharged_next h
  split
  · split
    · exact keepsCharged_next h
    · split
      · exact keepsCharged_settled (hact _ _ h)
      · exact keepsCharged_next h
  · exact keepsCharged_next h

/-- A request whose rule leaves the chargers alone. -/
theorem keepsCharged_report (h : Charged d e s) (mine : Frame → Bool) (fits : Nat → Bool)
    {act : State → Frame → State} (hact : ∀ t f, (act t f).chargers = t.chargers) :
    KeepsCharged d e (serve s mine fits act) :=
  keepsCharged_serve h mine fits fun t f ht => by rw [Charged, hact]; exact ht

theorem keepsCharged_serveKind (h : Charged d e s) (kind : Byte) (n : Nat) {act : State → Frame → State}
    (hact : ∀ t f, Charged d e t → Charged d e (act t f)) : KeepsCharged d e (serveKind s kind n act) :=
  keepsCharged_serve h _ _ hact

theorem keepsCharged_reportKind (h : Charged d e s) (kind : Byte) (n : Nat) {act : State → Frame → State}
    (hact : ∀ t f, (act t f).chargers = t.chargers) : KeepsCharged d e (serveKind s kind n act) :=
  keepsCharged_report h _ _ hact

/-! #### The requests' rules -/

theorem chargers_readStatusReply (f : Frame) : (readStatusReply s f).chargers = s.chargers := by
  unfold readStatusReply; split <;> rfl

theorem chargers_readStringReply (f : Frame) : (readStringReply s f).chargers = s.chargers := by
  unfold readStringReply; split <;> rfl

theorem chargers_readCellsReply (f : Frame) : (readCellsReply s f).chargers = s.chargers := by
  unfold readCellsReply
  split
  · rfl
  · split
    · split <;> rfl
    · rfl

theorem chargers_readSettingReply (f : Frame) : (readSettingReply s f).chargers = s.chargers := by
  unfold readSettingReply; split <;> rfl

theorem chargers_submitTests (f : Frame) (b : Submission) (k : Kind) (c : RoundClass) (p : Pos) :
    (submitTests s f b k c p).chargers = s.chargers := by
  unfold submitTests; dsimp only
  split
  · rfl
  split
  · rfl
  split
  · rfl
  split
  · rfl
  split <;> rfl

theorem chargers_serveSubmitRound (f : Frame) : (serveSubmitRound s f).chargers = s.chargers := by
  unfold serveSubmitRound; dsimp only
  split
  · split
    · rfl
    split
    · rfl
    split
    · rfl
    · exact chargers_submitTests ..
  · rfl

theorem charged_serveCancelRound (h : Charged d e s) (f : Frame) : Charged d e (serveCancelRound s f) := by
  unfold serveCancelRound cancelHeld cancelOnLine cancelOnChannel; dsimp only
  split
  · exact h
  split
  · exact h
  · exact h
  · split
    · rw [Charged, chargers_endHeld]; exact h
    · exact h
  · split
    · split
      · exact h
      · exact h
      all_goals exact charged_readingCause (s := cancelReply s f .ok .activeChannel) h _ _
    · exact h
  · split
    · rw [Charged, chargers_closeLine]; exact h
    · exact h

theorem charged_serveSupplyGrant (h : Charged d e s) (f : Frame) : Charged d e (serveSupplyGrant s f) := by
  unfold serveSupplyGrant; dsimp only
  rw [Charged, chargers_reply]
  exact charged_recomputeSurplus h

theorem chargers_serveClaimLine (f : Frame) : (serveClaimLine s f).chargers = s.chargers := by
  unfold serveClaimLine
  split
  · rfl
  · split <;> rfl

theorem chargers_serveReleaseLine (f : Frame) : (serveReleaseLine s f).chargers = s.chargers := by
  unfold serveReleaseLine; dsimp only
  split
  · rfl
  · rw [chargers_reply]
    split <;> simp

theorem chargers_serveManualDose (f : Frame) : (serveManualDose s f).chargers = s.chargers := by
  unfold serveManualDose; dsimp only
  split
  · rfl
  split
  · rfl
  split
  · rfl
  split
  · rfl
  split
  · rfl
  split
  · rfl
  · simp

theorem chargers_serveRefill (f : Frame) : (serveRefill s f).chargers = s.chargers := by simp [serveRefill]

theorem chargers_serveClearWeak (f : Frame) : (serveClearWeak s f).chargers = s.chargers := by
  unfold serveClearWeak; dsimp only
  split <;> rfl

theorem chargers_serveReleaseLock (f : Frame) : (serveReleaseLock s f).chargers = s.chargers := by
  unfold serveReleaseLock; dsimp only
  split
  · rfl
  split
  · rfl
  · split <;> rfl

theorem chargers_serveSetNoticeMaster (f : Frame) : (serveSetNoticeMaster s f).chargers = s.chargers := by
  unfold serveSetNoticeMaster; dsimp only
  split <;> rfl

theorem chargers_relatch (s : State) (c : Condition) : (relatch s c).chargers = s.chargers := by cases c <;> rfl

theorem chargers_serveClearConditions (f : Frame) : (serveClearConditions s f).chargers = s.chargers := by
  unfold serveClearConditions; dsimp only
  split
  · rfl
  · rw [chargers_reply, chargers_foldl _ relatch chargers_relatch, chargers_foldl _ clearLatch fun _ _ => rfl]

theorem chargers_serveReadLog (f : Frame) : (serveReadLog s f).chargers = s.chargers := by
  unfold serveReadLog; dsimp only
  split
  · rfl
  split
  · rfl
  · split <;> rfl

theorem charged_serveRestart (h : Charged d e s) (f : Frame) : Charged d e (serveRestart s f) := by
  unfold serveRestart; dsimp only
  generalize ht : interruptHeld _ = t
  have hended : Charged d e t := by rw [← ht, Charged, chargers_interruptHeld]; exact h
  rw [Charged, chargers_restartLine]
  exact charged_restartChannel (charged_restartChannel hended .a) .b

/-! #### Set Setting -/

theorem charged_applySetting (h : Charged d e s) (i : SettingId) (v : Nat) : Charged d e (applySetting s i v) := by
  have hset : Charged d e (setWorking s i v) := h
  unfold applySetting; dsimp only
  split
  next => simpa [Charged] using h
  next => exact hset
  next => exact charged_setpointsChanged hset _
  next => exact charged_setpointsChanged hset _
  next => exact charged_setpointsChanged hset _
  next => exact charged_setpointsChanged hset _
  next => exact charged_setpointsChanged hset _
  all_goals simpa [Charged] using hset

theorem charged_serveSetSetting (h : Charged d e s) (f : Frame) : Charged d e (serveSetSetting s f) := by
  unfold serveSetSetting acceptSetting; dsimp only
  split
  · exact h
  split
  · exact h
  split
  · exact h
  · rw [Charged, chargers_reply]
    split
    · exact h
    · exact charged_applySetting (s := { s with store := { s.store with defaulted := false } }) h _ _

/-! #### Events and timed rows -/

theorem keepsCharged_execResetN (d e : Prop) (s : State) : KeepsCharged d e (execResetN s) := by
  obtain ⟨n, store, hreset, -⟩ := execResetN_cases s
  rw [hreset]
  exact keepsCharged_next (charged_afterReset d e _ store)

theorem keepsCharged_execResetRelease (h : Charged d e s) : KeepsCharged d e (execResetRelease s) :=
  keepsCharged_ite h fun _ => keepsCharged_settled (by
    rw [Charged, chargers_initialTests, chargers_recoverRecords]
    exact h)

theorem keepsCharged_execFinalStep (h : Charged d e s) : KeepsCharged d e (execFinalStep s) :=
  keepsCharged_ite h fun _ => keepsCharged_settled (by
    rw [Charged, chargers_initialTests, chargers_recoverRecords]
    exact charged_restartReset d e _)

theorem keepsCharged_execScanCompletion (h : Charged d e s) (mvs : List Nat) :
    KeepsCharged d e (execScanCompletion mvs s) := by
  unfold execScanCompletion
  split
  · exact keepsCharged_ite h fun _ => keepsCharged_settled (charged_completeScan h _ mvs)
  · exact keepsCharged_next h

theorem keepsCharged_execCurrentSample (h : Charged d e s) (dA : Eight Int) :
    KeepsCharged d e (execCurrentSample dA s) :=
  keepsCharged_ite h fun _ => keepsCharged_settled (charged_sampleCurrents (by simpa [Charged] using h) dA)

theorem keepsCharged_execConversionCompletion (h : Charged d e s) (gateTh gateRef : Nat) :
    KeepsCharged d e (execConversionCompletion gateTh gateRef s) := by
  refine keepsCharged_ite h fun _ => ?_
  have hticked : Charged d e (conversionTick s) := h
  dsimp only
  split
  · exact keepsCharged_settled (charged_completePilot hticked _ _ _)
  · exact keepsCharged_settled (charged_completeAmbient hticked _ _)

theorem keepsCharged_execFlowPulse (h : Charged d e s) : KeepsCharged d e (execFlowPulse s) :=
  keepsCharged_ite h fun _ => keepsCharged_settled (by rw [Charged, chargers_linePulse]; exact h)

theorem keepsCharged_execTachEdge (h : Charged d e s) (t : Nat) : KeepsCharged d e (execTachEdge t s) := by
  refine keepsCharged_ite h fun _ => ?_
  split
  · exact keepsCharged_next h
  · dsimp only
    split
    · exact keepsCharged_next h
    · exact keepsCharged_settled (by rw [Charged, chargers_speedDelivered]; exact h)

theorem keepsCharged_execTachTimeout (h : Charged d e s) : KeepsCharged d e (execTachTimeout s) := by
  unfold execTachTimeout
  split
  · exact keepsCharged_next h
  · exact keepsCharged_ite h fun _ => keepsCharged_settled (by rw [Charged, chargers_speedDelivered]; exact h)

theorem keepsCharged_execTransferOutTimeout (h : Charged d e s) (c : Ch) :
    KeepsCharged d e (execTransferOutTimeout c s) := by
  unfold execTransferOutTimeout
  split
  · exact keepsCharged_settled (charged_outTimeout (s := atLeastMs s _) h c _)
  · exact keepsCharged_next h

theorem keepsCharged_execTransferBackTimeout (h : Charged d e s) (c : Ch) :
    KeepsCharged d e (execTransferBackTimeout c s) := by
  unfold execTransferBackTimeout
  split
  next w hw =>
    obtain ⟨hback, -⟩ := dueStep_spec hw
    exact keepsCharged_settled (charged_backTimeout (s := atLeastMs s _) h _ hback)
  next => exact keepsCharged_next h

theorem keepsCharged_execGiveUp (h : Charged d e s) (c : Ch) : KeepsCharged d e (execGiveUp c s) := by
  unfold execGiveUp
  split
  · exact keepsCharged_ite h fun _ => keepsCharged_settled (charged_giveUp h c)
  · exact keepsCharged_next h

theorem keepsCharged_execAgeMinute (h : Charged d e s) (p : Pos) : KeepsCharged d e (execAgeMinute p s) := by
  unfold execAgeMinute
  split
  · exact keepsCharged_ite h fun _ => keepsCharged_next (by simpa [Charged] using h)
  · split
    · exact keepsCharged_ite h fun _ => keepsCharged_settled (by simpa [Charged] using h)
    · exact keepsCharged_next h

theorem keepsCharged_execManualDoseEnd (h : Charged d e s) : KeepsCharged d e (execManualDoseEnd s) := by
  unfold execManualDoseEnd
  split
  · exact keepsCharged_ite h fun _ => keepsCharged_next h
  · exact keepsCharged_next h

theorem keepsCharged_execNotice (h : Charged d e s) : KeepsCharged d e (execNotice s) := by
  refine keepsCharged_ite h fun _ => ?_
  split
  · split <;> exact keepsCharged_next h
  · exact keepsCharged_next h

theorem keepsCharged_execLogRecord (h : Charged d e s) : KeepsCharged d e (execLogRecord s) := by
  unfold execLogRecord; dsimp only
  split
  · exact keepsCharged_next h
  split
  · exact keepsCharged_next h
  · split <;> exact keepsCharged_next h

theorem keepsCharged_execLogEnd (h : Charged d e s) : KeepsCharged d e (execLogEnd s) := by
  unfold execLogEnd
  split
  · exact keepsCharged_next h
  · split <;> exact keepsCharged_next h

/-! #### Requests with their rules written in the command -/

theorem keepsCharged_execUnknownKind (h : Charged d e s) : KeepsCharged d e (execUnknownKind s) := by
  unfold execUnknownKind
  exact keepsCharged_report h _ _ fun _ _ => rfl

theorem keepsCharged_execIdentify (h : Charged d e s) : KeepsCharged d e (execIdentify s) := by
  unfold execIdentify
  exact keepsCharged_reportKind h _ _ fun _ _ => rfl

theorem keepsCharged_execSetClock (h : Charged d e s) : KeepsCharged d e (execSetClock s) := by
  unfold execSetClock
  exact keepsCharged_reportKind h _ _ fun _ _ => rfl

theorem keepsCharged_execReadTemperatures (h : Charged d e s) : KeepsCharged d e (execReadTemperatures s) := by
  unfold execReadTemperatures
  exact keepsCharged_report h _ _ fun _ _ => by split <;> rfl

theorem keepsCharged_execReadTemperatureDetail (h : Charged d e s) :
    KeepsCharged d e (execReadTemperatureDetail s) := by
  unfold execReadTemperatureDetail
  exact keepsCharged_report h _ _ fun _ _ => rfl

theorem keepsCharged_execReadPlant (h : Charged d e s) : KeepsCharged d e (execReadPlant s) := by
  unfold execReadPlant
  exact keepsCharged_reportKind h _ _ fun _ _ => rfl

theorem keepsCharged_execReadQueue (h : Charged d e s) : KeepsCharged d e (execReadQueue s) := by
  unfold execReadQueue
  exact keepsCharged_reportKind h _ _ fun _ _ => by dsimp only; split <;> rfl

theorem keepsCharged_execReadHeld (h : Charged d e s) : KeepsCharged d e (execReadHeld s) := by
  unfold execReadHeld
  exact keepsCharged_report h _ _ fun _ _ => by split <;> rfl

theorem keepsCharged_execReadHeldDetail (h : Charged d e s) : KeepsCharged d e (execReadHeldDetail s) := by
  unfold execReadHeldDetail
  exact keepsCharged_report h _ _ fun _ _ => by split <;> rfl

theorem keepsCharged_execReadWeak (h : Charged d e s) : KeepsCharged d e (execReadWeak s) := by
  unfold execReadWeak
  exact keepsCharged_reportKind h _ _ fun _ _ => by dsimp only; split <;> rfl

theorem keepsCharged_execStopLog (h : Charged d e s) : KeepsCharged d e (execStopLog s) := by
  unfold execStopLog
  exact keepsCharged_reportKind h _ _ fun _ _ => rfl

theorem keepsCharged_execReadConditions (h : Charged d e s) : KeepsCharged d e (execReadConditions s) := by
  unfold execReadConditions
  refine keepsCharged_reportKind h _ _ fun _ _ => ?_
  dsimp only
  split
  · rfl
  · split <;> rfl

theorem keepsCharged_execClearConditions (h : Charged d e s) : KeepsCharged d e (execClearConditions s) :=
  keepsCharged_report h _ _ fun _ f => chargers_serveClearConditions f

/-! #### The whole table -/

/-- Every command keeps the laws of the chargers. -/
theorem keepsCharged_exec (h : Charged d e s) (i : Instr) : KeepsCharged d e (exec i s) := by
  have hwhen : ∀ (c : Prop) [Decidable c] (t : State), Charged d e t →
      KeepsCharged d e (if c then settled t else .next s) :=
    fun c _ t ht => keepsCharged_ite h fun _ => keepsCharged_settled ht
  have hsame : ∀ t : State, t.chargers = s.chargers → Charged d e t := fun t ht => by rw [Charged, ht]; exact h
  cases i with
  | powerOn => exact keepsCharged_next (charged_afterReset d e s _)
  | resetN => exact keepsCharged_execResetN d e s
  | resetRelease => exact keepsCharged_execResetRelease h
  | ready => exact keepsCharged_ite h fun _ => keepsCharged_next h
  | sampleInstant levels =>
    exact keepsCharged_ite h fun _ => keepsCharged_next (charged_sampleInputs levels _ _ (s := sampleTick s) h)
  | slotStart => exact keepsCharged_ite h fun _ => keepsCharged_next h
  | scanCompletion cells => exact keepsCharged_execScanCompletion h cells
  | currentSample amps => exact keepsCharged_execCurrentSample h amps
  | conversionCompletion gateTh gateRef => exact keepsCharged_execConversionCompletion h gateTh gateRef
  | flowPulse => exact keepsCharged_execFlowPulse h
  | flowRest => exact keepsCharged_next h
  | tachEdge atMicros => exact keepsCharged_execTachEdge h atMicros
  | tachTimeout => exact keepsCharged_execTachTimeout h
  | hourRollover p => exact hwhen _ _ (hsame _ (chargers_hourRollover s p))
  | grantCountdown => exact hwhen _ _ (charged_recomputeSurplus h)
  | minuteEvaluation => exact hwhen _ _ h
  | transferOutTimeout c => exact keepsCharged_execTransferOutTimeout h c
  | transferBackTimeout c => exact keepsCharged_execTransferBackTimeout h c
  | rampStep c => exact hwhen _ _ (charged_rampStep h c)
  | holdMinute c => exact hwhen _ _ (charged_holdMinute h c)
  | settleEnd c => exact hwhen _ _ (charged_settleEnd h c)
  | giveUp c => exact keepsCharged_execGiveUp h c
  | ageMinute p => exact keepsCharged_execAgeMinute h p
  | runOnExpiry => exact hwhen _ _ (hsame _ (by simp))
  | lowSpeedExpiry => exact hwhen _ _ (charged_ventFails h)
  | recoveryExpiry => exact hwhen _ _ (hsame _ (chargers_ventRecovers s))
  | purgeEnd => exact hwhen _ _ (hsame _ (by simp))
  | graceExpiry => exact hwhen _ _ (charged_deliverCause (s := s.modPerm _) h _ _)
  | primingEnd => exact hwhen _ _ (hsame _ (chargers_enterDosing s))
  | primeTimeout => exact hwhen _ _ (hsame _ (chargers_closeLine s _))
  | flowStop => exact hwhen _ _ (hsame _ (chargers_closeLine s _))
  | pauseEnd => exact hwhen _ _ (hsame _ (chargers_enterDosing s))
  | closingEnd => exact hwhen _ _ (charged_closingEnd h)
  | manualDoseEnd => exact keepsCharged_execManualDoseEnd h
  | notice => exact keepsCharged_execNotice h
  | logRecord => exact keepsCharged_execLogRecord h
  | logEnd => exact keepsCharged_execLogEnd h
  | messageSent => exact keepsCharged_next h
  | frameReceived byte =>
    exact keepsCharged_ite h fun _ => keepsCharged_next (hsame _ (chargers_completeFrame s byte))
  | unknownKind => exact keepsCharged_execUnknownKind h
  | identify => exact keepsCharged_execIdentify h
  | readStatus => exact keepsCharged_reportKind h _ _ fun _ f => chargers_readStatusReply f
  | setClock => exact keepsCharged_execSetClock h
  | readString => exact keepsCharged_reportKind h _ _ fun _ f => chargers_readStringReply f
  | readCells => exact keepsCharged_reportKind h _ _ fun _ f => chargers_readCellsReply f
  | readTemperatures => exact keepsCharged_execReadTemperatures h
  | readTemperatureDetail => exact keepsCharged_execReadTemperatureDetail h
  | readPlant => exact keepsCharged_execReadPlant h
  | setSetting => exact keepsCharged_serveKind h _ _ fun _ f ht => charged_serveSetSetting ht f
  | storeWriteEnd => exact keepsCharged_ite h fun _ => keepsCharged_next h
  | readSetting => exact keepsCharged_reportKind h _ _ fun _ f => chargers_readSettingReply f
  | submitRound => exact keepsCharged_reportKind h _ _ fun _ f => chargers_serveSubmitRound f
  | cancelRound => exact keepsCharged_serveKind h _ _ fun _ f ht => charged_serveCancelRound ht f
  | readQueue => exact keepsCharged_execReadQueue h
  | readHeld => exact keepsCharged_execReadHeld h
  | readHeldDetail => exact keepsCharged_execReadHeldDetail h
  | supplyGrant => exact keepsCharged_serveKind h _ _ fun _ f ht => charged_serveSupplyGrant ht f
  | claimLine => exact keepsCharged_reportKind h _ _ fun _ f => chargers_serveClaimLine f
  | releaseLine => exact keepsCharged_reportKind h _ _ fun _ f => chargers_serveReleaseLine f
  | manualDose => exact keepsCharged_reportKind h _ _ fun _ f => chargers_serveManualDose f
  | refill => exact keepsCharged_reportKind h _ _ fun _ f => chargers_serveRefill f
  | readWeak => exact keepsCharged_execReadWeak h
  | clearWeak => exact keepsCharged_reportKind h _ _ fun _ f => chargers_serveClearWeak f
  | releaseLock => exact keepsCharged_reportKind h _ _ fun _ f => chargers_serveReleaseLock f
  | setNoticeMaster => exact keepsCharged_reportKind h _ _ fun _ f => chargers_serveSetNoticeMaster f
  | readConditions => exact keepsCharged_execReadConditions h
  | clearConditions => exact keepsCharged_execClearConditions h
  | readLog => exact keepsCharged_reportKind h _ _ fun _ f => chargers_serveReadLog f
  | stopLog => exact keepsCharged_execStopLog h
  | restart => exact keepsCharged_serveKind h _ _ fun _ f ht => charged_serveRestart ht f
  | finalStep => exact keepsCharged_execFinalStep h
  | receivedByte byte =>
    exact keepsCharged_ite h fun _ => keepsCharged_next (hsame _ (chargers_framerByte s byte))

/-- Every step keeps the laws of the chargers. -/
theorem keepsCharged_step (h : Charged d e s) : KeepsCharged d e (step s) := by
  unfold step
  split
  next i rest _ => exact keepsCharged_exec (s := { s with pending := rest }) h i
  next =>
    refine keepsCharged_next ?_
    rcases passTime_cases s with hsame | ⟨-, hmoved⟩
    · rw [hsame]; exact h
    · rw [hmoved]; exact h

end

/-- Settles O54: the two laws are the two uses of what every step keeps. -/
theorem chargersKeepTheirLaws : Obligations.ChargersKeepTheirLaws :=
  ⟨fun s t h hstep => (demandShown_iff t).2 (keepsCharged_step ((demandShown_iff s).1 h) t hstep),
    fun s t h hstep => (chargerOff_iff t).2 (keepsCharged_step ((chargerOff_iff s).1 h) t hstep)⟩

end Sys2Proof.Machine
end

-- ==== Proofs: compensation and setpoints ====
section
/-! PROOFS. The compensation offset, the windows of the setpoints and of their codes, and the float rectifier demand
(O18, O19). -/

namespace Sys2Proof.Machine

/-! ### The compensation offset (R42) -/

/-- The product that the offset rounds: TCOMP times the distance from 25.0 °C. -/
def compProduct (tcomp : Nat) (tc10 : Int) : Int := (tcomp : Int) * (tc10 - 250)

/-- The offset by the sign of the product. -/
theorem compOffset_eq (tcomp : Nat) (tc10 : Int) :
    compOffset tcomp tc10 =
      if 0 ≤ compProduct tcomp tc10 then ((((compProduct tcomp tc10).natAbs + 50) / 100 : Nat) : Int)
      else -((((compProduct tcomp tc10).natAbs + 50) / 100 : Nat) : Int) := by
  unfold compOffset compProduct; dsimp only
  split
  next hneg => rw [if_neg (by omega)]
  next hpos => rw [if_pos (by omega)]

/-- The offset of a product that is not negative. -/
theorem compOffset_of_nonneg (tcomp : Nat) (tc10 : Int) (h : 0 ≤ compProduct tcomp tc10) :
    compOffset tcomp tc10 = ((((compProduct tcomp tc10).natAbs + 50) / 100 : Nat) : Int) := by
  rw [compOffset_eq, if_pos h]

/-- The offset of a product that is not positive. -/
theorem compOffset_of_nonpos (tcomp : Nat) (tc10 : Int) (h : compProduct tcomp tc10 ≤ 0) :
    compOffset tcomp tc10 = -((((compProduct tcomp tc10).natAbs + 50) / 100 : Nat) : Int) := by
  rw [compOffset_eq]
  split
  next hpos =>
    have hzero : compProduct tcomp tc10 = 0 := by omega
    rw [hzero]; decide
  next => rfl

/-- In the settings' ranges the product is within 12,500 either way. -/
theorem compProduct_bound (tcomp : Nat) (tc10 : Int) (htcomp : tcomp ≤ 50) (hlow : 0 ≤ tc10)
    (hhigh : tc10 ≤ 500) : (compProduct tcomp tc10).natAbs ≤ 12500 := by
  have hdistance : (tc10 - 250).natAbs ≤ 250 := by omega
  have hmagnitude : (compProduct tcomp tc10).natAbs = tcomp * (tc10 - 250).natAbs := by
    rw [compProduct, Int.natAbs_mul, Int.natAbs_natCast]
  rw [hmagnitude]
  exact Nat.mul_le_mul htcomp hdistance

/-- Settles O18: the offset's sign is that of the product, and its magnitude the product's, rounded. -/
theorem compensationOffset : Obligations.CompensationOffset := by
  refine ⟨compOffset_eq, fun tc10 => ?_, fun tcomp tc10 htcomp hlow hhigh => ?_, fun tcomp tc10 hhot => ?_,
    fun tcomp tc10 hcold => ?_, by decide, by decide, by decide, by decide, by decide, by decide⟩
  · have hzero : compProduct 0 tc10 = 0 := by simp [compProduct]
    rw [compOffset_of_nonneg 0 tc10 hzero.ge, hzero]; decide
  · have hbound := compProduct_bound tcomp tc10 htcomp hlow hhigh
    rw [compOffset_eq]
    split <;> omega
  · have hpos : 0 ≤ compProduct tcomp tc10 := mul_nonneg (Int.natCast_nonneg tcomp) (by omega)
    rw [compOffset_of_nonneg tcomp tc10 hpos]
    exact Int.natCast_nonneg _
  · have hneg : compProduct tcomp tc10 ≤ 0 := mul_nonpos_of_nonneg_of_nonpos (Int.natCast_nonneg tcomp) (by omega)
    rw [compOffset_of_nonpos tcomp tc10 hneg]
    exact neg_nonpos_of_nonneg (Int.natCast_nonneg _)

/-! ### Setpoints and codes (R43, R44) -/

/-- A setpoint lies in its window, whatever its base and offset. -/
theorem cellSetpoint_mem (base : Nat) (offset : Int) (lo hi : Nat) (h : lo ≤ hi) :
    lo ≤ cellSetpoint base offset lo hi ∧ cellSetpoint base offset lo hi ≤ hi := by
  unfold cellSetpoint clampInt
  omega

/-- A setpoint does not fall when its base and its window rise. -/
theorem cellSetpoint_mono {base base' : Nat} (offset : Int) {lo hi lo' hi' : Int} (hbase : base ≤ base')
    (hlo : lo ≤ lo') (hhi : hi ≤ hi') : cellSetpoint base offset lo hi ≤ cellSetpoint base' offset lo' hi' := by
  unfold cellSetpoint clampInt
  omega

/-- A higher cell demand has no lower code. -/
theorem cellCode_mono {v w : Nat} (h : v ≤ w) : cellCode v ≤ cellCode w := by
  unfold cellCode demandCode
  omega

/-- The codes of a window's setpoints lie between those of its ends. -/
theorem cellCode_mem {v lo hi : Nat} (h : lo ≤ v ∧ v ≤ hi) : cellCode lo ≤ cellCode v ∧ cellCode v ≤ cellCode hi :=
  ⟨cellCode_mono h.1, cellCode_mono h.2⟩

/-- The equalise setpoint's window. -/
theorem compRecord_eqMv_mem (s : State) (p : Pos) : 2250 ≤ (compRecord s p).eqMv ∧ (compRecord s p).eqMv ≤ 2550 :=
  cellSetpoint_mem _ _ 2250 2550 (by decide)

/-- The float setpoint's window. -/
theorem compRecord_floatMv_mem (s : State) (p : Pos) :
    2150 ≤ (compRecord s p).floatMv ∧ (compRecord s p).floatMv ≤ 2350 :=
  cellSetpoint_mem _ _ 2150 2350 (by decide)

/-! ### The float rectifier demand (R48) -/

/-- Its code lies between those of the float setpoint's window. -/
theorem floatCode_mem (s : State) : cellCode 2150 ≤ floatCode s ∧ floatCode s ≤ cellCode 2350 :=
  cellCode_mem (cellSetpoint_mem _ _ 2150 2350 (by decide))

/-- A computation that gives the demand a value, with its computed flag set. -/
theorem computeFloat_of_nextFloat (s : State) (code : Nat) (h : nextFloat s = code) :
    computeFloat s = { s with out := { s.out with floatDemand := code, floatComputed := true } } := by
  rw [computeFloat_eq, h]

/-- Settles O19: the clamps give the windows, and the demand's next value tells the three computations apart. -/
theorem setpointsStayInTheirWindows : Obligations.SetpointsStayInTheirWindows := by
  refine ⟨fun s p => ?_, fun s => ?_⟩
  · obtain ⟨heqLow, heqHigh⟩ := compRecord_eqMv_mem s p
    obtain ⟨hfloatLow, hfloatHigh⟩ := compRecord_floatMv_mem s p
    obtain ⟨heqCodeLow, heqCodeHigh⟩ := cellCode_mem (compRecord_eqMv_mem s p)
    obtain ⟨hfloatCodeLow, hfloatCodeHigh⟩ := cellCode_mem (compRecord_floatMv_mem s p)
    exact ⟨heqLow, heqHigh, hfloatLow, hfloatHigh, heqCodeLow, heqCodeHigh, hfloatCodeLow, hfloatCodeHigh,
      fun hbase => cellSetpoint_mono _ hbase (by decide) (by decide)⟩
  · obtain ⟨hlow, hhigh⟩ := floatCode_mem s
    refine ⟨hlow, hhigh, fun hfirst => ?_, fun _ hfar => ?_, fun hcomputed hbelow habove => ?_⟩
    · exact computeFloat_of_nextFloat s _ (if_neg fun h => by simp [hfirst] at h)
    · exact computeFloat_of_nextFloat s _ (if_neg fun ⟨_, hbelow, habove⟩ => by omega)
    · rw [computeFloat_of_nextFloat s s.out.floatDemand (if_pos ⟨hcomputed, hbelow, habove⟩), ← hcomputed]

end Sys2Proof.Machine
end

-- ==== Proofs: the tests of a window's end and the Weak Cell List ====
section
/-! PROOFS. Runaway, flatness, and the Weak Cell List's answers to an offer (O32). -/

namespace Sys2Proof.Machine

/-! ### Runaway and flatness (R51, R52) -/

/-- When a window shows a runaway, and by which rise. -/
theorem runawayRise_eq_some_iff (s : State) (x : Context) (avg r : Nat) :
    runawayRise s x avg = some r ↔
      ∃ (prev : Nat) (t₀ t : Int), x.prevAvg = some prev ∧ x.winTemp = some t₀ ∧ pilotReading s x.string = some t
        ∧ prev + s.cfg.flatDelta < avg ∧ (s.cfg.runawayDt : Int) ≤ t - t₀ ∧ r = (t - t₀).toNat := by
  cases hprev : x.prevAvg with
  | none => simp [runawayRise, hprev]
  | some prev =>
    cases ht₀ : x.winTemp with
    | none => simp [runawayRise, hprev, ht₀]
    | some t₀ =>
      cases ht : pilotReading s x.string with
      | none => simp [runawayRise, hprev, ht₀, ht]
      | some t => simp [runawayRise, hprev, ht₀, ht, and_assoc, eq_comm]

/-- The flat count after a window with a previous average: counted up within FLAT_DELTA either way. -/
theorem flatAfter_of_prev (s : State) (x : Context) (avg prev : Nat) (h : x.prevAvg = some prev) :
    flatAfter s x avg = if ((avg : Int) - prev).natAbs ≤ s.cfg.flatDelta then x.flat + 1 else 0 := by
  have hnear : (avg ≤ prev + s.cfg.flatDelta ∧ prev ≤ avg + s.cfg.flatDelta) ↔
      ((avg : Int) - prev).natAbs ≤ s.cfg.flatDelta := by omega
  simp only [flatAfter, h, hnear]

/-- Without a previous average the flat count is left alone. -/
theorem flatAfter_of_none (s : State) (x : Context) (avg : Nat) (h : x.prevAvg = none) :
    flatAfter s x avg = x.flat := by
  simp [flatAfter, h]

/-! ### The Weak Cell List's answers (R118, R167) -/

/-- An entry for a string and cell names both. -/
theorem isFor_iff (e : WeakEntry) (p : Pos) (cell : Nat) :
    e.isFor p cell = true ↔ e.string = p ∧ e.cell = cell := by
  simp [WeakEntry.isFor]

/-- The list holds an entry for a string and cell. -/
theorem any_isFor_iff (l : List WeakEntry) (p : Pos) (cell : Nat) :
    l.any (·.isFor p cell) = true ↔ ∃ e ∈ l, e.string = p ∧ e.cell = cell := by
  simp [isFor_iff]

/-- An entry with a new deficit and one more window, which saturates. -/
def WeakEntry.again (e : WeakEntry) (deficit : Nat) : WeakEntry :=
  { e with deficit := deficit, windows := min 255 (e.windows + 1) }

/-- An offer that the list holds already. -/
theorem weakOffer_of_held (s : State) (p : Pos) (cell deficit : Nat)
    (h : ∃ e ∈ s.weak.entries, e.string = p ∧ e.cell = cell) :
    weakOffer s p cell deficit =
      ({ s with weak :=
          { entries := s.weak.entries.map fun e => if e.string = p ∧ e.cell = cell then e.again deficit else e
            gen := (s.weak.gen + 1) % 256 } }, .updated) := by
  unfold weakOffer
  rw [if_pos ((any_isFor_iff _ p cell).2 h)]
  simp only [isFor_iff]
  rfl

/-- A state with a new entry on the Weak Cell List (R167). -/
def weakAdded (s : State) (p : Pos) (cell deficit : Nat) : State :=
  { s with weak :=
      { entries := s.weak.entries ++
          [{ string := p, cell := cell, first := s.stamp, deficit := deficit, windows := 1 }]
        gen := (s.weak.gen + 1) % 256 } }

section
variable (s : State) (p : Pos) (cell deficit : Nat) (hnew : ∀ e ∈ s.weak.entries, e.string = p → e.cell ≠ cell)
include hnew

/-- The list holds no entry for a cell that no entry names. -/
theorem not_any_isFor : ¬ s.weak.entries.any (·.isFor p cell) = true := by
  rw [any_isFor_iff]
  rintro ⟨e, hmem, hstring, hcell⟩
  exact hnew e hmem hstring hcell

/-- An offer of a new cell to a list with a free place. -/
theorem weakOffer_of_new (hfree : s.weak.entries.length < 32) :
    weakOffer s p cell deficit =
      ((weakAdded s p cell deficit).event .weakCell p.num cell none, .fresh) := by
  unfold weakOffer weakAdded
  rw [if_neg (not_any_isFor s p cell hnew), if_pos (by simpa [Config.weakCap] using hfree)]

/-- An offer of a new cell to a full list. -/
theorem weakOffer_of_full (hfull : 32 ≤ s.weak.entries.length) :
    weakOffer s p cell deficit = (s.event .weakCell p.num 255 none, .full) := by
  unfold weakOffer
  rw [if_neg (not_any_isFor s p cell hnew), if_neg (by simpa [Config.weakCap] using hfull)]
  rfl

end

/-- Settles O32: the two tests read off their definitions, and the three answers with the event on a clear latch. -/
theorem flatnessAndRunaway : Obligations.FlatnessAndRunaway := by
  refine ⟨fun s x avg => ⟨runawayRise_eq_some_iff s x avg, flatAfter_of_none s x avg, fun prev hprev hnear => ?_,
    fun prev hprev hfar => ?_⟩, fun s p cell deficit => ⟨weakOffer_of_held s p cell deficit,
    fun hnew hfree hclear => ?_, fun hnew hfull hclear => ?_⟩⟩
  · rw [flatAfter_of_prev s x avg prev hprev, if_pos hnear]
  · rw [flatAfter_of_prev s x avg prev hprev, if_neg (not_le.2 hfar)]
  · rw [weakOffer_of_new s p cell deficit hnew hfree,
      event_of_clear (weakAdded s p cell deficit) .weakCell _ _ _ hclear]
    rfl
  · rw [weakOffer_of_full s p cell deficit hnew hfull, event_of_clear _ .weakCell _ _ _ hclear]
    rfl

end Sys2Proof.Machine
end

-- ==== Proofs: charge and the Ah limit ====
section
/-! PROOFS. What a current sample adds to a channel's charge and window, the end of an equalise at the Ah limit, and the
second that makes them for both channels (O16). -/

namespace Sys2Proof.Machine

open Sys2Proof.Safety

/-! ### What a sample adds (R49, R50, R101) -/

/-- A context with a sample counted: in RAMP and HOLD to the charge, in HOLD to the window too. -/
def chargedContext (st : Stage) (v : Nat) (x : Context) : Context :=
  { x with
    charge := if st = .ramp ∨ st = .hold then min 4294967295 (x.charge + v) else x.charge
    winSum := if st = .hold then x.winSum + v else x.winSum
    winCount := if st = .hold then x.winCount + 1 else x.winCount }

/-- A channel with its string's sample counted. -/
def chargedChannel (ch : Channel) (amps : Eight Int) : Channel :=
  { ch with ctx := ch.ctx.map fun x => chargedContext ch.stage (counted (amps.get x.string)) x }

/-- A state with one channel's sample counted. -/
def chargeCounted (s : State) (c : Ch) (amps : Eight Int) : State :=
  { s with chan := s.chan.set c (chargedChannel (s.chan.get c) amps) }

/-- Outside RAMP and HOLD a sample adds nothing. -/
theorem chargedContext_of_not_charging {st : Stage} (v : Nat) (x : Context) (hramp : st ≠ .ramp) (hhold : st ≠ .hold) :
    chargedContext st v x = x := by
  simp [chargedContext, hramp, hhold]

/-- In RAMP a sample adds to the charge alone. -/
theorem chargedContext_of_ramp (v : Nat) (x : Context) (h : x.charge + v ≤ 4294967295) :
    chargedContext .ramp v x = { x with charge := x.charge + v } := by
  simp [chargedContext, h]

/-- In HOLD a sample adds to the charge and to the window. -/
theorem chargedContext_of_hold (v : Nat) (x : Context) (h : x.charge + v ≤ 4294967295) :
    chargedContext .hold v x =
      { x with charge := x.charge + v, winSum := x.winSum + v, winCount := x.winCount + 1 } := by
  simp [chargedContext, h]

/-- The charge after a sample in RAMP or HOLD. -/
theorem chargedContext_charge {st : Stage} (v : Nat) (x : Context) (hst : st = .ramp ∨ st = .hold) :
    (chargedContext st v x).charge = min 4294967295 (x.charge + v) := if_pos hst

/-- Writing a channel back as it stands changes nothing. -/
theorem two_set_get {α : Type} (t : Two α) (c : Ch) : t.set c (t.get c) = t := by cases c <;> rfl

/-- A channel's sample in RAMP or HOLD is counted, and the Ah limit then finishes the equalise (R101). -/
theorem chargeSample_of_charging (s : State) (c : Ch) (amps : Eight Int) (x : Context)
    (hx : (s.chan.get c).ctx = some x) (hst : (s.chan.get c).stage = .ramp ∨ (s.chan.get c).stage = .hold) :
    chargeSample s c amps =
      if x.ahLimit * 36000 ≤ (chargedContext (s.chan.get c).stage (counted (amps.get x.string)) x).charge then
        finish (chargeCounted s c amps) c .ahLimit
      else chargeCounted s c amps := by
  have hcharging : (((s.chan.get c).stage == .ramp) || ((s.chan.get c).stage == .hold)) = true := by simpa using hst
  have hcounted : s.modCtx c (fun _ => chargedContext (s.chan.get c).stage (counted (amps.get x.string)) x) =
      chargeCounted s c amps := by
    simp [State.modCtx, State.modChan, chargeCounted, chargedChannel, hx]
  have hcontext : chargedContext (s.chan.get c).stage (counted (amps.get x.string)) x =
      { x with
        charge := satAdd Config.max32 x.charge (clampInt 0 1000 (amps.get x.string)).toNat
        winSum := if (s.chan.get c).stage == .hold then x.winSum + (clampInt 0 1000 (amps.get x.string)).toNat
          else x.winSum
        winCount := if (s.chan.get c).stage == .hold then x.winCount + 1 else x.winCount } := by
    simp [chargedContext, hst, counted, clampInt, satAdd, Config.max32]
  rw [← hcounted, hcontext]
  unfold chargeSample
  simp only [hx, hcharging, if_true]

/-- A sample that leaves the charge below the Ah limit is counted, and nothing more (R101). -/
theorem chargeSample_of_below (s : State) (c : Ch) (amps : Eight Int)
    (hbelow : ∀ x, (s.chan.get c).ctx = some x → (s.chan.get c).stage = .ramp ∨ (s.chan.get c).stage = .hold →
      (chargedContext (s.chan.get c).stage (counted (amps.get x.string)) x).charge < x.ahLimit * 36000) :
    chargeSample s c amps = chargeCounted s c amps := by
  cases hx : (s.chan.get c).ctx with
  | none =>
    have hsame : chargedChannel (s.chan.get c) amps = s.chan.get c := by
      rw [chargedChannel, hx, Option.map_none, ← hx]
    rw [chargeCounted, hsame, two_set_get]
    simp [chargeSample, hx]
  | some x =>
    by_cases hst : (s.chan.get c).stage = .ramp ∨ (s.chan.get c).stage = .hold
    · rw [chargeSample_of_charging s c amps x hx hst, if_neg (not_le.2 (hbelow x hx hst))]
    · obtain ⟨hramp, hhold⟩ := not_or.1 hst
      have hsame : chargedChannel (s.chan.get c) amps = s.chan.get c := by
        simp [chargedChannel, chargedContext_of_not_charging, hramp, hhold]
      rw [chargeSample_of_not_charging s c amps hramp hhold, chargeCounted, hsame, two_set_get]

/-! ### The end of an equalise (R103, R63, R91) -/

/-- A direct event in SETTLE writes the float setpoint (R45, R47). -/
theorem writeDirect_of_settle (s : State) (c : Ch) (x : Context) (hx : (s.chan.get c).ctx = some x)
    (hstage : (s.chan.get c).stage = .settle) :
    writeDirect s c =
      writeDemand s c (cellCode (s.comp.get x.string).floatMv) (some (s.comp.get x.string).floatMv) := by
  simp [writeDirect, hx, hstage, cellDemand]

/-- A fan that is wanted makes nothing due: only the fan's stop makes a failed vent OK (R121, R123). -/
theorem recomputeFan_due_of_wanted (s : State) (h : fanWanted s = true) : (recomputeFan s).due = s.due := by
  unfold recomputeFan ventMonitor; dsimp only
  rw [h]
  split
  · rfl
  · simp only [if_true]
    split <;> rfl

/-- While a channel gasses a stage-change delivery makes nothing due: the fan is wanted (R121). -/
theorem stageDelivered_due_of_gassing (s : State) (st : Stage) (hst : st ≠ .idle)
    (h : 0 < stageCount s Stage.gasses) : (stageDelivered s st).due = s.due := by
  unfold stageDelivered; dsimp only
  rw [if_neg hst]
  exact recomputeFan_due_of_wanted (s.modPerm _) (by simp [fanWanted, State.modPerm, h])

/-- A channel in a gassing stage is counted. -/
theorem stageCount_pos (s : State) (f : Stage → Bool) (c : Ch) (h : f (s.chan.get c).stage = true) :
    0 < stageCount s f := by
  cases c with
  | a =>
    have ha : f s.chan.a.stage = true := h
    simp [stageCount, ha]
  | b =>
    have hb : f s.chan.b.stage = true := h
    simp [stageCount, hb]

/-- While a channel gasses a stage-change delivery changes Site Permissions and the fan alone (R121, R126). -/
theorem stageDelivered_of_gassing (s : State) (st : Stage) (hst : st ≠ .idle) (h : 0 < stageCount s Stage.gasses) :
    ∃ perm fan, stageDelivered s st = { s with perm := perm, out := { s.out with fan := fan } } := by
  have hframe := stageDelivered_frame s st
  have hout := stageDelivered_outputs s st
  rw [stageDelivered_due_of_gassing s st hst h] at hframe
  generalize stageDelivered s st = t at hframe hout
  have hfan : t.out = { s.out with fan := t.out.fan } := by rw [← hout]
  exact ⟨t.perm, t.out.fan, by rw [← hfan]; exact hframe.symm⟩

/-- A state with an equalise finished on a channel, before Site Permissions takes the delivery: SETTLE with its timer
at 0 and the float setpoint's demand, the final cell demand and the outcome, and the history update. -/
def finishedRound (s : State) (c : Ch) (x : Context) (o : Outcome) : State :=
  { s with
    chan := s.chan.set c
      { s.chan.get c with
        stage := .settle
        ctx := (some { x with stageTimer := 0, finalCell := (s.present.get c).cell, outcome := some o }) }
    hist := s.hist.set x.string { s.hist.get x.string with hours := 0, throughput := 0, lastEq := some s.stamp }
    sit := s.sit.set x.string { s.sit.get x.string with hourSec := 0, due := false }
    present := s.present.set c
      { code := cellCode (s.comp.get x.string).floatMv, cell := some (s.comp.get x.string).floatMv }
    out := { s.out with charger := (s.out.charger.set c
      { s.out.charger.get c with demand := cellCode (s.comp.get x.string).floatMv }) } }

/-- An equalise that finishes in RAMP or HOLD, up to the delivery of its stage change. -/
theorem finish_eq_delivered (s : State) (c : Ch) (x : Context) (o : Outcome) (hx : (s.chan.get c).ctx = some x)
    (hst : (s.chan.get c).stage = .ramp ∨ (s.chan.get c).stage = .hold) :
    finish s c o = stageDelivered (finishedRound s c x o) .settle := by
  have hstring : heldString s c = some x.string := by simp [heldString, hx]
  have hkept : keepFinalCell s c = s.modCtx c fun y => { y with finalCell := (s.present.get c).cell } := by
    rcases hst with hst | hst <;> simp [keepFinalCell, hst]
  unfold finish setStage; rw [hstring]; dsimp only
  generalize hu : State.modCtx (State.modChan _ c _) c _ = u
  have hfinishing : u = { finishedRound s c x o with present := s.present, out := s.out } := by
    rw [← hu, hkept]
    simp [State.modCtx, State.modChan, historyUpdate, State.modHist, State.modSit, hx, finishedRound, State.stamp]
  rw [hfinishing, writeDirect_of_settle _ c
    { x with stageTimer := 0, finalCell := (s.present.get c).cell, outcome := some o }
    (by simp [finishedRound]) (by simp [finishedRound])]
  rfl

/-- An equalise that finishes in RAMP or HOLD: Site Permissions and the fan besides (R103, R63, R91). -/
theorem finish_eq (s : State) (c : Ch) (x : Context) (o : Outcome) (hx : (s.chan.get c).ctx = some x)
    (hst : (s.chan.get c).stage = .ramp ∨ (s.chan.get c).stage = .hold) :
    ∃ perm fan, finish s c o =
      { finishedRound s c x o with perm := perm, out := { (finishedRound s c x o).out with fan := fan } } := by
  rw [finish_eq_delivered s c x o hx hst]
  exact stageDelivered_of_gassing _ .settle (by decide) (stageCount_pos _ _ c (by simp [finishedRound, Stage.gasses]))

/-- A sample that brings the charge to the Ah limit finishes the equalise with AH_LIMIT (R101, R103). -/
theorem chargeSample_of_limit (s : State) (c : Ch) (amps : Eight Int) (x : Context)
    (hx : (s.chan.get c).ctx = some x) (hst : (s.chan.get c).stage = .ramp ∨ (s.chan.get c).stage = .hold)
    (hlimit : x.ahLimit * 36000 ≤ (chargedContext (s.chan.get c).stage (counted (amps.get x.string)) x).charge) :
    ∃ perm fan, chargeSample s c amps =
      { finishedRound (chargeCounted s c amps) c
          (chargedContext (s.chan.get c).stage (counted (amps.get x.string)) x) .ahLimit with
        perm := perm
        out := { (finishedRound (chargeCounted s c amps) c
          (chargedContext (s.chan.get c).stage (counted (amps.get x.string)) x) .ahLimit).out with fan := fan } } := by
  rw [chargeSample_of_charging s c amps x hx hst, if_pos hlimit]
  exact finish_eq (chargeCounted s c amps) c _ .ahLimit (by simp [chargeCounted, chargedChannel, hx])
    (by simpa [chargeCounted, chargedChannel] using hst)

/-! ### The second that makes the samples (R23, R92) -/

/-- A sample clamped at 200.0 A counts as the sample itself (R23, R49). -/
theorem counted_clampedAmps (dA : Eight Int) (p : Pos) : counted ((clampedAmps dA).get p) = counted (dA.get p) := by
  rw [clampedAmps, eight_get_of, currentRec_eq]
  unfold counted; dsimp only
  omega

/-- A second and its sample together, for a context (R92, R49, R50). -/
theorem chargedContext_tickContext (st : Stage) (dA : Int) (x : Context) :
    chargedContext st (counted dA) (tickContext st x) = sampledContext st dA x := rfl

/-- A second and its sample together, for a channel. -/
theorem chargedChannel_tickChannel (ch : Channel) (dA : Eight Int) :
    chargedChannel (tickChannel ch) (clampedAmps dA) = sampledChannel ch dA := by
  have hctx : (ch.ctx.map (tickContext ch.stage)).map (fun x =>
      chargedContext ch.stage (counted ((clampedAmps dA).get x.string)) x) =
      ch.ctx.map fun x => sampledContext ch.stage (dA.get x.string) x := by
    rw [Option.map_map]
    congr 1
    funext x
    simp only [Function.comp_apply, counted_clampedAmps]
    exact chargedContext_tickContext _ _ _
  exact congrArg (fun k => { ch with ctx := k, call := ch.call.map tickCall }) hctx

/-- A channel in neither RAMP nor HOLD counts its second alone. -/
theorem sampledChannel_of_not_charging (ch : Channel) (dA : Eight Int) (hramp : ch.stage ≠ .ramp)
    (hhold : ch.stage ≠ .hold) : sampledChannel ch dA = tickChannel ch := by
  rw [← chargedChannel_tickChannel]
  have hsame : (fun x => chargedContext (tickChannel ch).stage (counted ((clampedAmps dA).get x.string)) x) = id := by
    funext x
    exact chargedContext_of_not_charging _ x hramp hhold
  rw [chargedChannel, hsame, Option.map_id_fun, id]

/-- The channels after a second with one of them written, when the other integrates no charge. -/
theorem secondSampled_chan_set (s : State) (dA : Eight Int) (c : Ch) (ch : Channel)
    (hramp : (s.chan.get c.other).stage ≠ .ramp) (hhold : (s.chan.get c.other).stage ≠ .hold) :
    (secondSampled s dA).chan.set c ch =
      (s.chan.set c.other (sampledChannel (s.chan.get c.other) dA)).set c ch := by
  rw [sampledChannel_of_not_charging _ dA hramp hhold]
  cases c <;> rfl

/-- Of a history a sample changes the throughput alone (R56): what a history update leaves of it is what stood. -/
theorem sampledHistory_throughput (s : State) (dA : Eight Int) (p : Pos) (hours throughput : Nat)
    (lastEq : Option Stamp) :
    { sampledHistory s dA p with hours := hours, throughput := throughput, lastEq := lastEq } =
      { s.hist.get p with hours := hours, throughput := throughput, lastEq := lastEq } := by
  unfold sampledHistory
  split <;> rfl

section
variable (s : State) (dA : Eight Int) (c : Ch) (p : Pos)

/-- The channels after one channel's sample in a second. -/
theorem chargeCounted_chan : (chargeCounted (secondSampled s dA) c (clampedAmps dA)).chan =
    (secondSampled s dA).chan.set c (sampledChannel (s.chan.get c) dA) := by
  rw [chargeCounted, secondSampled_chan, chargedChannel_tickChannel]

/-- The histories stand as the samples left them. -/
theorem chargeCounted_hist :
    (chargeCounted (secondSampled s dA) c (clampedAmps dA)).hist.get p = sampledHistory s dA p := eight_get_of _ p

/-- The situations stand as the second and its samples left them. -/
theorem chargeCounted_sit :
    (chargeCounted (secondSampled s dA) c (clampedAmps dA)).sit.get p = sampledSituation s dA p := eight_get_of _ p

end

/-- The samples of a second that bring no charge to its limit. -/
theorem sampleCurrents_of_below (s : State) (dA : Eight Int) (hundue : NoneDue s dA)
    (hbelow : ∀ (d : Ch) (y : Context), (s.chan.get d).ctx = some y →
      (s.chan.get d).stage = .ramp ∨ (s.chan.get d).stage = .hold →
      (sampledContext (s.chan.get d).stage (dA.get y.string) y).charge < y.ahLimit * 36000) :
    sampleCurrents (tickSecond s) dA =
      { secondSampled s dA with chan := ⟨sampledChannel s.chan.a dA, sampledChannel s.chan.b dA⟩ } := by
  have hcounts : ∀ (t : State) (c : Ch), t.chan.get c = tickChannel (s.chan.get c) →
      chargeSample t c (clampedAmps dA) = chargeCounted t c (clampedAmps dA) := by
    intro t c ht
    refine chargeSample_of_below t c _ fun z hz hst => ?_
    rw [ht] at hz hst ⊢
    obtain ⟨y, hy, rfl⟩ := Option.map_eq_some_iff.1 hz
    rw [counted_clampedAmps]
    exact hbelow c y hy hst
  have ha : chargedChannel (tickChannel s.chan.a) (clampedAmps dA) = sampledChannel s.chan.a dA :=
    chargedChannel_tickChannel _ _
  have hb : chargedChannel (tickChannel s.chan.b) (clampedAmps dA) = sampledChannel s.chan.b dA :=
    chargedChannel_tickChannel _ _
  rw [sampleCurrents_of_noneDue s dA hundue, hcounts _ .a (secondSampled_chan s dA .a), hcounts _ .b rfl, ← ha, ← hb]
  rfl

/-- When the other channel integrates no charge, the samples of a second are one channel's. -/
theorem chargeSample_both (s : State) (c : Ch) (amps : Eight Int) (hramp : (s.chan.get c.other).stage ≠ .ramp)
    (hhold : (s.chan.get c.other).stage ≠ .hold)
    (hkept : (chargeSample s c amps).chan.get c.other = s.chan.get c.other) :
    chargeSample (chargeSample s .a amps) .b amps = chargeSample s c amps := by
  cases c with
  | a =>
    exact chargeSample_of_not_charging _ .b amps (by rw [show Ch.b = Ch.other .a from rfl, hkept]; exact hramp)
      (by rw [show Ch.b = Ch.other .a from rfl, hkept]; exact hhold)
  | b => rw [chargeSample_of_not_charging s .a amps hramp hhold]

/-- A channel is not the other one. -/
theorem other_ne (c : Ch) : c.other ≠ c := by cases c <;> decide

/-- The samples of a second that bring one channel's charge to its limit, while the other integrates none. -/
theorem sampleCurrents_of_limit (s : State) (dA : Eight Int) (c : Ch) (x : Context) (hundue : NoneDue s dA)
    (hx : (s.chan.get c).ctx = some x) (hst : (s.chan.get c).stage = .ramp ∨ (s.chan.get c).stage = .hold)
    (hramp : (s.chan.get c.other).stage ≠ .ramp) (hhold : (s.chan.get c.other).stage ≠ .hold)
    (hlimit : x.ahLimit * 36000 ≤ (sampledContext (s.chan.get c).stage (dA.get x.string) x).charge) :
    ∃ perm fan, sampleCurrents (tickSecond s) dA =
      { finishedRound (chargeCounted (secondSampled s dA) c (clampedAmps dA)) c
          (sampledContext (s.chan.get c).stage (dA.get x.string) x) .ahLimit with
        perm := perm
        out := { (finishedRound (chargeCounted (secondSampled s dA) c (clampedAmps dA)) c
          (sampledContext (s.chan.get c).stage (dA.get x.string) x) .ahLimit).out with fan := fan } } := by
  have hstage : ∀ d, ((secondSampled s dA).chan.get d).stage = (s.chan.get d).stage := fun d => by
    rw [secondSampled_chan]; rfl
  have hticked : ((secondSampled s dA).chan.get c).ctx = some (tickContext (s.chan.get c).stage x) := by
    rw [secondSampled_chan, tickChannel, hx]; rfl
  have hsampled : chargedContext ((secondSampled s dA).chan.get c).stage
      (counted ((clampedAmps dA).get (tickContext (s.chan.get c).stage x).string))
      (tickContext (s.chan.get c).stage x) =
      sampledContext (s.chan.get c).stage (dA.get x.string) x := by
    rw [hstage, counted_clampedAmps]; rfl
  obtain ⟨perm, fan, hfinished⟩ := chargeSample_of_limit (secondSampled s dA) c (clampedAmps dA) _ hticked
    (by rwa [hstage]) (by rw [hsampled]; exact hlimit)
  rw [hsampled] at hfinished
  refine ⟨perm, fan, ?_⟩
  rw [sampleCurrents_of_noneDue s dA hundue, chargeSample_both _ c _ (by rwa [hstage]) (by rwa [hstage]), hfinished]
  rw [hfinished]
  simp [finishedRound, chargeCounted, other_ne]

/-- A second whose samples are taken into a settled state. -/
theorem exec_currentSample (s : State) (dA : Eight Int) (hphase : s.phase ≠ .held)
    (hsettled : Settled (sampleCurrents (tickSecond s) dA)) :
    exec (.currentSample dA) s = .next (sampleCurrents (tickSecond s) dA) := by
  show execCurrentSample dA s = _
  rw [execCurrentSample, if_pos (running_of_phase s hphase)]
  exact settled_of_settled _ hsettled

/-- Settles O16: the sample's three cases by stage, the finish at the limit, and the second with each. -/
theorem chargeIsIntegrated : Obligations.ChargeIsIntegrated := by
  intro s c dA x v hx hv hmax
  have hcounted : counted (dA.get x.string) = v := hv.symm
  have hcharge : (s.chan.get c).stage = .ramp ∨ (s.chan.get c).stage = .hold →
      (chargedContext (s.chan.get c).stage v x).charge = x.charge + v := fun hst => by
    rw [chargedContext_charge v x hst, min_eq_right hmax]
  have hbelow : x.charge + v < x.ahLimit * 36000 → chargeSample s c dA =
      { s with chan := s.chan.set c { s.chan.get c with ctx := some (chargedContext (s.chan.get c).stage v x) } } := by
    intro hlimit
    rw [chargeSample_of_below s c dA fun y hy hst => ?_, chargeCounted, chargedChannel, hx, Option.map_some,
      hcounted]
    obtain rfl := Option.some.inj (hx.symm.trans hy)
    rwa [hcounted, hcharge hst]
  refine ⟨fun hst hlimit => ?_, fun hst hlimit => ?_, chargeSample_of_not_charging s c dA, fun hst hlimit => ?_,
    fun hphase hsettled hundue => ⟨fun hall => ?_, fun hst hramp hhold hlimit => ?_⟩⟩
  · rw [hbelow hlimit, hst, chargedContext_of_ramp v x hmax]
  · rw [hbelow hlimit, hst, chargedContext_of_hold v x hmax]
  · obtain ⟨perm, fan, hfinished⟩ := chargeSample_of_limit s c dA x hx hst (by
      rw [hcounted, hcharge hst]; exact hlimit)
    rw [hfinished, hcounted]
    have hstring : (chargedContext (s.chan.get c).stage v x).string = x.string := rfl
    simp only [finishedRound, chargeCounted, two_get_set_same, hstring, eight_get_set_same, Option.map_some,
      hcharge hst]
    exact ⟨trivial, trivial, trivial, trivial, trivial⟩
  · have hsample := sampleCurrents_of_below s dA hundue hall
    refine ⟨_, exec_currentSample s dA hphase (by rw [hsample]; exact hsettled), ?_⟩
    rw [hsample]
    exact ⟨fun p => eight_get_of _ p, fun p => ⟨eight_get_of _ p, eight_get_of _ p⟩, fun d => by cases d <;> rfl, rfl⟩
  · obtain ⟨perm, fan, hsample⟩ := sampleCurrents_of_limit s dA c x hundue hx hst hramp hhold
      (by rw [← chargedContext_tickContext, hcounted]; exact hlimit.trans (hcharge hst).ge)
    refine ⟨_, exec_currentSample s dA hphase (by rw [hsample]; exact hsettled), ?_⟩
    rw [hsample]
    have hstring : (sampledContext (s.chan.get c).stage (dA.get x.string) x).string = x.string := rfl
    refine ⟨?_, ?_, ?_, fun p hp => ⟨(eight_get_set_other _ _ _ _ hp).trans (chargeCounted_hist s dA c p),
      (eight_get_set_other _ _ _ _ hp).trans (chargeCounted_sit s dA c p)⟩, rfl, rfl, rfl⟩
    · simp only [finishedRound, chargeCounted_chan, two_get_set_same, two_set_set,
        secondSampled_chan_set s dA c _ hramp hhold]
      rfl
    · simp only [finishedRound, hstring, eight_get_set_same, chargeCounted_hist]
      exact sampledHistory_throughput s dA x.string _ _ _
    · simp only [finishedRound, hstring, eight_get_set_same, chargeCounted_sit]

end Sys2Proof.Machine
end

-- ==== Proofs: hours and DUE ====
section
/-! PROOFS. The hour of a position, and the rise of DUE with what it offers (O22, O23). -/

namespace Sys2Proof.Machine

open Sys2Proof.Safety

/-- The last write to a position stands. -/
@[simp] theorem eight_set_set {α : Type} (e : Eight α) (p : Pos) (v w : α) : (e.set p v).set p w = e.set p w := by
  cases p <;> rfl

/-! ### The DUE test (R57) -/

/-- A position is due by its hours or by its throughput. -/
theorem isDue_iff (s : State) (p : Pos) :
    isDue s p = true ↔
      s.cfg.dueDays * 24 ≤ (s.hist.get p).hours ∨ s.cfg.dueAh * 36000 ≤ (s.hist.get p).throughput := by
  simp [isDue]

/-- A position that is due with DUE clear is a rise of DUE. -/
theorem dueEvaluate_of_rise (s : State) (p : Pos) (hfit : fitted s p = true) (hdue : isDue s p = true)
    (hclear : (s.sit.get p).due = false) : dueEvaluate s p = dueRise s p := by
  simp [dueEvaluate, hfit, hdue, hclear]

/-! ### The hour (R55) -/

/-- A position with an hour of its seconds turned into one of its hours. -/
def hourCounted (s : State) (p : Pos) : State :=
  { s with
    sit := s.sit.set p { s.sit.get p with hourSec := (s.sit.get p).hourSec - 3600 }
    hist := s.hist.set p { s.hist.get p with hours := min 65535 ((s.hist.get p).hours + 1) } }

/-- HOUR_ROLLOVER of a fitted position counts the hour, then evaluates DUE. -/
theorem execHourRollover_of_hour (s : State) (p : Pos) (hfit : fitted s p = true)
    (hhour : 3600 ≤ (s.sit.get p).hourSec) :
    execHourRollover p s = settled (dueEvaluate (hourCounted s p) p) := by
  rw [execHourRollover, if_pos (by simp [hfit, hhour])]
  rfl

/-- Settles O22: the hour is counted, and the DUE evaluation after it clears DUE or does nothing. -/
theorem hourIsCounted : Obligations.HourIsCounted := by
  intro s p h hfit hhour hsettled hh
  subst hh
  have hexec : exec (.hourRollover p) s = settled (dueEvaluate (hourCounted s p) p) :=
    execHourRollover_of_hour s p hfit hhour
  have hhours : ((hourCounted s p).hist.get p).hours = min 65535 ((s.hist.get p).hours + 1) := by simp [hourCounted]
  have hthroughput : ((hourCounted s p).hist.get p).throughput = (s.hist.get p).throughput := by simp [hourCounted]
  rw [hexec]
  refine ⟨fun hdays hah => ?_, fun hdays hset => ?_⟩
  · have hundue : isDue (hourCounted s p) p = false := by
      rw [← Bool.not_eq_true, isDue_iff, hhours, hthroughput]
      exact not_or.2 ⟨not_le.2 hdays, not_le.2 hah⟩
    rw [dueEvaluate_of_not_due _ p hundue, settled_of_settled ((hourCounted s p).modSit p _) hsettled]
    simp [hourCounted, State.modSit]
  · have hdue : isDue (hourCounted s p) p = true := (isDue_iff _ p).2 (.inl (hhours ▸ hdays))
    rw [dueEvaluate_of_due (hourCounted s p) p hfit hdue (by simp [hourCounted, hset]),
      settled_of_settled (hourCounted s p) hsettled]
    rfl

/-! ### The rise of DUE (R57, R75, R171) -/

/-- The entry that a rise of DUE offers. -/
def autoDueEntry (s : State) (p : Pos) : Entry :=
  { tag := 0, kind := .equaliseThenWater, string := p, cls := .routine, origin := .autoDue, submit := s.stamp,
    notBefore := none, holdOverride := none, ahOverride := none }

/-- An offer for a string with no round and no lock, to a queue that is not full, is placed at the queue's end. -/
theorem offer_due_of_free (s : State) (p : Pos) (hplace : place s p = none) (heq : (s.hist.get p).eqLock = none)
    (hwater : (s.hist.get p).waterLock = none) (hroom : s.queue.entries.length < 12) :
    offer s p .equaliseThenWater .autoDue 0 =
      ({ s with
          queue := { entries := s.queue.entries ++ [autoDueEntry s p], gen := (s.queue.gen + 1) % 256 }
          due := { s.due with admission := true } }, .queued) := by
  have hopen : lockedFor s p .equaliseThenWater = false := by simp [lockedFor, heq, hwater]
  have hfull : ¬12 ≤ s.queue.entries.length := not_le.2 hroom
  simp [offer, hplace, hopen, hfull, Config.queueCap, placeEntry, placeIn, State.wantAdmission, autoDueEntry]

/-- A position with DUE set. -/
def dueSet (s : State) (p : Pos) : State := s.modSit p fun t => { t with due := true }

/-- What a rise of DUE makes of its offer: with AUTO_QUEUE OFF none is made. -/
def dueAnswer (s : State) (p : Pos) : State × OfferResult :=
  if s.cfg.autoQueue = 0 then (dueSet s p, .autoOff) else offer (dueSet s p) p .equaliseThenWater .autoDue 0

/-- A rise of DUE sets the flag, makes its offer, and makes STRING_DUE with the answer. -/
theorem dueRise_eq (s : State) (p : Pos) :
    dueRise s p = (dueAnswer s p).1.event .stringDue p.num (dueAnswer s p).2.code none := rfl

/-- Settles O23: the rise sets the flag, and STRING_DUE carries the answer to the offer. -/
theorem dueRiseOffersAnEntry : Obligations.DueRiseOffersAnEntry := by
  intro s p hfit hclear hdue hlatch
  rw [dueEvaluate_of_rise s p hfit ((isDue_iff s p).2 hdue) hclear, dueRise_eq]
  refine ⟨fun hauto hplace heq hwater hroom => ?_, fun hauto => ?_⟩
  · have hqueued := offer_due_of_free (dueSet s p) p hplace heq hwater hroom
    rw [dueAnswer, if_neg hauto, hqueued, event_of_clear _ .stringDue _ _ _ (by exact hlatch)]
    rfl
  · rw [dueAnswer, if_pos hauto, event_of_clear (dueSet s p) .stringDue _ _ _ hlatch]
    rfl

end Sys2Proof.Machine
end

-- ==== Proofs: the operations that leave the phase alone ====
section
/-! PROOFS. No operation of the blocks changes the part's phase (R189): resets, their release, READY and a Restart's
final step alone do. One lemma per operation, in the order of the definitions. -/

namespace Sys2Proof.Machine

open Sys2Proof.Safety

section
variable (s : State)

/-- A change made item by item that leaves the phase alone. -/
theorem phase_foldl {α : Type} (f : State → α → State) (h : ∀ t a, (f t a).phase = t.phase) (l : List α) :
    (l.foldl f s).phase = s.phase := by
  induction l generalizing s with
  | nil => rfl
  | cons a l ih => rw [List.foldl_cons, ih, h]

/-! ### Shared operations -/

@[simp] theorem recomputeOnBus_phase (p : Pos) : (recomputeOnBus s p).phase = s.phase := by
  rw [← recomputeOnBus_frame]
@[simp] theorem commandKf_phase (p : Pos) (k : Contact) : (commandKf s p k).phase = s.phase := by
  rw [← commandKf_frame]
@[simp] theorem ventMonitor_phase : (ventMonitor s).phase = s.phase := by rw [← ventMonitor_frame]
@[simp] theorem recomputeFan_phase : (recomputeFan s).phase = s.phase := by rw [← recomputeFan_frame]
@[simp] theorem stageDelivered_phase (st : Stage) : (stageDelivered s st).phase = s.phase := by
  rw [← stageDelivered_frame]
@[simp] theorem writeDirect_phase (c : Ch) : (writeDirect s c).phase = s.phase := by rw [← writeDirect_frame]
@[simp] theorem writeHysteresis_phase (c : Ch) : (writeHysteresis s c).phase = s.phase := by
  rw [← writeHysteresis_frame]
@[simp] theorem setStage_phase (c : Ch) (st : Stage) : (setStage s c st).phase = s.phase := by rw [← setStage_frame]
@[simp] theorem removeEntries_phase (p : Pos) : (removeEntries s p).phase = s.phase := rfl
@[simp] theorem offer_phase (p : Pos) (k : Kind) (o : Origin) (tag : Byte) :
    (offer s p k o tag).1.phase = s.phase := by
  rw [← offer_frame]
@[simp] theorem computeFloat_phase : (computeFloat s).phase = s.phase := by rw [computeFloat_eq]
@[simp] theorem weakOffer_phase (p : Pos) (cell deficit : Nat) : (weakOffer s p cell deficit).1.phase = s.phase := by
  rw [← weakOffer_frame]

/-! ### The line -/

@[simp] theorem enterDosing_phase : (enterDosing s).phase = s.phase := by
  unfold enterDosing countDose; split <;> rfl
@[simp] theorem closeLine_phase (o : Outcome) : (closeLine s o).phase = s.phase := by rw [← closeLine_frame]
@[simp] theorem endReservoirEmpty_phase : (endReservoirEmpty s).phase = s.phase := by simp [endReservoirEmpty]
@[simp] theorem lineTake_phase (o : Owner) (p : Pos) (i : Option RoundIdentity) (d : Option ManualDose) :
    (lineTake s o p i d).phase = s.phase := by
  unfold lineTake; dsimp only; split <;> simp
@[simp] theorem lineTakeCall_phase (c : Ch) : (lineTakeCall s c).phase = s.phase := by
  unfold lineTakeCall; split <;> simp
@[simp] theorem lineNext_phase : (lineNext s).phase = s.phase := by
  unfold lineNext; dsimp only; split <;> simp
@[simp] theorem lineStop_phase : (lineStop s).phase = s.phase := by unfold lineStop; split <;> simp
@[simp] theorem withdrawCall_phase (c : Ch) : (withdrawCall s c).phase = s.phase := rfl

/-! ### The String Table -/

@[simp] theorem dueRise_phase (p : Pos) : (dueRise s p).phase = s.phase := by
  unfold dueRise; dsimp only; split <;> simp
@[simp] theorem dueEvaluate_phase (p : Pos) : (dueEvaluate s p).phase = s.phase := by
  unfold dueEvaluate
  split
  · split <;> simp
  · simp
@[simp] theorem dueEvaluateAll_phase : (dueEvaluateAll s).phase = s.phase :=
  phase_foldl s _ (fun t p => by split <;> simp) _
@[simp] theorem hourRollover_phase (p : Pos) : (hourRollover s p).phase = s.phase := by simp [hourRollover]
@[simp] theorem throughputAdd_phase (p : Pos) (v : Int) : (throughputAdd s p v).phase = s.phase := by
  unfold throughputAdd; split <;> simp
@[simp] theorem levelDelivered_phase (p : Pos) (k : DeliveryKind) : (levelDelivered s p k).phase = s.phase := by
  unfold levelDelivered; dsimp only
  split
  · split
    · split <;> simp
    all_goals simp
  · rfl
@[simp] theorem recomputeSense_phase (p : Pos) : (recomputeSense s p).phase = s.phase := by
  rw [← recomputeSense_frame]
@[simp] theorem enterIsolated_phase (p : Pos) (r : Isolation) : (enterIsolated s p r).phase = s.phase := rfl
@[simp] theorem kfStuckTest_phase (p : Pos) : (kfStuckTest s p).phase = s.phase := by
  unfold kfStuckTest; split <;> rfl
@[simp] theorem stringKf_phase (p : Pos) : (stringKf s p).phase = s.phase := by simp [stringKf]
@[simp] theorem stringKe_phase (p : Pos) : (stringKe s p).phase = s.phase := by unfold stringKe; split <;> simp
@[simp] theorem historyUpdate_phase (p : Pos) : (historyUpdate s p).phase = s.phase := rfl
@[simp] theorem setEqLock_phase (p : Pos) (r : EqLockReason) : (setEqLock s p r).phase = s.phase := rfl
@[simp] theorem setWaterLock_phase (p : Pos) : (setWaterLock s p).phase = s.phase := rfl
@[simp] theorem markRoundOpen_phase (p : Pos) (k : Kind) : (markRoundOpen s p k).phase = s.phase := rfl
@[simp] theorem removePosition_phase (p : Pos) : (removePosition s p).phase = s.phase := by simp [removePosition]
@[simp] theorem addPosition_phase (p : Pos) : (addPosition s p).phase = s.phase := by simp [addPosition]
@[simp] theorem changeFitted_phase (n : Nat) : (changeFitted s n).phase = s.phase := by
  unfold changeFitted; dsimp only
  rw [phase_foldl _ _ (fun t p => by split <;> simp), phase_foldl _ _ (fun t p => by split <;> simp)]

/-! ### The return to the load bus -/

@[simp] theorem endRound_phase (c : Ch) (x : Context) (failed : Bool) : (endRound s c x failed).phase = s.phase := by
  unfold endRound; dsimp only; split <;> simp
@[simp] theorem suspension_phase (c : Ch) (x : Context) (cause : Cause) :
    (suspension s c x cause).phase = s.phase := by
  unfold suspension; dsimp only
  split
  · simp
  · split <;> simp
@[simp] theorem backComplete_phase (c : Ch) : (backComplete s c).phase = s.phase := by
  unfold backComplete; dsimp only
  split
  · rfl
  · split
    · rfl
    · split <;> simp
@[simp] theorem backStep4_phase (c : Ch) : (backStep4 s c).phase = s.phase := by unfold backStep4; split <;> simp
@[simp] theorem backStep3_phase (c : Ch) : (backStep3 s c).phase = s.phase := by
  unfold backStep3; dsimp only
  split
  · rfl
  · split
    · split <;> simp
    · simp
@[simp] theorem backStep2_phase (c : Ch) : (backStep2 s c).phase = s.phase := by
  unfold backStep2; dsimp only
  split
  · rfl
  · split
    · split <;> simp
    · simp
@[simp] theorem enterBack_phase (c : Ch) (e : Exit) : (enterBack s c e).phase = s.phase := by simp [enterBack]

/-! ### Aborts, cuts, suspending causes -/

@[simp] theorem keepFinalCell_phase (c : Ch) : (keepFinalCell s c).phase = s.phase := by
  unfold keepFinalCell; split <;> rfl
@[simp] theorem abortRound_phase (c : Ch) (o : Outcome) : (abortRound s c o).phase = s.phase := by simp [abortRound]
@[simp] theorem askStop_phase (c : Ch) : (askStop s c).phase = s.phase := by unfold askStop; split <;> simp
@[simp] theorem cutRound_phase (c : Ch) (defer h2 : Bool) : (cutRound s c defer h2).phase = s.phase := by
  unfold cutRound cutFlags; dsimp only
  split
  · simp
  · split
    · split
      · rfl
      · split <;> simp
    · simp
  · rfl
@[simp] theorem readingCause_phase (c : Ch) (o : Outcome) : (readingCause s c o).phase = s.phase := by
  unfold readingCause; split <;> simp
@[simp] theorem suspendingCause_phase (c : Ch) (cause : Cause) : (suspendingCause s c cause).phase = s.phase := by
  unfold suspendingCause; split <;> simp
@[simp] theorem deliverCause_phase (cause : Cause) (concerns : Stage → Bool) :
    (deliverCause s cause concerns).phase = s.phase :=
  phase_foldl s _ (fun t c => by split <;> simp) _

/-! ### Ramp and hold -/

@[simp] theorem targetTest_phase (c : Ch) : (targetTest s c).phase = s.phase := by
  unfold targetTest enterHold; dsimp only
  split
  · split <;> simp
  · rfl
@[simp] theorem enterRamp_phase (c : Ch) : (enterRamp s c).phase = s.phase := by simp [enterRamp]
@[simp] theorem rampStep_phase (c : Ch) : (rampStep s c).phase = s.phase := by simp [rampStep]
@[simp] theorem finish_phase (c : Ch) (o : Outcome) : (finish s c o).phase = s.phase := by
  unfold finish; split <;> simp
@[simp] theorem screenCell_phase (c : Ch) (p : Pos) (mean cell mv : Nat) :
    (screenCell s c p mean cell mv).phase = s.phase := by
  unfold screenCell; dsimp only
  split
  · split <;> simp
  · rfl
@[simp] theorem screenFrom_phase (c : Ch) (p : Pos) (mean n : Nat) (l : List CellEntry) :
    (screenFrom c p mean n l s).phase = s.phase := by
  induction l generalizing n s with
  | nil => rfl
  | cons e l ih => rw [screenFrom, ih, screenCell_phase]
@[simp] theorem screenCells_phase (c : Ch) (p : Pos) : (screenCells s c p).phase = s.phase := by
  unfold screenCells; split <;> simp
@[simp] theorem windowEnd_phase (c : Ch) : (windowEnd s c).phase = s.phase := by
  unfold windowEnd runawayAbort; dsimp only
  split
  · rfl
  · split
    · simp
    · split
      · simp
      · split <;> simp
@[simp] theorem holdWindow_phase (c : Ch) : (holdWindow s c).phase = s.phase := by
  unfold holdWindow; dsimp only
  split
  · rfl
  · split
    · split <;> simp
    · rfl
@[simp] theorem holdLimitTest_phase (c : Ch) : (holdLimitTest s c).phase = s.phase := by
  unfold holdLimitTest
  split
  · rfl
  · split <;> simp
@[simp] theorem holdMinute_phase (c : Ch) : (holdMinute s c).phase = s.phase := by simp [holdMinute]
@[simp] theorem chargeSample_phase (c : Ch) (amps : Eight Int) : (chargeSample s c amps).phase = s.phase := by
  unfold chargeSample; dsimp only
  split
  · rfl
  · split
    · split <;> simp
    · rfl

/-! ### Readings of the held string -/

@[simp] theorem holdback_phase (c : Ch) (x : Context) : (holdback s c x).phase = s.phase := by simp [holdback]
@[simp] theorem channelScan_phase (p : Pos) : (channelScan s p).phase = s.phase := by
  have hlimit : ∀ (c : Ch) (x : Context) (mv : Nat),
      (if s.cfg.cellMaxMv < mv then holdback s c x else s).phase = s.phase := by
    intro c x mv; split <;> simp
  unfold channelScan
  split
  · rfl
  · split
    · split
      · simp
      · split
        · exact hlimit _ _ _
        · exact hlimit _ _ _
        all_goals rfl
    · rfl
@[simp] theorem channelPilot_phase (p : Pos) : (channelPilot s p).phase = s.phase := by
  unfold channelPilot; dsimp only
  split
  · rfl
  · split <;> split <;> simp
@[simp] theorem recomputeComp_phase (p : Pos) : (recomputeComp s p).phase = s.phase := by
  unfold recomputeComp; dsimp only
  split <;> simp

/-! ### Leaving the load bus -/

@[simp] theorem outStep4_phase (c : Ch) : (outStep4 s c).phase = s.phase := by
  unfold outStep4; dsimp only
  split
  · rfl
  · split <;> simp
@[simp] theorem outStep3_phase (c : Ch) : (outStep3 s c).phase = s.phase := by
  unfold outStep3; dsimp only
  split
  · rfl
  · split <;> simp
@[simp] theorem outStep2_phase (c : Ch) : (outStep2 s c).phase = s.phase := by
  unfold outStep2; dsimp only
  split
  · rfl
  · split <;> simp
@[simp] theorem startTransferOut_phase (c : Ch) : (startTransferOut s c).phase = s.phase := by simp [startTransferOut]

/-! ### Contactor feedback, timeouts -/

@[simp] theorem contactorFault_phase (c : Ch) (p : Pos) (k : Contactor) (l : Option Level) :
    (contactorFault s c p k l).phase = s.phase := rfl
@[simp] theorem disagreement_phase (c : Ch) (p : Pos) (k : Contactor) (l : Option Level) :
    (disagreement s c p k l).phase = s.phase := by
  unfold disagreement
  split
  · split
    · split <;> simp
    · simp
  · simp
@[simp] theorem nextStep_phase (c : Ch) (k : Contactor) : (nextStep s c k).phase = s.phase := by
  unfold nextStep; dsimp only; split <;> simp
@[simp] theorem channelFeedback_phase (p : Pos) (k : Contactor) (l : Option Level) :
    (channelFeedback s p k l).phase = s.phase := by
  unfold channelFeedback; dsimp only
  split
  · rfl
  · split <;> split <;> simp
@[simp] theorem outTimeout_phase (c : Ch) (k : Contactor) : (outTimeout s c k).phase = s.phase := by
  unfold outTimeout; split <;> simp
@[simp] theorem backTimeout_phase (c : Ch) (k : Contactor) : (backTimeout s c k).phase = s.phase := by
  unfold backTimeout; split <;> simp

/-! ### Settle, water, a Restart -/

@[simp] theorem enterWater_phase (c : Ch) : (enterWater s c).phase = s.phase := by
  unfold enterWater; dsimp only
  split
  · rfl
  · split
    · simp
    · split <;> simp
@[simp] theorem settleEnd_phase (c : Ch) : (settleEnd s c).phase = s.phase := by
  unfold settleEnd
  split
  · rfl
  · split <;> simp
@[simp] theorem giveUp_phase (c : Ch) : (giveUp s c).phase = s.phase := by simp [giveUp]
@[simp] theorem lineReturn_phase (c : Ch) (w : WaterResult) : (lineReturn s c w).phase = s.phase := by
  unfold lineReturn; dsimp only
  split
  · rfl
  · split
    · split <;> simp
    · simp
@[simp] theorem restartChannel_phase (c : Ch) : (restartChannel s c).phase = s.phase := by
  have hwaiting : ∀ b : Bool, (if b = true then withdrawCall s c else s).phase = s.phase := by
    intro b; split <;> rfl
  unfold restartChannel; dsimp only
  split <;> simp [hwaiting]

/-! ### Round Admission -/

@[simp] theorem giveChannel_phase (c : Ch) (x : Context) : (giveChannel s c x).phase = s.phase := by simp [giveChannel]
@[simp] theorem admitEntry_phase (e : Entry) : (admitEntry s e).phase = s.phase := by
  unfold admitEntry giveLine; dsimp only
  split
  · simp
  all_goals split <;> simp
@[simp] theorem removeHeld_phase (h : Held) : (removeHeld s h).phase = s.phase := rfl
@[simp] theorem admitHeld_phase (h : Held) : (admitHeld s h).phase = s.phase := by unfold admitHeld; split <;> simp
@[simp] theorem evaluatePasses_phase (n : Nat) : (evaluatePasses n s).phase = s.phase := by
  induction n generalizing s with
  | zero => rfl
  | succ n ih => unfold evaluatePasses; split <;> simp [ih]
@[simp] theorem evaluate_phase : (evaluate s).phase = s.phase := by unfold evaluate; split <;> simp

/-! ### Site Permissions and the settling of a step -/

@[simp] theorem recomputeSurplus_phase : (recomputeSurplus s).phase = s.phase := by
  unfold recomputeSurplus surplusLost surplusBack; dsimp only
  split
  · rfl
  · split
    · simp
    · split
      · rfl
      · split <;> simp
@[simp] theorem disableChargers_phase : (disableChargers s).phase = s.phase :=
  phase_foldl s _ (fun t c => by split <;> rfl) _
@[simp] theorem lineHalt_phase : (lineHalt s).phase = s.phase := by unfold lineHalt; split <;> simp
@[simp] theorem h2Delivered_phase : (h2Delivered s).phase = s.phase := by
  unfold h2Delivered h2Start purgeStart
  split
  · split <;> simp
  · split <;> simp
  · rfl
@[simp] theorem ventFails_phase : (ventFails s).phase = s.phase := by simp [ventFails]
@[simp] theorem reserveTest_phase : (reserveTest s).phase = s.phase := by
  unfold reserveTest; dsimp only
  split
  · rfl
  · generalize ht : (if s.perm.breach = true then s else _) = t
    have hbreach : t.phase = s.phase := by rw [← ht]; split <;> rfl
    split
    · exact hbreach
    · split <;> simp [hbreach]
@[simp] theorem settleWith_phase (n : Nat) : (settleWith n s).phase = s.phase := by
  induction n generalizing s with
  | zero => rfl
  | succ n ih =>
    unfold settleWith
    split
    · simp [ih]
    · split <;> simp [ih]
@[simp] theorem settle_phase : (settle s).phase = s.phase := settleWith_phase s 16
@[simp] theorem endHeld_phase (h : Held) (o : Outcome) : (endHeld s h o).phase = s.phase := by simp [endHeld]
@[simp] theorem expireHeld_phase (h : Held) (why : Expiry) : (expireHeld s h why).phase = s.phase := by
  simp [expireHeld]
@[simp] theorem interruptHeld_phase : (interruptHeld s).phase = s.phase :=
  phase_foldl s _ (fun t h => endHeld_phase t h _) _
@[simp] theorem suspendMaxLowered_phase : (suspendMaxLowered s).phase = s.phase :=
  phase_foldl s _ (fun t h => by split <;> simp) _
@[simp] theorem heldMinute_phase (h : Held) : (heldMinute s h).phase = s.phase := by
  unfold heldMinute; dsimp only; split <;> simp

/-! ### The account and the end of a watering -/

@[simp] theorem reservoirTest_phase : (reservoirTest s).phase = s.phase := by rw [← reservoirTest_frame]
@[simp] theorem setAccount_phase (n : Nat) : (setAccount s n).phase = s.phase := by simp [setAccount]
@[simp] theorem pulseTests_phase : (pulseTests s).phase = s.phase := by
  unfold pulseTests overvolume enterPause
  split
  · split <;> simp
  · split
    · split <;> simp
    · split <;> simp
@[simp] theorem linePulse_phase : (linePulse s).phase = s.phase := by
  unfold linePulse countPulse; dsimp only
  split
  · split <;> simp
  · simp
@[simp] theorem lineResLow_phase : (lineResLow s).phase = s.phase := by unfold lineResLow; split <;> simp
@[simp] theorem endLineRound_phase : (endLineRound s).phase = s.phase := by
  unfold endLineRound; dsimp only; split <;> rfl
@[simp] theorem handDoseEnd_phase (d : DoseEnd) : (handDoseEnd s d).phase = s.phase := by
  unfold handDoseEnd; split <;> rfl
@[simp] theorem closingEnd_phase : (closingEnd s).phase = s.phase := by
  unfold closingEnd backToManual; dsimp only
  split
  · simp
  · simp
  · split <;> split <;> simp
  · simp
@[simp] theorem restartLine_phase : (restartLine s).phase = s.phase := by
  unfold restartLine; dsimp only
  split
  · split <;> simp
  · split <;> simp
  · split <;> simp
  · split <;> rfl
  · simp
  · rfl

/-! ### Samples, scans, seconds, conversions -/

@[simp] theorem deliver_phase (i : InputId) (k : DeliveryKind) : (deliver s i k).phase = s.phase := by
  cases i <;> simp [deliver]
@[simp] theorem sampleInput_phase (i : InputId) (l : Level) : (sampleInput s i l).phase = s.phase := by
  unfold sampleInput; dsimp only; split <;> simp
@[simp] theorem sampleInputs_phase (levels : BitVec 35) (l : List InputId) (n : Nat) :
    (sampleInputs levels n l s).phase = s.phase := by
  induction l generalizing n s with
  | nil => rfl
  | cons i l ih => rw [sampleInputs, ih, sampleInput_phase]
@[simp] theorem completeScan_phase (p : Pos) (mvs : List Nat) : (completeScan s p mvs).phase = s.phase := by
  simp [completeScan]
@[simp] theorem sampleCurrents_phase (dA : Eight Int) : (sampleCurrents s dA).phase = s.phase := by
  unfold sampleCurrents; dsimp only
  rw [chargeSample_phase, chargeSample_phase, phase_foldl _ _ fun t p => throughputAdd_phase t p _]
@[simp] theorem completePilot_phase (p : Pos) (nTh nRef : Nat) : (completePilot s p nTh nRef).phase = s.phase := by
  simp [completePilot]
@[simp] theorem completeAmbient_phase (nTh nRef : Nat) : (completeAmbient s nTh nRef).phase = s.phase := by
  unfold completeAmbient; dsimp only
  rw [computeFloat_phase, phase_foldl _ _ fun t p => by split <;> simp]

/-! ### The link and the requests' rules -/

@[simp] theorem completeFrame_phase (b : Byte) : (completeFrame s b).phase = s.phase := by
  unfold completeFrame; dsimp only
  split
  · rfl
  · split <;> rfl
@[simp] theorem framerByte_phase (b : Byte) : (framerByte s b).phase = s.phase := by
  unfold framerByte; dsimp only
  split
  · split <;> rfl
  · split
    · rfl
    · split <;> rfl
  · rfl
  · split <;> simp
@[simp] theorem reply_phase (f : Frame) (st : Status) (l : List Byte) : (reply s f st l).phase = s.phase := rfl
@[simp] theorem cancelReply_phase (f : Frame) (st : Status) (pl : Place) :
    (cancelReply s f st pl).phase = s.phase := rfl
@[simp] theorem setWorking_phase (i : SettingId) (v : Nat) : (setWorking s i v).phase = s.phase := rfl
@[simp] theorem setpointsChanged_phase (floatToo : Bool) : (setpointsChanged s floatToo).phase = s.phase := by
  have hall : (Pos.all.foldl recomputeComp s).phase = s.phase := phase_foldl s _ recomputeComp_phase _
  unfold setpointsChanged; dsimp only
  split <;> simp [hall]
@[simp] theorem limitChanged_phase : (limitChanged s).phase = s.phase :=
  phase_foldl s _ (fun t c => by split <;> rfl) _
@[simp] theorem flatCountChanged_phase : (flatCountChanged s).phase = s.phase :=
  phase_foldl s _ (fun t c => by split <;> rfl) _
@[simp] theorem changePolarity_phase (old new : Nat) : (changePolarity s old new).phase = s.phase :=
  phase_foldl s _ (fun t i => by split <;> rfl) _
@[simp] theorem applySetting_phase (i : SettingId) (v : Nat) : (applySetting s i v).phase = s.phase := by
  cases i <;> simp [applySetting]
@[simp] theorem serveSetSetting_phase (f : Frame) : (serveSetSetting s f).phase = s.phase := by
  unfold serveSetSetting acceptSetting startWrite; dsimp only
  split
  · rfl
  · split
    · rfl
    · split
      · rfl
      · rw [reply_phase]; split <;> simp
@[simp] theorem submitTests_phase (f : Frame) (b : Submission) (k : Kind) (c : RoundClass) (p : Pos) :
    (submitTests s f b k c p).phase = s.phase := by
  unfold submitTests; dsimp only
  split
  · rfl
  split
  · rfl
  split
  · rfl
  split
  · rfl
  split <;> rfl
@[simp] theorem serveSubmitRound_phase (f : Frame) : (serveSubmitRound s f).phase = s.phase := by
  unfold serveSubmitRound; dsimp only
  split
  · split
    · rfl
    split
    · rfl
    split
    · rfl
    · exact submitTests_phase ..
  · rfl
@[simp] theorem serveCancelRound_phase (f : Frame) : (serveCancelRound s f).phase = s.phase := by
  unfold serveCancelRound cancelHeld cancelOnLine cancelOnChannel; dsimp only
  split
  · rfl
  · split
    · rfl
    · rfl
    · split <;> simp
    · split
      · split <;> simp
      · rfl
    · split <;> simp
@[simp] theorem serveSupplyGrant_phase (f : Frame) : (serveSupplyGrant s f).phase = s.phase := by
  simp [serveSupplyGrant]
@[simp] theorem serveClaimLine_phase (f : Frame) : (serveClaimLine s f).phase = s.phase := by
  unfold serveClaimLine
  split
  · rfl
  · split <;> rfl
@[simp] theorem serveReleaseLine_phase (f : Frame) : (serveReleaseLine s f).phase = s.phase := by
  unfold serveReleaseLine; dsimp only
  split
  · rfl
  · rw [reply_phase]; split <;> simp
@[simp] theorem serveManualDose_phase (f : Frame) : (serveManualDose s f).phase = s.phase := by
  unfold serveManualDose; dsimp only
  split
  · rfl
  split
  · rfl
  split
  · rfl
  split
  · rfl
  split
  · rfl
  split
  · rfl
  · simp
@[simp] theorem serveRefill_phase (f : Frame) : (serveRefill s f).phase = s.phase := by simp [serveRefill]
@[simp] theorem serveClearWeak_phase (f : Frame) : (serveClearWeak s f).phase = s.phase := by
  unfold serveClearWeak; dsimp only; split <;> rfl
@[simp] theorem serveReleaseLock_phase (f : Frame) : (serveReleaseLock s f).phase = s.phase := by
  unfold serveReleaseLock; dsimp only
  split
  · rfl
  · split
    · rfl
    · split <;> rfl
@[simp] theorem serveSetNoticeMaster_phase (f : Frame) : (serveSetNoticeMaster s f).phase = s.phase := by
  unfold serveSetNoticeMaster; dsimp only; split <;> rfl
@[simp] theorem serveClearConditions_phase (f : Frame) : (serveClearConditions s f).phase = s.phase := by
  have hrelatch : ∀ (t : State) (c : Condition), (relatch t c).phase = t.phase := fun t c => by cases c <;> rfl
  unfold serveClearConditions; dsimp only
  split
  · rfl
  · rw [reply_phase, phase_foldl _ relatch hrelatch, phase_foldl _ clearLatch fun _ _ => rfl]
@[simp] theorem serveReadLog_phase (f : Frame) : (serveReadLog s f).phase = s.phase := by
  unfold serveReadLog; dsimp only
  split
  · rfl
  · split
    · rfl
    · split <;> rfl
@[simp] theorem serveRestart_phase (f : Frame) : (serveRestart s f).phase = s.phase := by simp [serveRestart]

/-! ### The reports -/

@[simp] theorem readStatusReply_phase (f : Frame) : (readStatusReply s f).phase = s.phase := by
  unfold readStatusReply; split <;> rfl
@[simp] theorem readStringReply_phase (f : Frame) : (readStringReply s f).phase = s.phase := by
  unfold readStringReply; split <;> rfl
@[simp] theorem readCellsReply_phase (f : Frame) : (readCellsReply s f).phase = s.phase := by
  unfold readCellsReply
  split
  · rfl
  · split
    · split <;> rfl
    · rfl
@[simp] theorem readSettingReply_phase (f : Frame) : (readSettingReply s f).phase = s.phase := by
  unfold readSettingReply; split <;> rfl

/-! ### Initialisation -/

@[simp] theorem recoverRecords_phase : (recoverRecords s).phase = s.phase :=
  phase_foldl s _ (fun t p => by split <;> rfl) _
@[simp] theorem initialTests_phase : (initialTests s).phase = s.phase := by simp [initialTests]

end

end Sys2Proof.Machine
end

-- ==== Proofs: rounds and roles from step to step ====
section
/-! PROOFS. Every step keeps rounds and roles in agreement, and a part held in reset without rounds (O55). -/

namespace Sys2Proof.Machine

open Sys2Proof.Safety

/-! ### What a part held in reset holds of rounds -/

/-- What `HeldClean` looks at of the part. -/
structure RoundsView where
  phase : Phase
  restartAt : Option Nat
  measuring : Option Pos
  queue : List Entry
  held : List Held
  chan : Two Channel
  lineStage : LineStage
  owner : Option Owner
  string : Option Pos
  waiting : List Ch
  fitted : Nat
  sit : Eight StringSituation

/-- The rounds of a state. -/
def State.rounds (s : State) : RoundsView :=
  { phase := s.phase, restartAt := s.restartAt, measuring := s.scan.measuring, queue := s.queue.entries
    held := s.held.entries, chan := s.chan, lineStage := s.line.stage, owner := s.line.owner
    string := s.line.string, waiting := s.line.waiting, fitted := s.cfg.fitted, sit := s.sit }

/-- `HeldClean`, read off the rounds. -/
def RoundsView.HeldClean (v : RoundsView) : Prop :=
  v.phase = .held →
    v.restartAt = none ∧ v.measuring = none ∧ v.queue = [] ∧ v.held = [] ∧ (∀ c : Ch, ChannelReset (v.chan.get c))
      ∧ v.lineStage = .free ∧ v.owner = none ∧ v.string = none ∧ v.waiting = []
      ∧ ∀ p : Pos, SituationReset (v.fitted.testBit (p.num - 1)) (v.sit.get p)

theorem heldClean_iff (s : State) : HeldClean s ↔ s.rounds.HeldClean := Iff.rfl

/-- A state with the rounds of a clean one is clean. -/
theorem heldClean_of_rounds {s t : State} (h : HeldClean s) (hrounds : t.rounds = s.rounds) : HeldClean t := by
  rw [heldClean_iff, hrounds]
  exact h

/-- A part that is out of reset is clean. -/
theorem heldClean_of_phase {t : State} (hphase : t.phase ≠ .held) : HeldClean t := fun hheld => absurd hheld hphase

/-- Power-on and RESET_N leave no rounds (R6). -/
theorem heldClean_afterReset (s : State) (stored : Settings) (ok : Bool) :
    HeldClean (afterReset s (heldStore stored ok)) :=
  fun _ => ⟨rfl, rfl, rfl, rfl, reset_chan, rfl, rfl, rfl, rfl, reset_sit⟩

section
variable {s : State}

/-- A part held in reset has its channels IDLE. -/
theorem channelsIdle_of_held (h : HeldClean s) (hheld : s.phase = .held) : ChannelsIdle s := by
  obtain ⟨-, -, -, -, hchan, -⟩ := h hheld
  exact ⟨congrArg Channel.stage (hchan .a), congrArg Channel.stage (hchan .b)⟩

/-- A part held in reset has no candidate. -/
theorem noCandidates_of_held (h : HeldClean s) (hheld : s.phase = .held) : NoCandidates s := by
  obtain ⟨-, -, hqueue, hlist, -⟩ := h hheld
  exact ⟨hqueue, hlist⟩

/-- A channel that is in use shows the part out of reset. -/
theorem phase_of_stage (h : HeldClean s) {c : Ch} {st : Stage} (hst : (s.chan.get c).stage = st)
    (hactive : st ≠ .idle) : s.phase ≠ .held := by
  intro hheld
  obtain ⟨-, -, -, -, hchan, -⟩ := h hheld
  exact hactive (hst.symm.trans (congrArg Channel.stage (hchan c)))

/-- A line in use shows the part out of reset. -/
theorem phase_of_line (h : HeldClean s) {st : LineStage} (hst : s.line.stage = st) (hbusy : st ≠ .free) :
    s.phase ≠ .held := by
  intro hheld
  obtain ⟨-, -, -, -, -, hfree, -⟩ := h hheld
  exact hbusy (hst.symm.trans hfree)

/-- The settling of a part held in reset leaves its rounds alone: no channel is in use and nothing is a candidate. -/
theorem rounds_settle_of_held (h : HeldClean s) (hheld : s.phase = .held) : (settle s).rounds = s.rounds := by
  rw [settle_of_idle s (channelsIdle_of_held h hheld) (noCandidates_of_held h hheld)]
  rfl

/-- The settling of a clean part leaves it clean. -/
theorem heldClean_settle (h : HeldClean s) : HeldClean (settle s) := by
  by_cases hheld : s.phase = .held
  · exact heldClean_of_rounds h (rounds_settle_of_held h hheld)
  · exact heldClean_of_phase (by rwa [settle_phase])

end

/-! ### Operations that leave the rounds alone -/

section
variable (s : State)

@[simp] theorem rounds_modPerm (f : Permissions → Permissions) : (s.modPerm f).rounds = s.rounds := rfl
@[simp] theorem rounds_wantAdmission : s.wantAdmission.rounds = s.rounds := rfl
@[simp] theorem rounds_ventMonitor : (ventMonitor s).rounds = s.rounds := by rw [← ventMonitor_frame]; rfl
@[simp] theorem rounds_recomputeFan : (recomputeFan s).rounds = s.rounds := by rw [← recomputeFan_frame]; rfl
@[simp] theorem rounds_speedDelivered (n : Nat) : (speedDelivered s n).rounds = s.rounds := by simp [speedDelivered]
@[simp] theorem rounds_ventRecovers : (ventRecovers s).rounds = s.rounds := by simp [ventRecovers]

/-- A suspending cause finds no channel to take it while both are IDLE (R108). -/
theorem deliverCause_of_idle (h : ChannelsIdle s) (cause : Cause) (concerns : Stage → Bool)
    (hidle : concerns .idle = false) : deliverCause s cause concerns = s := by
  obtain ⟨ha, hb⟩ := h
  simp [deliverCause, Two.get, ha, hb, hidle]

/-- No channel needs supply while both are IDLE (R126). -/
theorem surplusLost_of_idle (h : ChannelsIdle s) : surplusLost s = s := by
  obtain ⟨ha, hb⟩ := h
  have hnone : stageCount s Stage.needsSupply = 0 := by simp [stageCount, ha, hb, Stage.needsSupply]
  rw [surplusLost, if_pos hnone]

theorem rounds_recomputeSurplus_of_idle (h : ChannelsIdle s) : (recomputeSurplus s).rounds = s.rounds := by
  unfold recomputeSurplus; dsimp only
  generalize ht : ({ s with supply := _ } : State) = t
  have hidle : ChannelsIdle t := by rw [← ht]; exact h
  have hsame : t.rounds = s.rounds := by rw [← ht]; rfl
  split
  · rfl
  · split
    · exact hsame
    · rw [surplusLost_of_idle t hidle, hsame]

/-- The vent's failure concerns no channel while both are IDLE (R122). -/
theorem rounds_ventFails_of_idle (h : ChannelsIdle s) : (ventFails s).rounds = s.rounds := by
  unfold ventFails; dsimp only
  generalize ht : State.event _ _ _ _ _ = t
  have hidle : ChannelsIdle t := by rw [← ht]; exact h
  rw [deliverCause_of_idle t hidle _ _ rfl, ← ht]
  rfl

end

/-! ### Commands -/

/-- A command's answer is a clean part. -/
def KeepsClean (o : Host.Outcome State Fault Refusal) : Prop := ∀ t, o = .next t → HeldClean t

section
variable {s t : State}

theorem keepsClean_next (h : HeldClean t) : KeepsClean (.next t) := by
  rintro u ⟨⟩
  exact h

theorem keepsClean_settled (h : HeldClean t) : KeepsClean (settled t) := keepsClean_next (heldClean_settle h)

/-- A command that acts on a condition, and otherwise changes nothing. -/
theorem keepsClean_ite {c : Prop} [Decidable c] {o : Host.Outcome State Fault Refusal} (h : HeldClean s)
    (hact : c → KeepsClean o) : KeepsClean (if c then o else .next s) := by
  split
  next hc => exact hact hc
  next => exact keepsClean_next h

/-- A part that runs before an operation that leaves the phase alone is clean after it. -/
theorem heldClean_of_running (hrun : s.phase ≠ .held) (hphase : t.phase = s.phase) : HeldClean t :=
  heldClean_of_phase (by rwa [hphase])

/-- A command that acts while the part runs, by an operation that leaves the phase alone. -/
theorem keepsClean_running (hrun : s.phase ≠ .held) (hphase : t.phase = s.phase) : KeepsClean (settled t) :=
  keepsClean_settled (heldClean_of_running hrun hphase)

/-- A command that leaves the rounds alone. -/
theorem keepsClean_rounds (h : HeldClean s) (hrounds : t.rounds = s.rounds) : KeepsClean (.next t) :=
  keepsClean_next (heldClean_of_rounds h hrounds)

/-- A command that leaves the rounds alone, with the settling of its deliveries. -/
theorem keepsClean_settled_rounds (h : HeldClean s) (hrounds : t.rounds = s.rounds) : KeepsClean (settled t) :=
  keepsClean_settled (heldClean_of_rounds h hrounds)

/-- A command that acts in and out of reset, and concerns channels in use alone. -/
theorem keepsClean_of_idle (h : HeldClean s) (hphase : t.phase = s.phase)
    (hrounds : ChannelsIdle s → t.rounds = s.rounds) : KeepsClean (settled t) := by
  by_cases hheld : s.phase = .held
  · exact keepsClean_settled_rounds h (hrounds (channelsIdle_of_held h hheld))
  · exact keepsClean_running hheld hphase

theorem phase_of_running (h : running s = true) : s.phase ≠ .held := by simpa [running] using h

/-- A request is taken when the part is ready, and its rule leaves the phase alone (R181, R189). -/
theorem keepsClean_serve (h : HeldClean s) (mine : Frame → Bool) (fits : Nat → Bool)
    {act : State → Frame → State} (hact : ∀ t f, (act t f).phase = t.phase) : KeepsClean (serve s mine fits act) := by
  unfold serve
  split
  · exact keepsClean_next h
  next f htaken =>
    have hready : s.phase = .ready := by
      by_contra hready
      simp [takable, hready] at htaken
    have hrun : s.phase ≠ .held := by simp [hready]
    split
    · split
      · exact keepsClean_next (heldClean_of_running hrun rfl)
      · split
        · exact keepsClean_running hrun (hact _ _)
        · exact keepsClean_next (heldClean_of_running hrun rfl)
    · exact keepsClean_next h

theorem keepsClean_serveKind (h : HeldClean s) (kind : Byte) (n : Nat) {act : State → Frame → State}
    (hact : ∀ t f, (act t f).phase = t.phase) : KeepsClean (serveKind s kind n act) :=
  keepsClean_serve h _ _ hact

/-! #### Resets and start-up -/

theorem keepsClean_execResetN (s : State) : KeepsClean (execResetN s) := by
  unfold execResetN
  split
  · split <;> exact keepsClean_next (heldClean_afterReset _ _ _)
  · exact keepsClean_next (heldClean_afterReset s _ _)

theorem loadSettings_phase (s : State) : (loadSettings s).phase = s.phase := rfl
theorem restartReset_phase (s : State) : (restartReset s).phase = .initialising := rfl

theorem keepsClean_execResetRelease (h : HeldClean s) : KeepsClean (execResetRelease s) :=
  keepsClean_ite h fun _ => keepsClean_settled (heldClean_of_phase (by simp [loadSettings_phase]))

theorem keepsClean_execFinalStep (h : HeldClean s) : KeepsClean (execFinalStep s) :=
  keepsClean_ite h fun _ => keepsClean_settled (heldClean_of_phase (by simp [restartReset_phase]))

/-! #### Events and timed rows -/

theorem keepsClean_execSampleInstant (h : HeldClean s) (levels : BitVec 35) :
    KeepsClean (execSampleInstant levels s) :=
  keepsClean_ite h fun hrun =>
    keepsClean_next (heldClean_of_running (phase_of_running hrun) (sampleInputs_phase (sampleTick s) _ _ _))

theorem keepsClean_execSlotStart (h : HeldClean s) : KeepsClean (execSlotStart s) :=
  keepsClean_ite h fun hrun => keepsClean_next (heldClean_of_running (phase_of_running hrun) rfl)

/-- No string is under measurement while the part is held. -/
theorem keepsClean_execScanCompletion (h : HeldClean s) (mvs : List Nat) : KeepsClean (execScanCompletion mvs s) := by
  unfold execScanCompletion
  split
  next p hmeasuring =>
    have hrun : s.phase ≠ .held := by
      intro hheld
      obtain ⟨-, hnone, -⟩ := h hheld
      rw [hnone] at hmeasuring; cases hmeasuring
    exact keepsClean_ite h fun _ => keepsClean_running hrun (completeScan_phase s p mvs)
  next => exact keepsClean_next h

theorem keepsClean_execCurrentSample (h : HeldClean s) (dA : Eight Int) : KeepsClean (execCurrentSample dA s) :=
  keepsClean_ite h fun hrun => keepsClean_running (phase_of_running hrun) (sampleCurrents_phase (tickSecond s) dA)

theorem keepsClean_execConversionCompletion (h : HeldClean s) (gateTh gateRef : Nat) :
    KeepsClean (execConversionCompletion gateTh gateRef s) := by
  refine keepsClean_ite h fun hrun => ?_
  dsimp only
  split
  · exact keepsClean_running (phase_of_running hrun) (completePilot_phase (conversionTick s) _ _ _)
  · exact keepsClean_running (phase_of_running hrun) (completeAmbient_phase (conversionTick s) _ _)

theorem keepsClean_execFlowPulse (h : HeldClean s) : KeepsClean (execFlowPulse s) := by
  refine keepsClean_ite h fun hrun => ?_
  obtain ⟨hrun, -⟩ := (Bool.and_eq_true _ _).mp hrun
  exact keepsClean_running (phase_of_running hrun) (linePulse_phase _)

theorem keepsClean_execTachEdge (h : HeldClean s) (n : Nat) : KeepsClean (execTachEdge n s) := by
  refine keepsClean_ite h fun _ => ?_
  split
  · exact keepsClean_rounds h rfl
  · dsimp only
    split
    · exact keepsClean_next h
    · exact keepsClean_settled_rounds h (rounds_speedDelivered _ _)

theorem keepsClean_execTachTimeout (h : HeldClean s) : KeepsClean (execTachTimeout s) := by
  unfold execTachTimeout
  split
  · exact keepsClean_next h
  · exact keepsClean_ite h fun _ => keepsClean_settled_rounds h (rounds_speedDelivered _ _)

/-- The hour seconds of a part held in reset stand at 0. -/
theorem keepsClean_execHourRollover (h : HeldClean s) (p : Pos) : KeepsClean (execHourRollover p s) := by
  refine keepsClean_ite h fun hhour => keepsClean_running (fun hheld => ?_) (hourRollover_phase s p)
  obtain ⟨-, -, -, -, -, -, -, -, -, hsit⟩ := h hheld
  rw [hsit p] at hhour
  simp at hhour

theorem keepsClean_execGrantCountdown (h : HeldClean s) : KeepsClean (execGrantCountdown s) :=
  keepsClean_ite h fun _ => keepsClean_of_idle h (recomputeSurplus_phase _) fun hidle =>
    rounds_recomputeSurplus_of_idle _ hidle

theorem dueStep_stage {c : Ch} {st : Stage} {w : Wait} (hw : dueStep s c st = some w) : (s.chan.get c).stage = st :=
  (dueStep_spec hw).1

theorem keepsClean_execTransferOutTimeout (h : HeldClean s) (c : Ch) : KeepsClean (execTransferOutTimeout c s) := by
  unfold execTransferOutTimeout
  split
  next w hw =>
    exact keepsClean_running (phase_of_stage h (dueStep_stage hw) (by decide)) (outTimeout_phase (atLeastMs s _) c _)
  next => exact keepsClean_next h

theorem keepsClean_execTransferBackTimeout (h : HeldClean s) (c : Ch) :
    KeepsClean (execTransferBackTimeout c s) := by
  unfold execTransferBackTimeout
  split
  next w hw =>
    exact keepsClean_running (phase_of_stage h (dueStep_stage hw) (by decide)) (backTimeout_phase (atLeastMs s _) c _)
  next => exact keepsClean_next h

theorem keepsClean_execRampStep (h : HeldClean s) (c : Ch) : KeepsClean (execRampStep c s) :=
  keepsClean_ite h fun ⟨hst, _⟩ => keepsClean_running (phase_of_stage h hst (by decide)) (rampStep_phase s c)

theorem keepsClean_execHoldMinute (h : HeldClean s) (c : Ch) : KeepsClean (execHoldMinute c s) :=
  keepsClean_ite h fun ⟨hhold, _⟩ =>
    keepsClean_running (phase_of_stage h (by simpa [inHold] using hhold) (by decide)) (holdMinute_phase s c)

theorem keepsClean_execSettleEnd (h : HeldClean s) (c : Ch) : KeepsClean (execSettleEnd c s) :=
  keepsClean_ite h fun ⟨hst, _⟩ => keepsClean_running (phase_of_stage h hst (by decide)) (settleEnd_phase s c)

theorem keepsClean_execGiveUp (h : HeldClean s) (c : Ch) : KeepsClean (execGiveUp c s) := by
  unfold execGiveUp
  split
  next hst _ => exact keepsClean_ite h fun _ => keepsClean_running (phase_of_stage h hst (by decide)) (giveUp_phase s c)
  next => exact keepsClean_next h

/-- A part held in reset has no context to age. -/
theorem keepsClean_execAgeMinute (h : HeldClean s) (p : Pos) : KeepsClean (execAgeMinute p s) := by
  unfold execAgeMinute
  split
  next c hholder =>
    have hrun : s.phase ≠ .held := by
      intro hheld
      rw [holder_of_idle s p (channelsIdle_of_held h hheld)] at hholder
      cases hholder
    exact keepsClean_ite h fun _ => keepsClean_next (heldClean_of_running hrun rfl)
  next =>
    split
    next e he =>
      have hrun : s.phase ≠ .held := by
        intro hheld
        obtain ⟨-, hnone⟩ := noCandidates_of_held h hheld
        simp [heldOf, hnone] at he
      exact keepsClean_ite h fun _ => keepsClean_running hrun (heldMinute_phase s e)
    next => exact keepsClean_next h

theorem keepsClean_execLowSpeedExpiry (h : HeldClean s) : KeepsClean (execLowSpeedExpiry s) :=
  keepsClean_ite h fun _ => keepsClean_of_idle h (ventFails_phase s) (rounds_ventFails_of_idle s)

theorem keepsClean_execGraceExpiry (h : HeldClean s) : KeepsClean (execGraceExpiry s) :=
  keepsClean_ite h fun _ => keepsClean_of_idle h (deliverCause_phase _ _ _) fun hidle => by
    rw [deliverCause_of_idle (s.modPerm _) hidle _ _ rfl]
    rfl

theorem keepsClean_execManualDoseEnd (h : HeldClean s) : KeepsClean (execManualDoseEnd s) := by
  unfold execManualDoseEnd
  split
  · exact keepsClean_ite h fun _ => keepsClean_rounds h rfl
  · exact keepsClean_next h

theorem keepsClean_execNotice (h : HeldClean s) : KeepsClean (execNotice s) := by
  refine keepsClean_ite h fun _ => ?_
  split
  · split
    · exact keepsClean_rounds h rfl
    · exact keepsClean_next h
  · exact keepsClean_next h

theorem keepsClean_execLogRecord (h : HeldClean s) : KeepsClean (execLogRecord s) := by
  unfold execLogRecord; dsimp only
  split
  · exact keepsClean_next h
  · split
    · exact keepsClean_next h
    · split <;> exact keepsClean_rounds h rfl

theorem keepsClean_execLogEnd (h : HeldClean s) : KeepsClean (execLogEnd s) := by
  unfold execLogEnd
  split
  · exact keepsClean_next h
  · split
    · exact keepsClean_next h
    · exact keepsClean_rounds h rfl

theorem keepsClean_execFrameReceived (h : HeldClean s) (b : Byte) : KeepsClean (execFrameReceived b s) :=
  keepsClean_ite h fun ⟨hready, _⟩ =>
    keepsClean_next (heldClean_of_running (by simp [hready]) (completeFrame_phase s b))

theorem keepsClean_execReceivedByte (h : HeldClean s) (b : Byte) : KeepsClean (execReceivedByte b s) :=
  keepsClean_ite h fun hready => keepsClean_next (heldClean_of_running (by simp [hready]) (framerByte_phase s b))

/-! #### Requests with their rules written in the command -/

theorem keepsClean_execUnknownKind (h : HeldClean s) : KeepsClean (execUnknownKind s) := by
  unfold execUnknownKind
  exact keepsClean_serve h _ _ fun _ _ => rfl

theorem keepsClean_execIdentify (h : HeldClean s) : KeepsClean (execIdentify s) := by
  unfold execIdentify
  exact keepsClean_serveKind h _ _ fun _ _ => rfl

theorem keepsClean_execSetClock (h : HeldClean s) : KeepsClean (execSetClock s) := by
  unfold execSetClock
  exact keepsClean_serveKind h _ _ fun _ _ => rfl

theorem keepsClean_execReadTemperatures (h : HeldClean s) : KeepsClean (execReadTemperatures s) := by
  unfold execReadTemperatures
  exact keepsClean_serve h _ _ fun _ _ => by split <;> rfl

theorem keepsClean_execReadTemperatureDetail (h : HeldClean s) : KeepsClean (execReadTemperatureDetail s) := by
  unfold execReadTemperatureDetail
  exact keepsClean_serve h _ _ fun _ _ => rfl

theorem keepsClean_execReadPlant (h : HeldClean s) : KeepsClean (execReadPlant s) := by
  unfold execReadPlant
  exact keepsClean_serveKind h _ _ fun _ _ => rfl

theorem keepsClean_execReadQueue (h : HeldClean s) : KeepsClean (execReadQueue s) := by
  unfold execReadQueue
  exact keepsClean_serveKind h _ _ fun _ _ => by dsimp only; split <;> rfl

theorem keepsClean_execReadHeld (h : HeldClean s) : KeepsClean (execReadHeld s) := by
  unfold execReadHeld
  exact keepsClean_serve h _ _ fun _ _ => by split <;> rfl

theorem keepsClean_execReadHeldDetail (h : HeldClean s) : KeepsClean (execReadHeldDetail s) := by
  unfold execReadHeldDetail
  exact keepsClean_serve h _ _ fun _ _ => by split <;> rfl

theorem keepsClean_execReadWeak (h : HeldClean s) : KeepsClean (execReadWeak s) := by
  unfold execReadWeak
  exact keepsClean_serveKind h _ _ fun _ _ => by dsimp only; split <;> rfl

theorem keepsClean_execReadConditions (h : HeldClean s) : KeepsClean (execReadConditions s) := by
  unfold execReadConditions
  refine keepsClean_serveKind h _ _ fun _ _ => ?_
  dsimp only
  split
  · rfl
  · split <;> rfl

theorem keepsClean_execClearConditions (h : HeldClean s) : KeepsClean (execClearConditions s) :=
  keepsClean_serve h _ _ serveClearConditions_phase

theorem keepsClean_execStopLog (h : HeldClean s) : KeepsClean (execStopLog s) := by
  unfold execStopLog
  exact keepsClean_serveKind h _ _ fun _ _ => rfl

/-! #### The whole table -/

/-- Every command leaves a clean part clean. -/
theorem keepsClean_exec (h : HeldClean s) (i : Instr) : KeepsClean (exec i s) := by
  have hline : ∀ (c : Prop) [Decidable c] (st : LineStage) (t : State), (c → s.line.stage = st) → st ≠ .free →
      t.phase = s.phase → KeepsClean (if c then settled t else .next s) :=
    fun c _ st t hst hbusy hphase =>
      keepsClean_ite h fun hc => keepsClean_running (phase_of_line h (hst hc) hbusy) hphase
  have hrounds : ∀ (c : Prop) [Decidable c] (t : State), t.rounds = s.rounds →
      KeepsClean (if c then settled t else .next s) :=
    fun c _ t ht => keepsClean_ite h fun _ => keepsClean_settled_rounds h ht
  cases i with
  | powerOn => exact keepsClean_next (heldClean_afterReset s _ _)
  | resetN => exact keepsClean_execResetN s
  | resetRelease => exact keepsClean_execResetRelease h
  | ready => exact keepsClean_ite h fun _ => keepsClean_next (heldClean_of_phase (by simp))
  | sampleInstant levels => exact keepsClean_execSampleInstant h levels
  | slotStart => exact keepsClean_execSlotStart h
  | scanCompletion cells => exact keepsClean_execScanCompletion h cells
  | currentSample amps => exact keepsClean_execCurrentSample h amps
  | conversionCompletion gateTh gateRef => exact keepsClean_execConversionCompletion h gateTh gateRef
  | flowPulse => exact keepsClean_execFlowPulse h
  | flowRest => exact keepsClean_rounds h rfl
  | tachEdge atMicros => exact keepsClean_execTachEdge h atMicros
  | tachTimeout => exact keepsClean_execTachTimeout h
  | hourRollover p => exact keepsClean_execHourRollover h p
  | grantCountdown => exact keepsClean_execGrantCountdown h
  | minuteEvaluation => exact hrounds _ _ rfl
  | transferOutTimeout c => exact keepsClean_execTransferOutTimeout h c
  | transferBackTimeout c => exact keepsClean_execTransferBackTimeout h c
  | rampStep c => exact keepsClean_execRampStep h c
  | holdMinute c => exact keepsClean_execHoldMinute h c
  | settleEnd c => exact keepsClean_execSettleEnd h c
  | giveUp c => exact keepsClean_execGiveUp h c
  | ageMinute p => exact keepsClean_execAgeMinute h p
  | runOnExpiry => exact hrounds _ _ (by simp)
  | lowSpeedExpiry => exact keepsClean_execLowSpeedExpiry h
  | recoveryExpiry => exact hrounds _ _ (by simp)
  | purgeEnd => exact hrounds _ _ (by simp)
  | graceExpiry => exact keepsClean_execGraceExpiry h
  | primingEnd => exact hline _ .priming _ And.left (by decide) (by simp)
  | primeTimeout => exact hline _ .dosing _ And.left (by decide) (by simp)
  | flowStop => exact hline _ .dosing _ And.left (by decide) (by simp)
  | pauseEnd => exact hline _ .pause _ And.left (by decide) (by simp)
  | closingEnd => exact hline _ .closing _ And.left (by decide) (by simp)
  | manualDoseEnd => exact keepsClean_execManualDoseEnd h
  | notice => exact keepsClean_execNotice h
  | logRecord => exact keepsClean_execLogRecord h
  | logEnd => exact keepsClean_execLogEnd h
  | messageSent => exact keepsClean_rounds h rfl
  | frameReceived byte => exact keepsClean_execFrameReceived h byte
  | unknownKind => exact keepsClean_execUnknownKind h
  | identify => exact keepsClean_execIdentify h
  | readStatus => exact keepsClean_serveKind h _ _ readStatusReply_phase
  | setClock => exact keepsClean_execSetClock h
  | readString => exact keepsClean_serveKind h _ _ readStringReply_phase
  | readCells => exact keepsClean_serveKind h _ _ readCellsReply_phase
  | readTemperatures => exact keepsClean_execReadTemperatures h
  | readTemperatureDetail => exact keepsClean_execReadTemperatureDetail h
  | readPlant => exact keepsClean_execReadPlant h
  | setSetting => exact keepsClean_serveKind h _ _ serveSetSetting_phase
  | storeWriteEnd => exact keepsClean_ite h fun _ => keepsClean_rounds h rfl
  | readSetting => exact keepsClean_serveKind h _ _ readSettingReply_phase
  | submitRound => exact keepsClean_serveKind h _ _ serveSubmitRound_phase
  | cancelRound => exact keepsClean_serveKind h _ _ serveCancelRound_phase
  | readQueue => exact keepsClean_execReadQueue h
  | readHeld => exact keepsClean_execReadHeld h
  | readHeldDetail => exact keepsClean_execReadHeldDetail h
  | supplyGrant => exact keepsClean_serveKind h _ _ serveSupplyGrant_phase
  | claimLine => exact keepsClean_serveKind h _ _ serveClaimLine_phase
  | releaseLine => exact keepsClean_serveKind h _ _ serveReleaseLine_phase
  | manualDose => exact keepsClean_serveKind h _ _ serveManualDose_phase
  | refill => exact keepsClean_serveKind h _ _ serveRefill_phase
  | readWeak => exact keepsClean_execReadWeak h
  | clearWeak => exact keepsClean_serveKind h _ _ serveClearWeak_phase
  | releaseLock => exact keepsClean_serveKind h _ _ serveReleaseLock_phase
  | setNoticeMaster => exact keepsClean_serveKind h _ _ serveSetNoticeMaster_phase
  | readConditions => exact keepsClean_execReadConditions h
  | clearConditions => exact keepsClean_execClearConditions h
  | readLog => exact keepsClean_serveKind h _ _ serveReadLog_phase
  | stopLog => exact keepsClean_execStopLog h
  | restart => exact keepsClean_serveKind h _ _ serveRestart_phase
  | finalStep => exact keepsClean_execFinalStep h
  | receivedByte byte => exact keepsClean_execReceivedByte h byte

/-- Every step leaves a clean part clean. -/
theorem keepsClean_step (h : HeldClean s) : KeepsClean (step s) := by
  unfold step
  split
  next i rest _ => exact keepsClean_exec (s := { s with pending := rest }) h i
  next =>
    refine keepsClean_next ?_
    rcases passTime_cases s with hsame | ⟨-, hmoved⟩
    · rw [hsame]; exact h
    · rw [hmoved]; exact h

end

/-! ### The release of a part without rounds -/

/-- The roles do not look at the contactors' commands. -/
theorem PlantLaws.recommand {r : Prop} {v : PlantView} (h : PlantLaws r False v) (kf ke : Pos → Contact) :
    PlantLaws r False { v with kf := kf, ke := ke } := by
  refine ⟨h.idle, h.call, h.own, h.quiet, fun hr => ?_, False.elim⟩
  obtain ⟨hchannel, hheld, honce, hline, hunfitted⟩ := h.roles hr
  exact ⟨hchannel, hheld, honce, hline, hunfitted⟩

/-- The load of the settings into a clean part leaves the view of a reset, the contactors' commands aside. -/
theorem view_loadSettings_of_clean {s : State} (h : HeldClean s) (hheld : s.phase = .held) :
    (loadSettings s).view =
      { PlantView.atReset (fitted (loadSettings s)) with kf := s.out.kf.get, ke := s.out.ke.get } := by
  obtain ⟨-, -, -, hlist, hchan, -, howner, -⟩ := h hheld
  unfold loadSettings; dsimp only
  rw [view_deriveFromSettings]
  refine PlantView.ext (funext fun c => ?_) rfl ?_ ?_ rfl rfl rfl rfl rfl
  · show (s.chan.get c).view = _
    rw [hchan c]; rfl
  · show s.held.entries.map _ = []
    rw [hlist]; rfl
  · show s.line.round = none
    simp [Line.round, howner]

/-- RESET_RELEASE of a clean part leaves every fitted string FLOAT and no round anywhere (R54, R189). -/
theorem keepsLaws_execResetRelease_of_clean {s : State} (h : HeldClean s) (hheld : s.phase = .held) :
    KeepsLaws True False (execResetRelease s) := by
  rw [execResetRelease, if_pos hheld]
  refine keepsLaws_settled ?_
  rw [Lawful, view_initialTests, view_recoverRecords]
  show PlantLaws True False (loadSettings s).view
  rw [view_loadSettings_of_clean h hheld]
  exact (lawful_atReset True False _).recommand _ _

/-- Every command keeps the roles of a clean part in agreement. -/
theorem keepsRoles_exec {s : State} (hroles : Lawful True False s) (h : HeldClean s) (i : Instr) :
    KeepsLaws True False (exec i s) := by
  by_cases hrelease : i = .resetRelease
  · subst hrelease
    by_cases hheld : s.phase = .held
    · exact keepsLaws_execResetRelease_of_clean h hheld
    · show KeepsLaws True False (execResetRelease s)
      rw [execResetRelease, if_neg hheld]
      exact keepsLaws_next hroles
  · exact keepsLaws_exec hroles trivial i hrelease

/-- Every step keeps the roles of a clean part in agreement. -/
theorem keepsRoles_step {s : State} (hroles : Lawful True False s) (h : HeldClean s) :
    KeepsLaws True False (step s) := by
  unfold step
  split
  next i rest _ => exact keepsRoles_exec (s := { s with pending := rest }) hroles h i
  next =>
    refine keepsLaws_next ?_
    rcases passTime_cases s with hsame | ⟨-, hmoved⟩
    · rw [hsame]; exact hroles
    · rw [hmoved]; exact hroles

/-- Settles O55: the roles are a part of what every command keeps but a release of a part with rounds, which a clean
part does not hold. -/
theorem rolesStayInAgreement : Obligations.RolesStayInAgreement := by
  intro s t hroles hclean hstep
  have hlawful : Lawful True False s := (rolesAgree_iff s).1 hroles
  exact ⟨(rolesAgree_iff t).2 (keepsRoles_step hlawful hclean t hstep), keepsClean_step hclean t hstep⟩

end Sys2Proof.Machine
end

-- ==== Proofs: the bounded lists and what writes them ====
section
/-! PROOFS. The lengths that the capacities bound (R71, R130, R161, R167, R181), what writes one of those lists, and the
operations of the blocks, which keep the bounds. One lemma per operation, in the order of the definitions; an operation
that writes none of the lists keeps the bounds as they are. -/

namespace Sys2Proof.Machine

open Sys2Proof.Safety

/-! ### What the capacities look at -/

/-- The lengths of the lists that the manual bounds. -/
structure Lengths where
  queue : Nat
  held : Nat
  ring : Nat
  weak : Nat
  inbound : Nat
  outbound : Nat

/-- The lengths of a state's lists. -/
def State.lengths (s : State) : Lengths :=
  { queue := s.queue.entries.length
    held := s.held.entries.length
    ring := s.log.ring.length
    weak := s.weak.entries.length
    inbound := s.link.inbound.length
    outbound := s.link.outbound.length }

/-- Every list is within its capacity, and the Outbound Queue holds at most `out` messages: a request is taken with 7
there at most, and its reply is the eighth (R181). -/
structure Lengths.Within (out : Nat) (v : Lengths) : Prop where
  queue : v.queue ≤ 12
  held : v.held ≤ 4
  ring : v.ring ≤ 64
  weak : v.weak ≤ 32
  inbound : v.inbound ≤ 4
  outbound : v.outbound ≤ out

/-- The lists of a state are within their capacities. -/
abbrev Bounded (out : Nat) (s : State) : Prop := s.lengths.Within out

/-- The law of the capacities is the bound with the whole Outbound Queue. -/
theorem capacities_iff (s : State) : Capacities s ↔ Bounded 8 s :=
  ⟨fun ⟨hqueue, hheld, hring, hweak, hin, hout⟩ => ⟨hqueue, hheld, hring, hweak, hin, hout⟩,
    fun ⟨hqueue, hheld, hring, hweak, hin, hout⟩ => ⟨hqueue, hheld, hring, hweak, hin, hout⟩⟩

section
variable {out : Nat} {s : State}

/-- What is done to one item after another keeps the bounds. -/
theorem bounded_foldl {α : Type} (f : State → α → State) (hf : ∀ t a, Bounded out t → Bounded out (f t a))
    (l : List α) {s : State} (h : Bounded out s) : Bounded out (l.foldl f s) := by
  induction l generalizing s with
  | nil => exact h
  | cons a l ih => exact ih (hf s a h)

/-! ### What writes a bounded list -/

/-- An entry placed makes the queue one longer, whatever its class (R71). -/
theorem length_placeIn (q : List Entry) (e : Entry) : (placeIn q e).length = q.length + 1 := by
  have hsplit := congrArg List.length (List.takeWhile_append_dropWhile (p := fun x : Entry => x.cls == .urgent) (l := q))
  rw [List.length_append] at hsplit
  unfold placeIn
  split
  · rw [List.length_append, List.length_cons]; omega
  · rw [List.length_append, List.length_singleton]

/-- An entry is placed where the queue has room. -/
theorem bounded_placeEntry (h : Bounded out s) (e : Entry) (hroom : s.queue.entries.length < 12) :
    Bounded out (placeEntry s e) := by
  refine ⟨?_, h.held, h.ring, h.weak, h.inbound, h.outbound⟩
  show (placeIn s.queue.entries e).length ≤ 12
  rw [length_placeIn]
  exact hroom

/-- A queue of no more entries than before is within its capacity. -/
theorem bounded_setQueue (h : Bounded out s) {q : RoundQueue} (hq : q.entries.length ≤ s.queue.entries.length) :
    Bounded out { s with queue := q } :=
  ⟨hq.trans h.queue, h.held, h.ring, h.weak, h.inbound, h.outbound⟩

theorem bounded_removeEntries (h : Bounded out s) (p : Pos) : Bounded out (removeEntries s p) :=
  bounded_setQueue h (List.length_filter_le _ _)

/-- An offer places an entry only in a queue that is not full (R75). -/
theorem bounded_offer (h : Bounded out s) (p : Pos) (k : Kind) (o : Origin) (tag : Byte) :
    Bounded out (offer s p k o tag).1 := by
  unfold offer
  split
  · exact h
  split
  · exact h
  split
  next => exact h
  next hroom => exact bounded_placeEntry h _ (by simpa [Config.queueCap] using hroom)

/-- A full ring loses its oldest record before it takes one (R161). -/
theorem bounded_writeRecord (h : Bounded out s) (r : Record) : Bounded out (writeRecord s r) := by
  refine ⟨h.queue, h.held, ?_, h.weak, h.inbound, h.outbound⟩
  have hring : s.log.ring.length ≤ 64 := h.ring
  show (writeRecord s r).log.ring.length ≤ 64
  rw [writeRecord_log]
  simp only [List.length_append, List.length_drop, List.length_singleton]
  omega

/-- A list of held rounds that is no longer than before is within its capacity. -/
theorem bounded_setHeld (h : Bounded out s) {l : HeldList} (hl : l.entries.length ≤ s.held.entries.length) :
    Bounded out { s with held := l } :=
  ⟨h.queue, hl.trans h.held, h.ring, h.weak, h.inbound, h.outbound⟩

theorem bounded_removeHeld (h : Bounded out s) (e : Held) : Bounded out (removeHeld s e) :=
  bounded_setHeld h (List.length_filter_le _ _)

/-- A context is appended where the Held Rounds List has room (R130). -/
theorem bounded_appendHeld (h : Bounded out s) (e : Held) (gen : Nat) (hroom : s.held.entries.length < 4) :
    Bounded out { s with held := { entries := s.held.entries ++ [e], gen := gen } } := by
  refine ⟨h.queue, ?_, h.ring, h.weak, h.inbound, h.outbound⟩
  show (s.held.entries ++ [e]).length ≤ 4
  rw [List.length_append]
  exact hroom

/-- The Weak Cell List takes a fresh cell only while it is not full (R167). -/
theorem bounded_weakOffer (h : Bounded out s) (p : Pos) (cell deficit : Nat) :
    Bounded out (weakOffer s p cell deficit).1 := by
  have hweak : s.weak.entries.length ≤ 32 := h.weak
  unfold weakOffer
  split
  · exact ⟨h.queue, h.held, h.ring, (List.length_map _).trans_le hweak, h.inbound, h.outbound⟩
  split
  next hroom =>
    refine ⟨h.queue, h.held, h.ring, ?_, h.inbound, h.outbound⟩
    show (s.weak.entries ++ [_]).length ≤ 32
    rw [List.length_append]
    exact hroom
  next => exact h

/-- A message takes a place of the Outbound Queue (R181). -/
theorem bounded_placeMessage (h : Bounded out s) (f : Frame) : Bounded (out + 1) (placeMessage s f) := by
  refine ⟨h.queue, h.held, h.ring, h.weak, h.inbound, ?_⟩
  show (s.link.outbound ++ [f]).length ≤ out + 1
  rw [List.length_append]
  exact Nat.succ_le_succ h.outbound

/-- What free places say of the Outbound Queue (R181). -/
theorem outbound_of_freePlaces {n : Nat} (hfree : n < freePlaces s) : s.link.outbound.length ≤ 7 - n := by
  simp only [freePlaces, Config.outboundCap] at hfree
  omega

/-- A message placed where the Outbound Queue has a free place. -/
theorem bounded_placeMessage_of_free (h : Bounded out s) (f : Frame) (hfree : 0 < freePlaces s) :
    Bounded 8 (placeMessage s f) :=
  bounded_placeMessage (out := 7)
    ⟨h.queue, h.held, h.ring, h.weak, h.inbound, outbound_of_freePlaces hfree⟩ f

theorem bounded_reply (h : Bounded out s) (f : Frame) (st : Status) (l : List Byte) :
    Bounded (out + 1) (reply s f st l) := bounded_placeMessage h _

theorem bounded_refuse (h : Bounded out s) (f : Frame) (r : Reason) : Bounded (out + 1) (refuse s f r) :=
  bounded_placeMessage h _

theorem bounded_cancelReply (h : Bounded out s) (f : Frame) (st : Status) (pl : Place) :
    Bounded (out + 1) (cancelReply s f st pl) := bounded_placeMessage h _

/-! ### Updates that leave the lists alone -/

section
variable (s : State)

@[simp] theorem lengths_modSit (p : Pos) (f : StringSituation → StringSituation) :
    (s.modSit p f).lengths = s.lengths := rfl
@[simp] theorem lengths_modHist (p : Pos) (f : StringHistory → StringHistory) :
    (s.modHist p f).lengths = s.lengths := rfl
@[simp] theorem lengths_modChan (c : Ch) (f : Channel → Channel) : (s.modChan c f).lengths = s.lengths := rfl
@[simp] theorem lengths_modCtx (c : Ch) (f : Context → Context) : (s.modCtx c f).lengths = s.lengths := rfl
@[simp] theorem lengths_modCall (c : Ch) (f : Call → Call) : (s.modCall c f).lengths = s.lengths := rfl
@[simp] theorem lengths_modPerm (f : Permissions → Permissions) : (s.modPerm f).lengths = s.lengths := rfl
@[simp] theorem lengths_modLine (f : Line → Line) : (s.modLine f).lengths = s.lengths := rfl
@[simp] theorem lengths_wantReserve : s.wantReserve.lengths = s.lengths := rfl
@[simp] theorem lengths_wantAdmission : s.wantAdmission.lengths = s.lengths := rfl
@[simp] theorem lengths_event (c : Condition) (n v : Nat) (l : Option Level) :
    (s.event c n v l).lengths = s.lengths := rfl
@[simp] theorem lengths_setEnable (c : Ch) (on : Bool) : (setEnable s c on).lengths = s.lengths := rfl
@[simp] theorem lengths_setLimit (c : Ch) (n : Nat) : (setLimit s c n).lengths = s.lengths := rfl
@[simp] theorem lengths_commandKe (p : Pos) (k : Contact) : (commandKe s p k).lengths = s.lengths := rfl
@[simp] theorem lengths_commandKs (p : Pos) (k : Ch) : (commandKs s p k).lengths = s.lengths := rfl
@[simp] theorem lengths_stopWait (c : Ch) : (stopWait s c).lengths = s.lengths := rfl
@[simp] theorem lengths_startWait (c : Ch) (k : Contactor) : (startWait s c k).lengths = s.lengths := rfl
@[simp] theorem lengths_withdrawCall (c : Ch) : (withdrawCall s c).lengths = s.lengths := rfl
@[simp] theorem lengths_setEqLock (p : Pos) (r : EqLockReason) : (setEqLock s p r).lengths = s.lengths := rfl
@[simp] theorem lengths_setWaterLock (p : Pos) : (setWaterLock s p).lengths = s.lengths := rfl
@[simp] theorem lengths_markRoundOpen (p : Pos) (k : Kind) : (markRoundOpen s p k).lengths = s.lengths := rfl
@[simp] theorem lengths_historyUpdate (p : Pos) : (historyUpdate s p).lengths = s.lengths := rfl
@[simp] theorem lengths_enterIsolated (p : Pos) (r : Isolation) : (enterIsolated s p r).lengths = s.lengths := rfl
@[simp] theorem lengths_leaveIsolated (p : Pos) : (leaveIsolated s p).lengths = s.lengths := rfl
@[simp] theorem lengths_cutFlags (c : Ch) (defer : Bool) : (cutFlags s c defer).lengths = s.lengths := rfl
@[simp] theorem lengths_contactorFault (c : Ch) (p : Pos) (k : Contactor) (l : Option Level) :
    (contactorFault s c p k l).lengths = s.lengths := by simp [contactorFault]

end

/-! ### Outputs, Site Permissions, stages -/

theorem bounded_recomputeOnBus (h : Bounded out s) (p : Pos) : Bounded out (recomputeOnBus s p) := by
  rw [← recomputeOnBus_frame]; exact h
theorem bounded_commandKf (h : Bounded out s) (p : Pos) (k : Contact) : Bounded out (commandKf s p k) := by
  rw [← commandKf_frame]; exact h
theorem bounded_ventMonitor (h : Bounded out s) : Bounded out (ventMonitor s) := by
  rw [← ventMonitor_frame]; exact h
theorem bounded_recomputeFan (h : Bounded out s) : Bounded out (recomputeFan s) := by
  rw [← recomputeFan_frame]; exact h
theorem bounded_stageDelivered (h : Bounded out s) (st : Stage) : Bounded out (stageDelivered s st) := by
  rw [← stageDelivered_frame]; exact h
theorem bounded_writeDirect (h : Bounded out s) (c : Ch) : Bounded out (writeDirect s c) := by
  rw [← writeDirect_frame]; exact h
theorem bounded_writeHysteresis (h : Bounded out s) (c : Ch) : Bounded out (writeHysteresis s c) := by
  rw [← writeHysteresis_frame]; exact h
theorem bounded_setStage (h : Bounded out s) (c : Ch) (st : Stage) : Bounded out (setStage s c st) := by
  rw [← setStage_frame]; exact h
theorem bounded_computeFloat (h : Bounded out s) : Bounded out (computeFloat s) := by
  rw [computeFloat_eq]; exact h

/-! ### The line -/

theorem bounded_enterDosing (h : Bounded out s) : Bounded out (enterDosing s) := by
  unfold enterDosing countDose; split <;> exact h
theorem bounded_closeLine (h : Bounded out s) (o : Outcome) : Bounded out (closeLine s o) := by
  rw [← closeLine_frame]; exact h
theorem bounded_lineTake (h : Bounded out s) (o : Owner) (p : Pos) (i : Option RoundIdentity)
    (d : Option ManualDose) : Bounded out (lineTake s o p i d) := by
  rw [← lineTake_frame]; exact h
theorem bounded_lineTakeCall (h : Bounded out s) (c : Ch) : Bounded out (lineTakeCall s c) := by
  rw [← lineTakeCall_frame]; exact h

theorem bounded_lineNext (h : Bounded out s) : Bounded out (lineNext s) := by
  unfold lineNext; dsimp only
  split
  · exact bounded_lineTakeCall (by simpa [Bounded] using h) _
  · exact h

theorem bounded_lineStop (h : Bounded out s) : Bounded out (lineStop s) := by
  unfold lineStop
  split
  · exact bounded_closeLine h _
  · exact h

/-! ### The String Table -/

theorem bounded_dueRise (h : Bounded out s) (p : Pos) : Bounded out (dueRise s p) := by
  unfold dueRise; dsimp only
  split
  · exact h
  · exact bounded_offer (by simpa [Bounded] using h) p _ _ _

theorem bounded_dueEvaluate (h : Bounded out s) (p : Pos) : Bounded out (dueEvaluate s p) := by
  unfold dueEvaluate
  split
  · split
    · exact h
    · exact bounded_dueRise h p
  · exact h

theorem bounded_dueEvaluateAll (h : Bounded out s) : Bounded out (dueEvaluateAll s) :=
  bounded_foldl _ (fun t p ht => by
    split
    · exact bounded_dueEvaluate ht p
    · exact ht) _ h

theorem bounded_hourRollover (h : Bounded out s) (p : Pos) : Bounded out (hourRollover s p) :=
  bounded_dueEvaluate (by simpa [Bounded] using h) p

theorem bounded_throughputAdd (h : Bounded out s) (p : Pos) (v : Int) : Bounded out (throughputAdd s p v) := by
  unfold throughputAdd
  split
  · exact bounded_dueEvaluate (by simpa [Bounded] using h) p
  · exact h

theorem bounded_levelDelivered (h : Bounded out s) (p : Pos) (k : DeliveryKind) :
    Bounded out (levelDelivered s p k) := by
  unfold levelDelivered; dsimp only
  split
  · split
    · split
      · exact bounded_offer (by simpa [Bounded] using h) p _ _ _
      · exact h
    · exact h
    · exact h
  · exact h

theorem bounded_recomputeSense (h : Bounded out s) (p : Pos) : Bounded out (recomputeSense s p) := by
  rw [← recomputeSense_frame]; exact h

theorem bounded_kfStuckTest (h : Bounded out s) (p : Pos) : Bounded out (kfStuckTest s p) := by
  unfold kfStuckTest; split <;> exact h

theorem bounded_stringKf (h : Bounded out s) (p : Pos) : Bounded out (stringKf s p) :=
  bounded_kfStuckTest (bounded_recomputeOnBus h p) p

theorem bounded_stringKe (h : Bounded out s) (p : Pos) : Bounded out (stringKe s p) := by
  unfold stringKe
  split
  · exact bounded_kfStuckTest (by simpa [Bounded] using bounded_commandKf h p _) p
  · exact h

theorem bounded_removePosition (h : Bounded out s) (p : Pos) : Bounded out (removePosition s p) := by
  have hremoved := bounded_removeEntries h p
  unfold removePosition; dsimp only
  generalize ht : ({ removeEntries s p with scan := _ } : State) = t
  have hunscanned : Bounded out t := by rw [← ht]; exact hremoved
  exact bounded_recomputeOnBus hunscanned p

theorem bounded_addPosition (h : Bounded out s) (p : Pos) : Bounded out (addPosition s p) := by
  unfold addPosition; dsimp only
  generalize ht : recomputeSense _ p = t
  have hsense : Bounded out t := by
    rw [← ht]
    exact bounded_recomputeSense (bounded_recomputeOnBus (by simpa [Bounded] using h) p) p
  exact bounded_dueEvaluate (by simpa [Bounded] using hsense) p

theorem bounded_changeFitted (h : Bounded out s) (n : Nat) : Bounded out (changeFitted s n) := by
  unfold changeFitted; dsimp only
  refine bounded_foldl _ (fun t p ht => ?_) _ (bounded_foldl _ (fun t p ht => ?_) _ h)
  · split
    · exact bounded_addPosition ht p
    · exact ht
  · split
    · exact bounded_removePosition ht p
    · exact ht

end

end Sys2Proof.Machine
end

-- ==== Proofs: the blocks keep the capacities ====
section
/-! PROOFS. The Equalise Channels, Round Admission, Site Permissions, the line and the samples keep the bounds of the
lists, and so does the settling of a step. -/

namespace Sys2Proof.Machine

open Sys2Proof.Safety

section
variable {out : Nat} {s : State}

/-! ### The return to the load bus -/

/-- The end of a round may offer its deferred watering, and writes its record (R116). -/
theorem bounded_endRound (h : Bounded out s) (c : Ch) (x : Context) (failed : Bool) :
    Bounded out (endRound s c x failed) := by
  unfold endRound; dsimp only
  refine bounded_stageDelivered (bounded_writeDirect (bounded_writeRecord ?_ _) c) _
  split
  · exact bounded_offer (by simpa [Bounded] using h) _ _ _ _
  · exact h

theorem bounded_suspension (h : Bounded out s) (c : Ch) (x : Context) (cause : Cause) :
    Bounded out (suspension s c x cause) := by
  unfold suspension; dsimp only
  split
  · exact bounded_endRound (by simpa [Bounded] using h) c _ _
  split
  next => exact bounded_endRound h c _ _
  next hroom =>
    generalize ht : ({ s.modChan c _ with held := _ } : State) = t
    have happended : Bounded out t := by
      rw [← ht]
      exact bounded_appendHeld (by simpa [Bounded] using h) _ _ (by simpa [Config.heldCap] using hroom)
    exact bounded_stageDelivered (bounded_writeDirect (by simpa [Bounded] using happended) c) _

theorem bounded_backComplete (h : Bounded out s) (c : Ch) : Bounded out (backComplete s c) := by
  have hstopped : Bounded out (stopWait s c) := h
  unfold backComplete; dsimp only
  split
  · exact hstopped
  split
  · exact hstopped
  split
  · exact bounded_suspension hstopped c _ _
  all_goals exact bounded_endRound hstopped c _ _

theorem bounded_backStep4 (h : Bounded out s) (c : Ch) : Bounded out (backStep4 s c) := by
  unfold backStep4
  split
  · exact h
  · exact bounded_backComplete (by simpa [Bounded] using h) c

theorem bounded_backStep3 (h : Bounded out s) (c : Ch) : Bounded out (backStep3 s c) := by
  unfold backStep3; dsimp only
  split
  · exact h
  split
  · split
    · exact bounded_backStep4 (bounded_commandKf h _ _) c
    · exact bounded_commandKf h _ _
  · exact bounded_backStep4 h c

theorem bounded_backStep2 (h : Bounded out s) (c : Ch) : Bounded out (backStep2 s c) := by
  unfold backStep2; dsimp only
  split
  · exact h
  split
  · split
    · exact bounded_backStep3 (by simpa [Bounded] using h) c
    · exact h
  · exact bounded_backStep3 h c

theorem bounded_enterBack (h : Bounded out s) (c : Ch) (e : Exit) : Bounded out (enterBack s c e) := by
  unfold enterBack; dsimp only
  generalize ht : State.modCtx _ c _ = t
  have hleft : Bounded out t := by rw [← ht]; exact h
  exact bounded_backStep2 (by simpa [Bounded] using bounded_setStage hleft c _) c

/-! ### Aborts, cuts, suspending causes -/

theorem bounded_keepFinalCell (h : Bounded out s) (c : Ch) : Bounded out (keepFinalCell s c) := by
  unfold keepFinalCell; split <;> exact h

theorem bounded_abortRound (h : Bounded out s) (c : Ch) (o : Outcome) : Bounded out (abortRound s c o) :=
  bounded_enterBack (by simpa [Bounded] using bounded_keepFinalCell h c) c _

theorem bounded_askStop (h : Bounded out s) (c : Ch) : Bounded out (askStop s c) := by
  unfold askStop
  split
  · exact h
  · exact bounded_lineStop (by simpa [Bounded] using h)

theorem bounded_cutRound (h : Bounded out s) (c : Ch) (defer h2 : Bool) : Bounded out (cutRound s c defer h2) := by
  unfold cutRound; dsimp only
  split
  · exact bounded_enterBack (by simpa [Bounded] using h) c _
  · split
    · split
      · exact h
      · split
        · exact h
        · exact bounded_askStop (by simpa [Bounded] using h) c
    · exact bounded_enterBack (by simpa [Bounded] using h) c _
  · exact h

theorem bounded_readingCause (h : Bounded out s) (c : Ch) (o : Outcome) : Bounded out (readingCause s c o) := by
  unfold readingCause
  split
  next => exact bounded_abortRound h c o
  next => exact bounded_abortRound h c o
  next => exact bounded_abortRound h c o
  next => exact bounded_cutRound h c _ _
  next => exact bounded_cutRound h c _ _
  next => exact h
  next => exact h

theorem bounded_suspendingCause (h : Bounded out s) (c : Ch) (cause : Cause) :
    Bounded out (suspendingCause s c cause) := by
  have hback : Bounded out (enterBack (keepFinalCell s c) c (.suspended cause)) :=
    bounded_enterBack (bounded_keepFinalCell h c) c _
  unfold suspendingCause
  split
  next => exact hback
  next => exact hback
  next => exact hback
  next => exact bounded_cutRound h c _ _
  next => exact bounded_cutRound h c _ _
  next => exact h
  next => exact h

theorem bounded_deliverCause (h : Bounded out s) (cause : Cause) (concerns : Stage → Bool) :
    Bounded out (deliverCause s cause concerns) :=
  bounded_foldl _ (fun t c ht => by
    split
    · exact bounded_suspendingCause ht c cause
    · exact ht) _ h

/-! ### Ramp and hold -/

theorem bounded_targetTest (h : Bounded out s) (c : Ch) : Bounded out (targetTest s c) := by
  unfold targetTest enterHold; dsimp only
  split
  · split
    · exact bounded_setStage (by simpa [Bounded] using h) c _
    · exact h
  · exact h

theorem bounded_enterRamp (h : Bounded out s) (c : Ch) : Bounded out (enterRamp s c) :=
  bounded_targetTest (bounded_setStage (by simpa [Bounded] using h) c _) c

theorem bounded_rampStep (h : Bounded out s) (c : Ch) : Bounded out (rampStep s c) :=
  bounded_targetTest (bounded_writeDirect (by simpa [Bounded] using h) c) c

theorem bounded_finish (h : Bounded out s) (c : Ch) (o : Outcome) : Bounded out (finish s c o) := by
  unfold finish
  split
  · exact h
  · exact bounded_setStage (by simpa [Bounded] using bounded_keepFinalCell h c) c _

theorem bounded_screenCell (h : Bounded out s) (c : Ch) (p : Pos) (mean cell mv : Nat) :
    Bounded out (screenCell s c p mean cell mv) := by
  unfold screenCell; dsimp only
  split
  · split <;> exact bounded_weakOffer h p _ _
  · exact h

theorem bounded_screenFrom (c : Ch) (p : Pos) (mean n : Nat) (l : List CellEntry) (h : Bounded out s) :
    Bounded out (screenFrom c p mean n l s) := by
  induction l generalizing n s with
  | nil => exact h
  | cons e l ih => exact ih (n + 1) (bounded_screenCell h c p mean n e.mv)

theorem bounded_screenCells (h : Bounded out s) (c : Ch) (p : Pos) : Bounded out (screenCells s c p) := by
  unfold screenCells
  split
  · exact bounded_screenFrom c p _ _ _ h
  · exact h

theorem bounded_windowEnd (h : Bounded out s) (c : Ch) : Bounded out (windowEnd s c) := by
  unfold windowEnd runawayAbort; dsimp only
  split
  · exact h
  split
  · exact bounded_screenCells h c _
  · generalize ht : screenCells (s.modCtx c _) c _ = t
    have hscreened : Bounded out t := by rw [← ht]; exact bounded_screenCells (by simpa [Bounded] using h) c _
    split
    · exact bounded_abortRound (by simpa [Bounded] using hscreened) c _
    split
    · exact bounded_finish (by simpa [Bounded] using hscreened) c _
    · exact hscreened

theorem bounded_holdWindow (h : Bounded out s) (c : Ch) : Bounded out (holdWindow s c) := by
  unfold holdWindow; dsimp only
  split
  · exact h
  split
  · split <;> exact bounded_windowEnd h c
  · exact h

theorem bounded_holdLimitTest (h : Bounded out s) (c : Ch) : Bounded out (holdLimitTest s c) := by
  unfold holdLimitTest
  split
  · exact h
  split
  · exact bounded_finish h c _
  · exact h

theorem bounded_holdMinute (h : Bounded out s) (c : Ch) : Bounded out (holdMinute s c) :=
  bounded_holdLimitTest (bounded_holdWindow (by simpa [Bounded] using h) c) c

theorem bounded_chargeSample (h : Bounded out s) (c : Ch) (amps : Eight Int) :
    Bounded out (chargeSample s c amps) := by
  unfold chargeSample; dsimp only
  split
  · exact h
  split
  · split
    · exact bounded_finish (by simpa [Bounded] using h) c _
    · exact h
  · exact h

/-! ### Readings of the held string -/

theorem bounded_holdback (h : Bounded out s) (c : Ch) (x : Context) : Bounded out (holdback s c x) :=
  bounded_targetTest (bounded_writeDirect (by simpa [Bounded] using h) c) c

theorem bounded_channelScan (h : Bounded out s) (p : Pos) : Bounded out (channelScan s p) := by
  have hlimit : ∀ (c : Ch) (x : Context) (mv : Nat),
      Bounded out (if s.cfg.cellMaxMv < mv then holdback s c x else s) := by
    intro c x mv
    split
    · exact bounded_holdback h c x
    · exact h
  unfold channelScan
  split
  · exact h
  split
  · split
    · exact bounded_readingCause h _ _
    · split
      · exact hlimit _ _ _
      · exact hlimit _ _ _
      all_goals exact h
  · exact h

theorem bounded_channelPilot (h : Bounded out s) (p : Pos) : Bounded out (channelPilot s p) := by
  unfold channelPilot; dsimp only
  split
  · exact h
  next c _ =>
    split
    · split
      · exact bounded_readingCause (by simpa [Bounded] using h) c _
      · exact h
    · split
      · exact bounded_readingCause h c _
      · exact h

theorem bounded_recomputeComp (h : Bounded out s) (p : Pos) : Bounded out (recomputeComp s p) := by
  unfold recomputeComp; dsimp only
  split
  · exact bounded_targetTest (bounded_writeHysteresis (s := compensated s p) h _) _
  · exact h

theorem bounded_setpointsChanged (h : Bounded out s) (floatToo : Bool) :
    Bounded out (setpointsChanged s floatToo) := by
  have hall : Bounded out (Pos.all.foldl recomputeComp s) :=
    bounded_foldl _ (fun _ p ht => bounded_recomputeComp ht p) _ h
  unfold setpointsChanged; dsimp only
  split
  · exact bounded_computeFloat hall
  · exact hall

/-! ### Leaving the load bus -/

theorem bounded_outStep4 (h : Bounded out s) (c : Ch) : Bounded out (outStep4 s c) := by
  unfold outStep4; dsimp only
  split
  · exact h
  split
  · exact bounded_enterRamp (by simpa [Bounded] using h) c
  · exact h

theorem bounded_outStep3 (h : Bounded out s) (c : Ch) : Bounded out (outStep3 s c) := by
  unfold outStep3; dsimp only
  split
  · exact h
  split
  · exact bounded_outStep4 (bounded_commandKf h _ _) c
  · exact bounded_commandKf h _ _

theorem bounded_outStep2 (h : Bounded out s) (c : Ch) : Bounded out (outStep2 s c) := by
  unfold outStep2; dsimp only
  split
  · exact h
  split
  · exact bounded_outStep3 (by simpa [Bounded] using h) c
  · exact h

theorem bounded_giveChannel (h : Bounded out s) (c : Ch) (x : Context) : Bounded out (giveChannel s c x) := by
  unfold giveChannel startTransferOut; dsimp only
  generalize ht : setStage _ c .transferOut = t
  have hout : Bounded out t := by
    rw [← ht]
    exact bounded_setStage (by simpa [Bounded] using h) c _
  exact bounded_outStep2 (by simpa [Bounded] using hout) c

/-! ### Contactor feedback, timeouts -/

theorem bounded_disagreement (h : Bounded out s) (c : Ch) (p : Pos) (k : Contactor) (l : Option Level) :
    Bounded out (disagreement s c p k l) := by
  unfold disagreement
  split
  · split
    · split
      · exact h
      · exact bounded_askStop (by simpa [Bounded] using h) c
    · exact bounded_abortRound (by simpa [Bounded] using h) c _
  · exact bounded_abortRound (by simpa [Bounded] using h) c _

theorem bounded_nextStep (h : Bounded out s) (c : Ch) (k : Contactor) : Bounded out (nextStep s c k) := by
  have hstopped : Bounded out (stopWait s c) := h
  unfold nextStep; dsimp only
  split
  · exact bounded_outStep3 hstopped c
  · exact bounded_outStep4 hstopped c
  · exact bounded_enterRamp hstopped c
  · exact bounded_backStep3 hstopped c
  · exact bounded_backStep4 hstopped c
  · exact hstopped

theorem bounded_channelFeedback (h : Bounded out s) (p : Pos) (k : Contactor) (l : Option Level) :
    Bounded out (channelFeedback s p k l) := by
  unfold channelFeedback; dsimp only
  split
  · exact h
  split
  · split
    · exact bounded_nextStep h _ k
    · exact h
  · split
    · exact bounded_disagreement h _ p k l
    · exact h

theorem bounded_outTimeout (h : Bounded out s) (c : Ch) (k : Contactor) : Bounded out (outTimeout s c k) := by
  unfold outTimeout
  split
  · exact h
  · exact bounded_abortRound (by simpa [Bounded] using h) c _

theorem bounded_backTimeout (h : Bounded out s) (c : Ch) (k : Contactor) : Bounded out (backTimeout s c k) := by
  unfold backTimeout; dsimp only
  split
  · exact h
  next x _ => exact bounded_endRound (by simpa [Bounded] using h) c _ _

/-! ### Settle, water, a Restart -/

theorem bounded_enterWater (h : Bounded out s) (c : Ch) : Bounded out (enterWater s c) := by
  unfold enterWater; dsimp only
  split
  · exact h
  split
  · exact bounded_enterBack h c _
  · generalize ht : setStage (s.modChan c _) c .water = t
    have hwater : Bounded out t := by rw [← ht]; exact bounded_setStage (by simpa [Bounded] using h) c _
    split
    · exact bounded_lineTakeCall hwater c
    · exact hwater

theorem bounded_settleEnd (h : Bounded out s) (c : Ch) : Bounded out (settleEnd s c) := by
  unfold settleEnd
  split
  · exact h
  split
  · exact bounded_enterWater h c
  · exact bounded_enterBack h c _

theorem bounded_giveUp (h : Bounded out s) (c : Ch) : Bounded out (giveUp s c) :=
  bounded_enterBack (by simpa [Bounded] using h) c _

theorem bounded_lineReturn (h : Bounded out s) (c : Ch) (w : WaterResult) : Bounded out (lineReturn s c w) := by
  unfold lineReturn; dsimp only
  split
  · exact h
  next k _ =>
    generalize ht : (s.modCtx c _).modChan c _ = t
    have hpopped : Bounded out t := by rw [← ht]; exact h
    split
    · split
      · exact bounded_backComplete hpopped c
      · exact hpopped
    · exact bounded_enterBack hpopped c _

theorem bounded_restartChannel (h : Bounded out s) (c : Ch) : Bounded out (restartChannel s c) := by
  have habort : ∀ waits : Bool,
      Bounded out (abortRound (if waits = true then withdrawCall s c else s) c .interrupted) := by
    intro waits
    refine bounded_abortRound ?_ c _
    split <;> exact h
  unfold restartChannel; dsimp only
  split
  · exact h
  · exact h
  all_goals exact habort _

/-! ### Round Admission -/

theorem bounded_admitHeld (h : Bounded out s) (e : Held) : Bounded out (admitHeld s e) := by
  unfold admitHeld
  split
  · exact bounded_giveChannel (bounded_removeHeld h e) _ _
  · exact h

theorem bounded_admitEntry (h : Bounded out s) (e : Entry) : Bounded out (admitEntry s e) := by
  unfold admitEntry giveLine; dsimp only
  generalize ht : markRoundOpen _ _ _ = t
  have htaken : Bounded out t := by
    rw [← ht]
    exact bounded_setQueue h (List.length_filter_le _ _)
  split
  · exact bounded_lineTake (by simpa [Bounded] using htaken) _ _ _ _
  all_goals
    split
    · exact bounded_giveChannel htaken _ _
    · exact htaken

theorem bounded_evaluatePasses (n : Nat) (h : Bounded out s) : Bounded out (evaluatePasses n s) := by
  induction n generalizing s with
  | zero => exact h
  | succ n ih =>
    unfold evaluatePasses
    split
    · exact ih (bounded_admitHeld h _)
    · exact ih (bounded_admitEntry h _)
    · exact h

theorem bounded_evaluate (h : Bounded out s) : Bounded out (evaluate s) := by
  unfold evaluate
  split
  · exact h
  · exact bounded_evaluatePasses _ h

/-! ### Site Permissions and the settling of a step -/

theorem bounded_recomputeSurplus (h : Bounded out s) : Bounded out (recomputeSurplus s) := by
  unfold recomputeSurplus surplusLost; dsimp only
  generalize ht : ({ s with supply := _ } : State) = t
  have hsurplus : Bounded out t := by rw [← ht]; exact h
  split
  · exact h
  split
  · exact hsurplus
  split
  · exact hsurplus
  split
  · exact bounded_deliverCause hsurplus _ _
  · exact hsurplus

theorem bounded_disableChargers (h : Bounded out s) : Bounded out (disableChargers s) :=
  bounded_foldl _ (fun t c ht => by split <;> exact ht) _ h

theorem bounded_lineHalt (h : Bounded out s) : Bounded out (lineHalt s) := by
  unfold lineHalt
  split
  · exact bounded_closeLine h _
  · exact h

theorem bounded_h2Start (h : Bounded out s) : Bounded out (h2Start s) := by
  have hdisabled : Bounded out (disableChargers (s.modPerm fun p => { p with h2Active := true })) :=
    bounded_disableChargers (by simpa [Bounded] using h)
  unfold h2Start; dsimp only
  rw [Bounded, lengths_event]
  exact bounded_recomputeFan (by simpa [Bounded] using bounded_lineHalt (bounded_deliverCause hdisabled _ _))

theorem bounded_h2Delivered (h : Bounded out s) : Bounded out (h2Delivered s) := by
  unfold h2Delivered
  split
  · split
    · exact h
    · exact bounded_h2Start h
  · split
    · exact bounded_recomputeFan (by simpa [Bounded] using h)
    · exact h
  · exact h

theorem bounded_speedDelivered (h : Bounded out s) (rpm : Nat) : Bounded out (speedDelivered s rpm) :=
  bounded_ventMonitor (by simpa [Bounded] using h)

theorem bounded_ventFails (h : Bounded out s) : Bounded out (ventFails s) :=
  bounded_deliverCause (by simpa [Bounded] using h) _ _

theorem bounded_ventRecovers (h : Bounded out s) : Bounded out (ventRecovers s) :=
  bounded_ventMonitor (by simpa [Bounded] using h)

theorem bounded_reserveTest (h : Bounded out s) : Bounded out (reserveTest s) := by
  unfold reserveTest; dsimp only
  split
  · exact h
  · generalize ht : (if s.perm.breach = true then s else _) = t
    have hbreach : Bounded out t := by
      rw [← ht]
      split <;> exact h
    split
    · exact hbreach
    · split
      · exact bounded_suspendingCause hbreach _ _
      · exact hbreach

theorem bounded_settleWith (n : Nat) (h : Bounded out s) : Bounded out (settleWith n s) := by
  induction n generalizing s with
  | zero => exact h
  | succ n ih =>
    unfold settleWith
    split
    · exact ih (bounded_reserveTest (s := { s with due := { s.due with reserve := false } }) h)
    · split
      · exact ih (bounded_evaluate (s := { s with due := { s.due with admission := false } }) h)
      · exact h

theorem bounded_settle (h : Bounded out s) : Bounded out (settle s) := bounded_settleWith 16 h

/-! ### Held rounds that end -/

theorem bounded_endHeld (h : Bounded out s) (e : Held) (o : Outcome) : Bounded out (endHeld s e o) :=
  bounded_writeRecord (by simpa [Bounded] using bounded_removeHeld h e) _

theorem bounded_expireHeld (h : Bounded out s) (e : Held) (why : Expiry) : Bounded out (expireHeld s e why) :=
  bounded_endHeld (by simpa [Bounded] using h) e _

theorem bounded_interruptHeld (h : Bounded out s) : Bounded out (interruptHeld s) :=
  bounded_foldl _ (fun _ e ht => bounded_endHeld ht e _) _ h

theorem bounded_suspendMaxLowered (h : Bounded out s) : Bounded out (suspendMaxLowered s) :=
  bounded_foldl _ (fun t e ht => by
    split
    · exact bounded_expireHeld ht e _
    · exact ht) _ h

theorem bounded_heldMinute (h : Bounded out s) (e : Held) : Bounded out (heldMinute s e) := by
  unfold heldMinute; dsimp only
  generalize ht : ({ s with held := _ } : State) = t
  have haged : Bounded out t := by rw [← ht]; exact bounded_setHeld h (List.length_map _).le
  split
  · exact bounded_expireHeld haged _ _
  · exact haged

/-! ### The account, pulses, the end of a watering -/

theorem bounded_reservoirTest (h : Bounded out s) : Bounded out (reservoirTest s) := by
  rw [← reservoirTest_frame]; exact h

theorem bounded_setAccount (h : Bounded out s) (n : Nat) : Bounded out (setAccount s n) := by
  unfold setAccount
  exact bounded_reservoirTest (s := { s with reservoir := _ }) h

theorem bounded_pulseTests (h : Bounded out s) : Bounded out (pulseTests s) := by
  unfold pulseTests overvolume
  split
  · split
    · exact bounded_closeLine h _
    · exact h
  split
  · split
    · exact h
    · exact bounded_closeLine (by simpa [Bounded] using h) _
  · split <;> exact h

theorem bounded_linePulse (h : Bounded out s) : Bounded out (linePulse s) := by
  unfold linePulse; dsimp only
  generalize ht : setAccount s _ = t
  have haccount : Bounded out t := by rw [← ht]; exact bounded_setAccount h _
  split
  · split
    · exact bounded_pulseTests (s := countPulse t) haccount
    · exact haccount
  · exact haccount

theorem bounded_lineResLow (h : Bounded out s) : Bounded out (lineResLow s) := by
  unfold lineResLow
  split
  · exact bounded_closeLine (by simpa [Bounded] using h) _
  · exact h

theorem bounded_endLineRound (h : Bounded out s) : Bounded out (endLineRound s) := by
  unfold endLineRound; dsimp only
  split
  · exact bounded_writeRecord (by simpa [Bounded] using h) _
  · exact h

/-- A Manual Dose End waits for a free place of the Outbound Queue (R152). -/
theorem bounded_handDoseEnd (h : Bounded 8 s) (d : DoseEnd) : Bounded 8 (handDoseEnd s d) := by
  unfold handDoseEnd
  split
  next hfree => exact bounded_placeMessage_of_free h _ hfree
  next => exact h

theorem bounded_closingEnd (h : Bounded 8 s) : Bounded 8 (closingEnd s) := by
  have hhandOn : ∀ t, Bounded 8 t → Bounded 8 (if t.line.claimEnded then lineNext t else backToManual t) := by
    intro t ht
    split
    · exact bounded_lineNext ht
    · exact ht
  unfold closingEnd; dsimp only
  split
  · exact bounded_lineNext (bounded_endLineRound h)
  · exact bounded_lineNext (bounded_lineReturn h _ _)
  · split
    · exact hhandOn _ (bounded_handDoseEnd h _)
    · exact hhandOn _ h
  · exact bounded_lineNext h

theorem bounded_restartLine (h : Bounded out s) : Bounded out (restartLine s) := by
  have hclose : ∀ host : Bool,
      Bounded out (if host = true then (closeLine s .stopped).modLine fun l => { l with claimEnded := true }
        else closeLine s .cancelled) := by
    intro host
    split
    · exact bounded_closeLine h .stopped
    · exact bounded_closeLine h .cancelled
  unfold restartLine; dsimp only
  split
  · exact hclose _
  · exact hclose _
  · exact hclose _
  · split <;> exact h
  · exact bounded_lineNext h
  · exact h

/-! ### Samples, scans, seconds, conversions -/

theorem bounded_deliver (h : Bounded out s) (i : InputId) (k : DeliveryKind) : Bounded out (deliver s i k) := by
  unfold deliver; dsimp only
  split
  · exact bounded_channelFeedback (bounded_stringKf h _) _ _ _
  · exact bounded_channelFeedback (bounded_stringKe h _) _ _ _
  · exact bounded_channelFeedback h _ _ _
  · exact bounded_levelDelivered h _ k
  · exact bounded_recomputeSurplus h
  · exact bounded_h2Delivered h
  · exact bounded_lineResLow h

theorem bounded_sampleInput (h : Bounded out s) (i : InputId) (l : Level) : Bounded out (sampleInput s i l) := by
  unfold sampleInput; dsimp only
  generalize ht : ({ s with inp := _ } : State) = t
  have hsampled : Bounded out t := by rw [← ht]; exact h
  split
  · exact bounded_settle (bounded_deliver hsampled i _)
  · exact hsampled

theorem bounded_sampleInputs (levels : BitVec 35) (l : List InputId) (n : Nat) (h : Bounded out s) :
    Bounded out (sampleInputs levels n l s) := by
  induction l generalizing n s with
  | nil => exact h
  | cons i l ih => exact ih (n + 1) (bounded_sampleInput h i _)

theorem bounded_completeScan (h : Bounded out s) (p : Pos) (mvs : List Nat) : Bounded out (completeScan s p mvs) := by
  rw [completeScan_eq]
  refine bounded_channelScan (bounded_recomputeSense ?_ p) p
  exact h

/-- A second counts every held context's age, and makes the list no longer (R131). -/
theorem bounded_tickSecond (h : Bounded out s) : Bounded out (tickSecond s) :=
  ⟨h.queue, (List.length_map _).trans_le h.held, h.ring, h.weak, h.inbound, h.outbound⟩

theorem bounded_sampleCurrents (h : Bounded out s) (dA : Eight Int) : Bounded out (sampleCurrents s dA) := by
  rw [sampleCurrents_eq]
  refine bounded_chargeSample (bounded_chargeSample ?_ _ _) _ _
  exact bounded_foldl _ (fun _ p ht => bounded_throughputAdd ht p _) _ h

theorem bounded_completePilot (h : Bounded out s) (p : Pos) (nTh nRef : Nat) :
    Bounded out (completePilot s p nTh nRef) :=
  bounded_channelPilot
    (bounded_recomputeSense (bounded_recomputeComp (s := pilotStored s p nTh nRef) h p) p) p

theorem bounded_completeAmbient (h : Bounded out s) (nTh nRef : Nat) : Bounded out (completeAmbient s nTh nRef) := by
  rw [completeAmbient_eq]
  have hstored : Bounded out (ambientStored s nTh nRef) := h
  have hcycle : ∀ t, Bounded out t → Bounded out (cycleDone t) := fun _ ht => ht
  refine hcycle _ (bounded_computeFloat (bounded_foldl _ (fun t p ht => ?_) _ hstored))
  split
  · exact bounded_recomputeComp ht p
  · exact ht

end

end Sys2Proof.Machine
end

-- ==== Proofs: every command keeps the capacities ====
section
/-! PROOFS. Requests, settings, the link, resets and timed rows keep every list within its capacity, and so does every
step (O53). -/

namespace Sys2Proof.Machine

open Sys2Proof.Safety

section
variable {out : Nat} {s : State}

/-! ### The requests' rules -/

/-- A reply takes the place that the taking of its frame found free (R181). -/
theorem bounded_answer (h : Bounded 7 s) (f : Frame) : Bounded 8 (placeMessage s f) := bounded_placeMessage h f

theorem bounded_submitTests (h : Bounded 7 s) (f : Frame) (b : Submission) (k : Kind) (c : RoundClass) (p : Pos) :
    Bounded 8 (submitTests s f b k c p) := by
  unfold submitTests; dsimp only
  split
  · exact bounded_answer h _
  split
  · exact bounded_answer h _
  split
  · exact bounded_answer h _
  split
  · exact bounded_answer h _
  split
  next => exact bounded_answer h _
  next hroom => exact bounded_answer (bounded_placeEntry h _ (by simpa [Config.queueCap] using hroom)) _

theorem bounded_serveSubmitRound (h : Bounded 7 s) (f : Frame) : Bounded 8 (serveSubmitRound s f) := by
  unfold serveSubmitRound; dsimp only
  split
  · split
    · exact bounded_answer h _
    split
    · exact bounded_answer h _
    split
    · exact bounded_answer h _
    · exact bounded_submitTests h f _ _ _ _
  · exact bounded_answer h _

theorem bounded_cancelOnChannel (h : Bounded 7 s) (f : Frame) (c : Ch) : Bounded 8 (cancelOnChannel s f c) := by
  unfold cancelOnChannel
  split
  · exact bounded_answer h _
  · exact bounded_answer h _
  all_goals exact bounded_readingCause (bounded_cancelReply h f _ _) c _

theorem bounded_cancelOnLine (h : Bounded 7 s) (f : Frame) : Bounded 8 (cancelOnLine s f) := by
  unfold cancelOnLine
  split
  · exact bounded_closeLine (bounded_cancelReply h f _ _) _
  · exact bounded_answer h _

theorem bounded_cancelHeld (h : Bounded 7 s) (f : Frame) (p : Pos) : Bounded 8 (cancelHeld s f p) := by
  have hreplied : Bounded 8 (cancelReply s f .ok .held) := bounded_answer h _
  unfold cancelHeld; dsimp only
  split
  · exact bounded_endHeld hreplied _ _
  · exact hreplied

/-- The bound of a larger Outbound Queue. -/
theorem bounded_weaken (h : Bounded 7 s) : Bounded 8 s :=
  ⟨h.queue, h.held, h.ring, h.weak, h.inbound, Nat.le_succ_of_le h.outbound⟩

theorem bounded_serveCancelRound (h : Bounded 7 s) (f : Frame) : Bounded 8 (serveCancelRound s f) := by
  unfold serveCancelRound
  split
  · exact bounded_answer h _
  split
  · exact bounded_answer h _
  · exact bounded_removeEntries (bounded_cancelReply h f _ _) _
  · exact bounded_cancelHeld h f _
  · split
    · exact bounded_cancelOnChannel h f _
    · exact bounded_weaken h
  · exact bounded_cancelOnLine h f

theorem bounded_serveSupplyGrant (h : Bounded 7 s) (f : Frame) : Bounded 8 (serveSupplyGrant s f) := by
  have hgrant : ∀ x : Supply, Bounded 7 { s with supply := x } := fun _ => h
  exact bounded_answer (bounded_recomputeSurplus (hgrant _)) _

theorem bounded_serveClaimLine (h : Bounded 7 s) (f : Frame) : Bounded 8 (serveClaimLine s f) := by
  unfold serveClaimLine
  split
  · exact bounded_answer h _
  split
  · exact bounded_answer (by simpa [Bounded] using h) _
  · exact bounded_answer h _

theorem bounded_serveReleaseLine (h : Bounded 7 s) (f : Frame) : Bounded 8 (serveReleaseLine s f) := by
  have hclosed : Bounded 7 ((closeLine s .stopped).modLine fun l => { l with claimEnded := true }) :=
    bounded_closeLine h .stopped
  unfold serveReleaseLine; dsimp only
  split
  · exact bounded_answer h _
  · refine bounded_answer ?_ _
    split
    · exact bounded_lineNext h
    · exact h
    all_goals exact hclosed

theorem bounded_serveManualDose (h : Bounded 7 s) (f : Frame) : Bounded 8 (serveManualDose s f) := by
  unfold serveManualDose; dsimp only
  split
  · exact bounded_answer h _
  split
  · exact bounded_answer h _
  split
  · exact bounded_answer h _
  split
  · exact bounded_answer h _
  split
  · exact bounded_answer h _
  split
  · exact bounded_answer h _
  · exact bounded_answer (bounded_lineTake h _ _ _ _) _

theorem bounded_serveRefill (h : Bounded 7 s) (f : Frame) : Bounded 8 (serveRefill s f) :=
  bounded_answer (by simpa [Bounded] using bounded_setAccount h _) _

/-- A Weak Cell List of no more entries than before is within its capacity. -/
theorem bounded_setWeak (h : Bounded out s) {w : WeakList} (hw : w.entries.length ≤ s.weak.entries.length) :
    Bounded out { s with weak := w } :=
  ⟨h.queue, h.held, h.ring, hw.trans h.weak, h.inbound, h.outbound⟩

theorem bounded_serveClearWeak (h : Bounded 7 s) (f : Frame) : Bounded 8 (serveClearWeak s f) := by
  unfold serveClearWeak; dsimp only
  split
  · exact bounded_answer h _
  · exact bounded_answer (bounded_setWeak h (List.length_filter_le _ _)) _

theorem bounded_serveReleaseLock (h : Bounded 7 s) (f : Frame) : Bounded 8 (serveReleaseLock s f) := by
  unfold serveReleaseLock; dsimp only
  split
  · exact bounded_answer h _
  split
  · exact bounded_answer h _
  split
  · exact bounded_answer (by simpa [Bounded] using h) _
  · exact bounded_answer h _

theorem bounded_serveSetNoticeMaster (h : Bounded 7 s) (f : Frame) : Bounded 8 (serveSetNoticeMaster s f) := by
  unfold serveSetNoticeMaster; dsimp only
  split
  · exact bounded_answer h _
  · exact bounded_answer (s := { s with master := _ }) h _

theorem bounded_relatch (h : Bounded out s) (c : Condition) : Bounded out (relatch s c) := by cases c <;> exact h

theorem bounded_serveClearConditions (h : Bounded 7 s) (f : Frame) : Bounded 8 (serveClearConditions s f) := by
  have hclear : ∀ (t : State) (c : Condition), Bounded 7 t → Bounded 7 (clearLatch t c) := fun _ _ ht => ht
  unfold serveClearConditions; dsimp only
  split
  · exact bounded_answer h _
  · exact bounded_answer (bounded_foldl relatch (fun _ c ht => bounded_relatch ht c) _
      (bounded_foldl clearLatch hclear _ h)) _

/-- The log's transfer is none of the bounded lists (R165). -/
theorem bounded_setTransfer (h : Bounded out s) (x : Option Transfer) :
    Bounded out { s with log := { s.log with transfer := x } } := h

theorem bounded_serveReadLog (h : Bounded 7 s) (f : Frame) : Bounded 8 (serveReadLog s f) := by
  unfold serveReadLog; dsimp only
  split
  · exact bounded_refuse h f _
  split
  · exact bounded_reply h f _ _
  split
  · exact bounded_refuse h f _
  · exact bounded_reply (bounded_setTransfer h _) f _ _

theorem bounded_serveStopLog (h : Bounded 7 s) (f : Frame) : Bounded 8 (serveStopLog s f) :=
  bounded_answer (bounded_setTransfer h _) _

/-- A Restart's reply is its own; what it ends writes records alone (R190). -/
theorem bounded_serveRestart (h : Bounded 7 s) (f : Frame) : Bounded 8 (serveRestart s f) := by
  unfold serveRestart; dsimp only
  generalize ht : interruptHeld _ = t
  have hended : Bounded 8 t := by
    rw [← ht]
    exact bounded_interruptHeld (s := { reply s f .ok [] with restartAt := _ }) (bounded_reply h f _ _)
  exact bounded_restartLine (bounded_restartChannel (bounded_restartChannel hended .a) .b)

/-! ### Set Setting -/

theorem bounded_applySetting (h : Bounded out s) (i : SettingId) (v : Nat) : Bounded out (applySetting s i v) := by
  have hset : Bounded out (setWorking s i v) := h
  unfold applySetting; dsimp only
  split
  next => exact bounded_changeFitted h v
  next => exact hset
  next => exact bounded_setpointsChanged hset _
  next => exact bounded_setpointsChanged hset _
  next => exact bounded_setpointsChanged hset _
  next => exact bounded_setpointsChanged hset _
  next => exact bounded_setpointsChanged hset _
  next => exact bounded_foldl _ (fun t c ht => by split <;> exact ht) _ hset
  next => exact bounded_foldl _ (fun t c ht => by split <;> exact ht) _ hset
  next => exact bounded_suspendMaxLowered hset
  next => exact hset
  next => exact hset
  next => exact hset
  next => exact bounded_ventMonitor hset
  next => exact bounded_setAccount hset _
  next => exact bounded_reservoirTest hset
  next => exact bounded_dueEvaluateAll hset
  next => exact bounded_dueEvaluateAll hset
  next => exact bounded_foldl _ (fun t i ht => by split <;> exact ht) _ hset
  all_goals exact hset

theorem bounded_serveSetSetting (h : Bounded 7 s) (f : Frame) : Bounded 8 (serveSetSetting s f) := by
  unfold serveSetSetting acceptSetting; dsimp only
  split
  · exact bounded_answer h _
  split
  · exact bounded_answer h _
  split
  · exact bounded_answer h _
  · refine bounded_answer ?_ _
    split
    · exact h
    · exact bounded_applySetting (s := { s with store := { s.store with defaulted := false } }) h _ _

/-! ### The framer -/

/-- A frame is appended where the Inbound Queue has room (R180). -/
theorem bounded_completeFrame (h : Bounded out s) (b : Byte) : Bounded out (completeFrame s b) := by
  unfold completeFrame; dsimp only
  split
  · exact h
  split
  next => exact h
  next hroom =>
    refine ⟨h.queue, h.held, h.ring, h.weak, ?_, h.outbound⟩
    show (s.link.inbound ++ [_]).length ≤ 4
    rw [List.length_append]
    exact Nat.not_le.mp hroom

theorem bounded_framerByte (h : Bounded out s) (b : Byte) : Bounded out (framerByte s b) := by
  unfold framerByte; dsimp only
  split
  · split <;> exact h
  · split
    · exact h
    · split <;> exact h
  · exact h
  · split
    · exact bounded_completeFrame h b
    · exact h

/-! ### Resets and start-up -/

/-- A reset empties the volatile lists, and keeps the log's ring and the weak cells (R6, R161, R167). -/
theorem bounded_afterReset (h : Bounded out s) (store : Store) : Bounded out (afterReset s store) :=
  ⟨Nat.zero_le _, Nat.zero_le _, h.ring, h.weak, Nat.zero_le _, Nat.zero_le _⟩

theorem bounded_recoverRecords (h : Bounded out s) : Bounded out (recoverRecords s) :=
  bounded_foldl _ (fun t p ht => by
    split
    · exact bounded_writeRecord ht _
    · exact ht) _ h

theorem bounded_initialTests (h : Bounded out s) : Bounded out (initialTests s) :=
  bounded_reservoirTest (bounded_dueEvaluateAll h)

theorem bounded_owedByChannel (h : Bounded out s) (c : Ch) : Bounded out (owedByChannel s c) := by
  unfold owedByChannel
  split
  · exact h
  split
  · exact bounded_writeRecord h _
  · exact h

theorem bounded_owedByLine (h : Bounded out s) : Bounded out (owedByLine s) := by
  unfold owedByLine
  split
  · exact bounded_writeRecord h _
  · exact h

theorem bounded_restartReset (h : Bounded out s) : Bounded out (restartReset s) := bounded_afterReset h s.store

/-! ### Commands -/

/-- A command's answer has every list within its capacity. -/
def KeepsBounded (o : Host.Outcome State Fault Refusal) : Prop := ∀ t, o = .next t → Bounded 8 t

theorem keepsBounded_next (h : Bounded 8 s) : KeepsBounded (.next s) := by
  rintro t ⟨⟩
  exact h

theorem keepsBounded_settled (h : Bounded 8 s) : KeepsBounded (settled s) := keepsBounded_next (bounded_settle h)

/-- A command that acts on a condition, and otherwise changes nothing. -/
theorem keepsBounded_ite {c : Prop} [Decidable c] {o : Host.Outcome State Fault Refusal} (h : Bounded 8 s)
    (hact : c → KeepsBounded o) : KeepsBounded (if c then o else .next s) := by
  split
  next hc => exact hact hc
  next => exact keepsBounded_next h

/-- A frame is taken only while the Outbound Queue has a free place for its reply (R181). -/
theorem bounded_afterTaking {f : Frame} (h : Bounded 8 s) (htaken : takable s = some f) :
    Bounded 7 (afterTaking s) := by
  have hfree : 0 < freePlaces s := by
    by_contra hfull
    simp [takable, hfull] at htaken
  refine ⟨h.queue, h.held, h.ring, h.weak, ?_, outbound_of_freePlaces hfree⟩
  show (s.link.inbound.drop 1).length ≤ 4
  rw [List.length_drop]
  exact (Nat.sub_le _ _).trans h.inbound

/-- A request is served by a rule that places its reply and nothing more (R181, R182). -/
theorem keepsBounded_serve (h : Bounded 8 s) (mine : Frame → Bool) (fits : Nat → Bool) {act : State → Frame → State}
    (hact : ∀ t f, Bounded 7 t → Bounded 8 (act t f)) : KeepsBounded (serve s mine fits act) := by
  unfold serve
  split
  · exact keepsBounded_next h
  next f htaken =>
    have hafter : Bounded 7 (afterTaking s) := bounded_afterTaking h htaken
    split
    · split
      · exact keepsBounded_next (bounded_answer hafter _)
      · split
        · exact keepsBounded_settled (hact _ _ hafter)
        · exact keepsBounded_next (bounded_answer hafter _)
    · exact keepsBounded_next h

theorem keepsBounded_serveKind (h : Bounded 8 s) (kind : Byte) (n : Nat) {act : State → Frame → State}
    (hact : ∀ t f, Bounded 7 t → Bounded 8 (act t f)) : KeepsBounded (serveKind s kind n act) :=
  keepsBounded_serve h _ _ hact

/-! #### Events and timed rows -/

theorem keepsBounded_execResetN (h : Bounded 8 s) : KeepsBounded (execResetN s) := by
  obtain ⟨n, store, hreset, -⟩ := execResetN_cases s
  rw [hreset]
  exact keepsBounded_next (bounded_afterReset (s := { s with freeDrawn := n }) h store)

theorem keepsBounded_execResetRelease (h : Bounded 8 s) : KeepsBounded (execResetRelease s) :=
  keepsBounded_ite h fun _ => keepsBounded_settled
    (bounded_initialTests (bounded_recoverRecords (s := loadSettings { s with phase := .initialising }) h))

theorem keepsBounded_execFinalStep (h : Bounded 8 s) : KeepsBounded (execFinalStep s) :=
  keepsBounded_ite h fun _ => keepsBounded_settled
    (bounded_initialTests (bounded_recoverRecords (bounded_restartReset
      (bounded_owedByLine (bounded_owedByChannel (bounded_owedByChannel h .a) .b)))))

theorem keepsBounded_execSampleInstant (h : Bounded 8 s) (levels : BitVec 35) :
    KeepsBounded (execSampleInstant levels s) :=
  keepsBounded_ite h fun _ => keepsBounded_next (bounded_sampleInputs levels _ _ (s := sampleTick s) h)

theorem keepsBounded_execScanCompletion (h : Bounded 8 s) (mvs : List Nat) :
    KeepsBounded (execScanCompletion mvs s) := by
  unfold execScanCompletion
  split
  · exact keepsBounded_ite h fun _ => keepsBounded_settled (bounded_completeScan h _ mvs)
  · exact keepsBounded_next h

theorem keepsBounded_execCurrentSample (h : Bounded 8 s) (dA : Eight Int) : KeepsBounded (execCurrentSample dA s) :=
  keepsBounded_ite h fun _ => keepsBounded_settled (bounded_sampleCurrents (bounded_tickSecond h) dA)

theorem keepsBounded_execConversionCompletion (h : Bounded 8 s) (gateTh gateRef : Nat) :
    KeepsBounded (execConversionCompletion gateTh gateRef s) := by
  refine keepsBounded_ite h fun _ => ?_
  have hticked : Bounded 8 (conversionTick s) := h
  dsimp only
  split
  · exact keepsBounded_settled (bounded_completePilot hticked _ _ _)
  · exact keepsBounded_settled (bounded_completeAmbient hticked _ _)

theorem keepsBounded_execFlowPulse (h : Bounded 8 s) : KeepsBounded (execFlowPulse s) :=
  keepsBounded_ite h fun _ => keepsBounded_settled (bounded_linePulse (s := { s with flow := _ }) h)

theorem bounded_setTach (h : Bounded out s) (x : FanTach) : Bounded out { s with tach := x } := h

theorem keepsBounded_execTachEdge (h : Bounded 8 s) (n : Nat) : KeepsBounded (execTachEdge n s) := by
  refine keepsBounded_ite h fun _ => ?_
  split
  · exact keepsBounded_next h
  · dsimp only
    split
    · exact keepsBounded_next h
    · exact keepsBounded_settled (bounded_speedDelivered (bounded_setTach h _) _)

theorem keepsBounded_execTachTimeout (h : Bounded 8 s) : KeepsBounded (execTachTimeout s) := by
  unfold execTachTimeout
  split
  · exact keepsBounded_next h
  · exact keepsBounded_ite h fun _ => keepsBounded_settled (bounded_speedDelivered (bounded_setTach h _) _)

theorem keepsBounded_execTransferOutTimeout (h : Bounded 8 s) (c : Ch) :
    KeepsBounded (execTransferOutTimeout c s) := by
  unfold execTransferOutTimeout
  split
  · exact keepsBounded_settled (bounded_outTimeout (s := atLeastMs s _) h c _)
  · exact keepsBounded_next h

theorem keepsBounded_execTransferBackTimeout (h : Bounded 8 s) (c : Ch) :
    KeepsBounded (execTransferBackTimeout c s) := by
  unfold execTransferBackTimeout
  split
  · exact keepsBounded_settled (bounded_backTimeout (s := atLeastMs s _) h c _)
  · exact keepsBounded_next h

theorem keepsBounded_execGiveUp (h : Bounded 8 s) (c : Ch) : KeepsBounded (execGiveUp c s) := by
  unfold execGiveUp
  split
  · exact keepsBounded_ite h fun _ => keepsBounded_settled (bounded_giveUp h c)
  · exact keepsBounded_next h

theorem keepsBounded_execAgeMinute (h : Bounded 8 s) (p : Pos) : KeepsBounded (execAgeMinute p s) := by
  unfold execAgeMinute
  split
  · exact keepsBounded_ite h fun _ => keepsBounded_next h
  · split
    · exact keepsBounded_ite h fun _ => keepsBounded_settled (bounded_heldMinute h _)
    · exact keepsBounded_next h

/-- A held Manual Dose End is placed when a place of the Outbound Queue is free (R152). -/
theorem keepsBounded_execManualDoseEnd (h : Bounded 8 s) : KeepsBounded (execManualDoseEnd s) := by
  unfold execManualDoseEnd
  split
  · exact keepsBounded_ite h fun hfree => keepsBounded_next (bounded_placeMessage_of_free (by simpa [Bounded] using h) _ hfree)
  · exact keepsBounded_next h

/-- A notice is placed when a place of the Outbound Queue is free (R172). -/
theorem keepsBounded_execNotice (h : Bounded 8 s) : KeepsBounded (execNotice s) := by
  refine keepsBounded_ite h fun hfree => ?_
  split
  · split
    · exact keepsBounded_next (bounded_placeMessage_of_free (s := { s with latches := _ }) h _ hfree)
    · exact keepsBounded_next h
  · exact keepsBounded_next h

/-- The transfer's messages leave a place free for a reply (R165). -/
theorem keepsBounded_execLogRecord (h : Bounded 8 s) : KeepsBounded (execLogRecord s) := by
  unfold execLogRecord; dsimp only
  split
  · exact keepsBounded_next h
  split
  · exact keepsBounded_next h
  next hroom =>
    have hfree : 0 < freePlaces s := by omega
    split
    · exact keepsBounded_next (bounded_placeMessage_of_free (bounded_setTransfer h _) _ hfree)
    · exact keepsBounded_next h

theorem keepsBounded_execLogEnd (h : Bounded 8 s) : KeepsBounded (execLogEnd s) := by
  unfold execLogEnd
  split
  · exact keepsBounded_next h
  split
  · exact keepsBounded_next h
  next hroom =>
    have hfree : 0 < freePlaces s := by omega
    exact keepsBounded_next (bounded_placeMessage_of_free (bounded_setTransfer h _) _ hfree)

theorem keepsBounded_execMessageSent (h : Bounded 8 s) : KeepsBounded (execMessageSent s) :=
  keepsBounded_next ⟨h.queue, h.held, h.ring, h.weak, h.inbound,
    (List.length_drop.trans_le (Nat.sub_le _ _)).trans h.outbound⟩

/-! #### The requests that report -/

theorem keepsBounded_execUnknownKind (h : Bounded 8 s) : KeepsBounded (execUnknownKind s) := by
  unfold execUnknownKind
  exact keepsBounded_serve h _ _ fun _ _ ht => bounded_answer ht _

theorem keepsBounded_execIdentify (h : Bounded 8 s) : KeepsBounded (execIdentify s) := by
  unfold execIdentify
  exact keepsBounded_serveKind h _ _ fun _ _ ht => bounded_answer ht _

theorem keepsBounded_execReadStatus (h : Bounded 8 s) : KeepsBounded (execReadStatus s) := by
  unfold execReadStatus readStatusReply
  exact keepsBounded_serveKind h _ _ fun _ _ ht => by split <;> exact bounded_answer ht _

theorem keepsBounded_execSetClock (h : Bounded 8 s) : KeepsBounded (execSetClock s) := by
  unfold execSetClock
  exact keepsBounded_serveKind h _ _ fun t _ ht => bounded_answer (s := { t with clock := _ }) ht _

theorem keepsBounded_execReadString (h : Bounded 8 s) : KeepsBounded (execReadString s) := by
  unfold execReadString readStringReply
  exact keepsBounded_serveKind h _ _ fun _ _ ht => by split <;> exact bounded_answer ht _

theorem keepsBounded_execReadCells (h : Bounded 8 s) : KeepsBounded (execReadCells s) := by
  unfold execReadCells readCellsReply
  refine keepsBounded_serveKind h _ _ fun _ _ ht => ?_
  split
  · exact bounded_answer ht _
  · split
    · split <;> exact bounded_answer ht _
    · exact bounded_answer ht _

theorem keepsBounded_execReadTemperatures (h : Bounded 8 s) : KeepsBounded (execReadTemperatures s) := by
  unfold execReadTemperatures
  exact keepsBounded_serve h _ _ fun _ _ ht => by split <;> exact bounded_answer ht _

theorem keepsBounded_execReadTemperatureDetail (h : Bounded 8 s) : KeepsBounded (execReadTemperatureDetail s) := by
  unfold execReadTemperatureDetail
  exact keepsBounded_serve h _ _ fun _ _ ht => bounded_answer ht _

theorem keepsBounded_execReadPlant (h : Bounded 8 s) : KeepsBounded (execReadPlant s) := by
  unfold execReadPlant
  exact keepsBounded_serveKind h _ _ fun _ _ ht => bounded_answer ht _

theorem keepsBounded_execReadSetting (h : Bounded 8 s) : KeepsBounded (execReadSetting s) := by
  unfold execReadSetting readSettingReply
  exact keepsBounded_serveKind h _ _ fun _ _ ht => by split <;> exact bounded_answer ht _

theorem keepsBounded_execReadQueue (h : Bounded 8 s) : KeepsBounded (execReadQueue s) := by
  unfold execReadQueue
  exact keepsBounded_serveKind h _ _ fun _ _ ht => by dsimp only; split <;> exact bounded_answer ht _

theorem keepsBounded_execReadHeld (h : Bounded 8 s) : KeepsBounded (execReadHeld s) := by
  unfold execReadHeld
  exact keepsBounded_serve h _ _ fun _ _ ht => by split <;> exact bounded_answer ht _

theorem keepsBounded_execReadHeldDetail (h : Bounded 8 s) : KeepsBounded (execReadHeldDetail s) := by
  unfold execReadHeldDetail
  exact keepsBounded_serve h _ _ fun _ _ ht => by split <;> exact bounded_answer ht _

theorem keepsBounded_execReadWeak (h : Bounded 8 s) : KeepsBounded (execReadWeak s) := by
  unfold execReadWeak
  exact keepsBounded_serveKind h _ _ fun _ _ ht => by dsimp only; split <;> exact bounded_answer ht _

theorem keepsBounded_execReadConditions (h : Bounded 8 s) : KeepsBounded (execReadConditions s) := by
  unfold execReadConditions
  refine keepsBounded_serveKind h _ _ fun _ _ ht => ?_
  dsimp only
  split
  · exact bounded_answer ht _
  · split <;> exact bounded_answer ht _

theorem keepsBounded_execClearConditions (h : Bounded 8 s) : KeepsBounded (execClearConditions s) :=
  keepsBounded_serve h _ _ fun _ f ht => bounded_serveClearConditions ht f

/-! #### The whole table -/

/-- Every command keeps every list within its capacity. -/
theorem keepsBounded_exec (h : Bounded 8 s) (i : Instr) : KeepsBounded (exec i s) := by
  have hwhen : ∀ (c : Prop) [Decidable c] (t : State), Bounded 8 t →
      KeepsBounded (if c then settled t else .next s) :=
    fun c _ t ht => keepsBounded_ite h fun _ => keepsBounded_settled ht
  cases i with
  | powerOn => exact keepsBounded_next (bounded_afterReset h _)
  | resetN => exact keepsBounded_execResetN h
  | resetRelease => exact keepsBounded_execResetRelease h
  | ready => exact keepsBounded_ite h fun _ => keepsBounded_next h
  | sampleInstant levels => exact keepsBounded_execSampleInstant h levels
  | slotStart => exact keepsBounded_ite h fun _ => keepsBounded_next h
  | scanCompletion cells => exact keepsBounded_execScanCompletion h cells
  | currentSample amps => exact keepsBounded_execCurrentSample h amps
  | conversionCompletion gateTh gateRef => exact keepsBounded_execConversionCompletion h gateTh gateRef
  | flowPulse => exact keepsBounded_execFlowPulse h
  | flowRest => exact keepsBounded_next h
  | tachEdge atMicros => exact keepsBounded_execTachEdge h atMicros
  | tachTimeout => exact keepsBounded_execTachTimeout h
  | hourRollover p => exact hwhen _ _ (bounded_hourRollover h p)
  | grantCountdown => exact hwhen _ _ (bounded_recomputeSurplus (s := { s with supply := _ }) h)
  | minuteEvaluation => exact hwhen _ _ h
  | transferOutTimeout c => exact keepsBounded_execTransferOutTimeout h c
  | transferBackTimeout c => exact keepsBounded_execTransferBackTimeout h c
  | rampStep c => exact hwhen _ _ (bounded_rampStep h c)
  | holdMinute c => exact hwhen _ _ (bounded_holdMinute h c)
  | settleEnd c => exact hwhen _ _ (bounded_settleEnd h c)
  | giveUp c => exact keepsBounded_execGiveUp h c
  | ageMinute p => exact keepsBounded_execAgeMinute h p
  | runOnExpiry => exact hwhen _ _ (bounded_recomputeFan (by simpa [Bounded] using h))
  | lowSpeedExpiry => exact hwhen _ _ (bounded_ventFails h)
  | recoveryExpiry => exact hwhen _ _ (bounded_ventRecovers h)
  | purgeEnd => exact hwhen _ _ (bounded_recomputeFan (by simpa [Bounded] using h))
  | graceExpiry => exact hwhen _ _ (bounded_deliverCause (by simpa [Bounded] using h) _ _)
  | primingEnd => exact hwhen _ _ (bounded_enterDosing h)
  | primeTimeout => exact hwhen _ _ (bounded_closeLine h _)
  | flowStop => exact hwhen _ _ (bounded_closeLine h _)
  | pauseEnd => exact hwhen _ _ (bounded_enterDosing h)
  | closingEnd => exact hwhen _ _ (bounded_closingEnd h)
  | manualDoseEnd => exact keepsBounded_execManualDoseEnd h
  | notice => exact keepsBounded_execNotice h
  | logRecord => exact keepsBounded_execLogRecord h
  | logEnd => exact keepsBounded_execLogEnd h
  | messageSent => exact keepsBounded_execMessageSent h
  | frameReceived byte => exact keepsBounded_ite h fun _ => keepsBounded_next (bounded_completeFrame h byte)
  | unknownKind => exact keepsBounded_execUnknownKind h
  | identify => exact keepsBounded_execIdentify h
  | readStatus => exact keepsBounded_execReadStatus h
  | setClock => exact keepsBounded_execSetClock h
  | readString => exact keepsBounded_execReadString h
  | readCells => exact keepsBounded_execReadCells h
  | readTemperatures => exact keepsBounded_execReadTemperatures h
  | readTemperatureDetail => exact keepsBounded_execReadTemperatureDetail h
  | readPlant => exact keepsBounded_execReadPlant h
  | setSetting => exact keepsBounded_serveKind h _ _ fun _ f ht => bounded_serveSetSetting ht f
  | storeWriteEnd => exact keepsBounded_ite h fun _ => keepsBounded_next h
  | readSetting => exact keepsBounded_execReadSetting h
  | submitRound => exact keepsBounded_serveKind h _ _ fun _ f ht => bounded_serveSubmitRound ht f
  | cancelRound => exact keepsBounded_serveKind h _ _ fun _ f ht => bounded_serveCancelRound ht f
  | readQueue => exact keepsBounded_execReadQueue h
  | readHeld => exact keepsBounded_execReadHeld h
  | readHeldDetail => exact keepsBounded_execReadHeldDetail h
  | supplyGrant => exact keepsBounded_serveKind h _ _ fun _ f ht => bounded_serveSupplyGrant ht f
  | claimLine => exact keepsBounded_serveKind h _ _ fun _ f ht => bounded_serveClaimLine ht f
  | releaseLine => exact keepsBounded_serveKind h _ _ fun _ f ht => bounded_serveReleaseLine ht f
  | manualDose => exact keepsBounded_serveKind h _ _ fun _ f ht => bounded_serveManualDose ht f
  | refill => exact keepsBounded_serveKind h _ _ fun _ f ht => bounded_serveRefill ht f
  | readWeak => exact keepsBounded_execReadWeak h
  | clearWeak => exact keepsBounded_serveKind h _ _ fun _ f ht => bounded_serveClearWeak ht f
  | releaseLock => exact keepsBounded_serveKind h _ _ fun _ f ht => bounded_serveReleaseLock ht f
  | setNoticeMaster => exact keepsBounded_serveKind h _ _ fun _ f ht => bounded_serveSetNoticeMaster ht f
  | readConditions => exact keepsBounded_execReadConditions h
  | clearConditions => exact keepsBounded_execClearConditions h
  | readLog => exact keepsBounded_serveKind h _ _ fun _ f ht => bounded_serveReadLog ht f
  | stopLog => exact keepsBounded_serveKind h _ _ fun _ f ht => bounded_serveStopLog ht f
  | restart => exact keepsBounded_serveKind h _ _ fun _ f ht => bounded_serveRestart ht f
  | finalStep => exact keepsBounded_execFinalStep h
  | receivedByte byte => exact keepsBounded_ite h fun _ => keepsBounded_next (bounded_framerByte h byte)

/-- Every step keeps every list within its capacity. -/
theorem keepsBounded_step (h : Bounded 8 s) : KeepsBounded (step s) := by
  unfold step
  split
  next i rest _ => exact keepsBounded_exec (s := { s with pending := rest }) h i
  next =>
    refine keepsBounded_next ?_
    rcases passTime_cases s with hsame | ⟨-, hmoved⟩
    · rw [hsame]; exact h
    · rw [hmoved]; exact h

end

/-- Settles O53: the capacities are the bounds that every step keeps. -/
theorem capacitiesAreKept : Obligations.CapacitiesAreKept := by
  intro s t h hstep
  exact (capacities_iff t).2 (keepsBounded_step ((capacities_iff s).1 h) t hstep)

end Sys2Proof.Machine
end

-- ==== Proofs: the queue, the blocked reasons, the admission of a watering ====
section
/-! PROOFS. Where an entry is placed, the blocked reason as the first test that fails, and the minute evaluation that
admits a watering (O25, O26, O24). -/

namespace Sys2Proof.Machine

open Sys2Proof.Safety

/-! ### The queue's order (R71) -/

/-- The URGENT entries stand first, and they are what an URGENT entry is placed behind. -/
theorem takeWhile_urgent (u r : List Entry) (hu : ∀ x ∈ u, x.cls = .urgent) (hr : ∀ x ∈ r, x.cls = .routine) :
    (u ++ r).takeWhile (·.cls == .urgent) = u := by
  have hnone : r.takeWhile (·.cls == .urgent) = [] := by
    cases r with
    | nil => rfl
    | cons x r => simp [hr x]
  rw [List.takeWhile_append_of_pos (by simpa using hu), hnone, List.append_nil]

/-- The ROUTINE entries are what an URGENT entry is placed before. -/
theorem dropWhile_urgent (u r : List Entry) (hu : ∀ x ∈ u, x.cls = .urgent) (hr : ∀ x ∈ r, x.cls = .routine) :
    (u ++ r).dropWhile (·.cls == .urgent) = r := by
  have hsplit := List.takeWhile_append_dropWhile (p := fun x : Entry => x.cls == .urgent) (l := u ++ r)
  rw [takeWhile_urgent u r hu hr] at hsplit
  exact List.append_cancel_left hsplit

/-- Settles O25: an URGENT entry goes between the two classes, a ROUTINE one to the end. -/
theorem queueOrderIsKept : Obligations.QueueOrderIsKept := by
  intro u r e hu hr
  refine ⟨fun hurgent => ?_, fun hroutine => ?_⟩
  · simp only [placeIn, hurgent, takeWhile_urgent u r hu hr, dropWhile_urgent u r hu hr]
  · simp only [placeIn, hroutine]

/-! ### The tests of a candidate (R82 to R86) -/

/-- The first test decides, or the rest do when it passes (R82). -/
theorem firstFailing_cons (b : Bool) (r : Blocked) (l : List (Bool × Blocked)) :
    firstFailing ((b, r) :: l) = if b = true then firstFailing l else r := by cases b <;> rfl

section
variable (s : State)

theorem h2Test_iff : h2Test s = true ↔ presents s .h2Alarm = .inactive ∧ s.perm.purge = none := by simp [h2Test]

theorem ventTest_iff :
    ventTest s = true ↔ s.perm.ventFailed = false ∧ committedGassing s < s.cfg.ventMaxGassing := by simp [ventTest]

theorem reserveOk_iff : reserveOk s = true ↔ ¬ freeOnBusCount s < s.cfg.reserve + 1 := by simp [reserveOk]

theorem lineTest_iff : lineTest s = true ↔ s.line.stage = .free ∧ s.line.waiting = [] := by simp [lineTest]

theorem waterSupplyTest_iff :
    waterSupplyTest s = true ↔ s.cfg.doseMl ≤ s.reservoir.account ∧ presents s .resLow = .inactive := by
  simp [waterSupplyTest]

theorem waterStringTest_iff (p : Pos) :
    (((s.sit.get p).role == .float) && (s.hist.get p).waterLock.isNone) = true
      ↔ (s.sit.get p).role = .float ∧ (s.hist.get p).waterLock = none := by simp

/-- The reason of an equalise candidate, test by test (R82 to R85). -/
theorem equaliseBlocked_eq (p : Pos) (k : Kind) (role : Role) (nb : Option Nat) :
    equaliseBlocked s p k role nb =
      (if equaliseStringTest s p k role = false then .string
       else if waitingTest s nb = false then .waiting
       else if freeChannel s = none then .channel
       else if s.supply.surplus = false then .supply
       else if ¬(presents s .h2Alarm = .inactive ∧ s.perm.purge = none) then .h2
       else if ¬(s.perm.ventFailed = false ∧ committedGassing s < s.cfg.ventMaxGassing) then .vent
       else if freeOnBusCount s < s.cfg.reserve + 1 then .reserve
       else if tempTest s p = false then .temp
       else .none) := by
  simp only [equaliseBlocked, firstFailing_cons, h2Test_iff, ventTest_iff, reserveOk_iff,
    Option.isSome_iff_ne_none, ne_eq, ← Bool.not_eq_true, ite_not]
  rfl

/-- The reason of a WATER candidate, test by test (R86). -/
theorem waterBlocked_eq (p : Pos) (nb : Option Nat) :
    waterBlocked s p nb =
      (if ¬((s.sit.get p).role = .float ∧ (s.hist.get p).waterLock = none) then .string
       else if waitingTest s nb = false then .waiting
       else if ¬(s.line.stage = .free ∧ s.line.waiting = []) then .line
       else if ¬(presents s .h2Alarm = .inactive ∧ s.perm.purge = none) then .h2
       else if ¬(s.cfg.doseMl ≤ s.reservoir.account ∧ presents s .resLow = .inactive) then .waterSupply
       else .none) := by
  simp only [waterBlocked, firstFailing_cons, waterStringTest_iff, lineTest_iff, h2Test_iff, waterSupplyTest_iff,
    ← Bool.not_eq_true, ite_not]
  rfl

end

/-- Settles O26: both reasons are read test by test. -/
theorem blockedReasonIsFirstFailing : Obligations.BlockedReasonIsFirstFailing :=
  fun s p k role nb => ⟨equaliseBlocked_eq s p k role nb, waterBlocked_eq s p nb⟩

/-! ### The evaluation of one entry (R81, R88) -/

section
variable (s : State) (e : Entry)

/-- An evaluation with one queued entry and none held admits the entry when nothing blocks it. -/
theorem evaluate_of_passing_entry (hrunning : s.restartAt = none) (hheld : s.held.entries = [])
    (hqueue : s.queue.entries = [e]) (hpass : entryBlocked s e = .none) : evaluate s = admitEntry s e := by
  have hnext : nextCandidate s = some (.inr e) := by simp [nextCandidate, hheld, hqueue, hpass]
  simp [evaluate, restarting, hrunning, hheld, hqueue, evaluatePasses, hnext]

/-- An evaluation with one queued entry and none held admits nothing while the entry is blocked. -/
theorem evaluate_of_blocked_entry (hheld : s.held.entries = []) (hqueue : s.queue.entries = [e])
    (hblocked : entryBlocked s e ≠ .none) : evaluate s = s := by
  have hnext : nextCandidate s = none := by simp [nextCandidate, hheld, hqueue, hblocked]
  simp [evaluate, hheld, hqueue, evaluatePasses, hnext]

/-- The admission of the one queued WATER entry: the queue is empty, the marker set, and the line is primed with the
string's valve open (R88, R138). -/
theorem admitEntry_of_water (hqueue : s.queue.entries = [e]) (hkind : e.kind = .water)
    (hres : presents s .resLow ≠ .active) :
    admitEntry s e =
      { s with
        queue := { entries := [], gen := (s.queue.gen + 1) % 256 }
        hist := s.hist.set e.string
          { s.hist.get e.string with roundOpen := (some { kind := .water, first := s.stamp }) }
        sit := s.sit.set e.string { s.sit.get e.string with role := .watering, assigned := some .line }
        line :=
          { s.line with
            stage := .priming, owner := some .round, string := some e.string
            identity := (some { tag := e.tag, origin := e.origin, first := s.stamp })
            dose := none, ml := 0, pulses := 0, doses := 0, doseMl := 0, outcome := none, timer := 0
            flowRef := none }
        out := { s.out with valve := s.out.valve.set e.string .opened } } := by
  have hempty : s.queue.entries.filter (· != e) = [] := by simp [hqueue]
  unfold admitEntry giveLine; dsimp only
  rw [hempty, hkind]; dsimp only
  generalize ht : State.modSit _ _ _ = t
  have hpresents : presents t .resLow ≠ .active := by rw [← ht]; exact hres
  rw [lineTake_priming t _ _ _ _ hpresents, ← ht]
  rfl

end

/-- The settling of an evaluation that is all that is due and leaves nothing due itself. -/
theorem settle_wantAdmission_of_done (s : State) (h : Settled s) (hdone : Settled (evaluate s)) :
    settle s.wantAdmission = evaluate s := by
  have hdue : s.due = { reserve := false, admission := false } := h
  have hreserve : s.wantAdmission.due.reserve = false := by
    show s.due.reserve = false
    rw [hdue]
  have hcleared : ({ s.wantAdmission with due := { s.wantAdmission.due with admission := false } } : State) = s := by
    show ({ s with due := { s.due with admission := false } } : State) = s
    rw [hdue, ← hdue]
  rw [settle, settleWith_admission 15 _ hreserve rfl, hcleared, settleWith_of_settled 15 _ hdone]

/-- A state whose minute has been counted (R80). -/
def minuteTaken (s : State) : State := { s with base := { s.base with minuteSec := s.base.minuteSec - 60 } }

/-- The WATER entry of which every test passes is not blocked (R86). -/
theorem entryBlocked_of_passing_water (s : State) (e : Entry) (hkind : e.kind = .water) (hbefore : e.notBefore = none)
    (hstring : (s.sit.get e.string).role = .float ∧ (s.hist.get e.string).waterLock = none)
    (hline : s.line.stage = .free ∧ s.line.waiting = [])
    (hh2 : presents s .h2Alarm = .inactive ∧ s.perm.purge = none)
    (hsupply : s.cfg.doseMl ≤ s.reservoir.account ∧ presents s .resLow = .inactive) :
    entryBlocked s e = .none := by
  have hwaiting : waitingTest s e.notBefore = true := by rw [hbefore]; rfl
  simp only [entryBlocked, hkind, waterBlocked_eq, hstring, hwaiting, hline, hh2, hsupply]
  simp

/-- Settles O24: the minute's evaluation is due, its one entry passes, and its admission leaves nothing due. -/
theorem minuteAdmitsAWatering : Obligations.MinuteAdmitsAWatering := by
  intro s e hminute hrunning hsettled hheld hqueue hkind hbefore hrole hlock hfree hwaiting halarm hpurge haccount hres
  have hpass : entryBlocked (minuteTaken s) e = .none :=
    entryBlocked_of_passing_water (minuteTaken s) e hkind hbefore ⟨hrole, hlock⟩ ⟨hfree, hwaiting⟩ ⟨halarm, hpurge⟩
      ⟨haccount, hres⟩
  have hopen : presents (minuteTaken s) .resLow ≠ .active := by
    rw [show presents (minuteTaken s) .resLow = .inactive from hres]; decide
  have hadmitted := (evaluate_of_passing_entry (minuteTaken s) e hrunning hheld hqueue hpass).trans
    (admitEntry_of_water (minuteTaken s) e hqueue hkind hopen)
  have hexec : exec .minuteEvaluation s = settled (minuteTaken s).wantAdmission := if_pos hminute
  rw [hexec, settled, settle_wantAdmission_of_done (minuteTaken s) hsettled (by rw [hadmitted]; exact hsettled),
    hadmitted]
  rfl

end Sys2Proof.Machine
end

-- ==== Proofs: rounds queued and cancelled ====
section
/-! PROOFS. Submit Round of a plain EQUALISE, its DUPLICATE, and Cancel Round of a queued round or of none (O47). -/

namespace Sys2Proof.Machine

open Sys2Proof.Safety

/-! ### Replies to a taken frame (R181, R182) -/

/-- A reply placed once its frame is taken, for a request below KIND 0x80. -/
theorem placeMessage_afterTaking (s : State) (f : Frame) (rest : List Frame) (st : Status) (q : Nat)
    (payload : List Byte) (h : s.link.inbound = f :: rest) (hkind : f.kind.toNat < 128) :
    placeMessage (afterTaking s) (replyFrame f st q payload) =
      { s with link := answered s rest (replyTo f (BitVec.ofNat 8 st.code) (BitVec.ofNat 8 q) payload) } := by
  have hreply : replyFrame f st q payload = replyTo f (BitVec.ofNat 8 st.code) (BitVec.ofNat 8 q) payload := by
    simp [replyFrame, replyKind, replyTo, Nat.not_le.mpr hkind, u8]
  rw [hreply, afterTaking_eq s f rest h]
  rfl

/-- A request of one KIND and one body length is served by its rule (R181). -/
theorem serveKind_taken (s : State) (kind : Byte) (length : Nat) (act : State → Frame → State) (f : Frame)
    (rest : List Frame) (h : Taking s f rest) (hkind : f.kind = kind) (hlength : f.body.length = length) :
    serveKind s kind length act = settled (act (afterTaking s) f) :=
  serve_taken s _ _ act f rest h (by simp [hkind]) (by simp [hlength])

/-- The outcome of a request that changed the link, and perhaps the queue, of a settled state. -/
theorem settled_answered (s : State) (q : RoundQueue) (l : Link) (h : Settled s) :
    settled { s with queue := q, link := l } = .next { s with queue := q, link := l } :=
  settled_of_settled _ h

/-! ### Submit Round (R73, R74) -/

/-- The fields of a Submit Round body of kind EQUALISE and class ROUTINE without any option (R178). -/
def plainSubmission (p : Pos) : Submission :=
  { kind := some .equalise, cls := some .routine, string := some p, notBefore := none, holdOverride := none,
    ahOverride := none }

theorem readSubmission_plain (p : Pos) :
    readSubmission [BitVec.ofNat 8 p.num, 0, 1, 0, 0, 0, 0, 0, 0, 0, 0, 0] = plainSubmission p := by
  cases p <;> rfl

/-- The entry that a plain submission places (R74). -/
def plainEntry (s : State) (f : Frame) (p : Pos) : Entry :=
  { tag := f.tag, kind := .equalise, string := p, cls := .routine, origin := .request, submit := s.stamp,
    notBefore := none, holdOverride := none, ahOverride := none }

section
variable (s : State) (f : Frame) (p : Pos)

/-- A plain submission with a TAG passes the form checks (R73). -/
theorem serveSubmitRound_of_plain (htag : f.tag ≠ 0)
    (hbody : f.body = [BitVec.ofNat 8 p.num, 0, 1, 0, 0, 0, 0, 0, 0, 0, 0, 0]) :
    serveSubmitRound s f = submitTests s f (plainSubmission p) .equalise .routine p := by
  unfold serveSubmitRound
  rw [hbody, readSubmission_plain]
  simp [plainSubmission, show f.tag ≠ 0#8 from htag]

/-- A string with an outstanding round is answered DUPLICATE with its place (R74). -/
theorem submitTests_of_placed (b : Submission) (k : Kind) (c : RoundClass) (pl : Place) (hfit : fitted s p = true)
    (hplace : place s p = some pl) :
    submitTests s f b k c p = placeMessage s (replyFrame f .duplicate pl.code []) := by
  simp [submitTests, hfit, hplace]

/-- A plain submission to an empty queue is placed at position 1 (R71, R74). -/
theorem submitTests_of_plain (hfit : fitted s p = true) (hplace : place s p = none)
    (hlock : (s.hist.get p).eqLock = none) (hqueue : s.queue.entries = []) :
    submitTests s f (plainSubmission p) .equalise .routine p =
      reply (placeEntry s (plainEntry s f p)) f .ok [1, 0, 0, 0, 0, 0, 0] := by
  have hopen : lockedFor s p .equalise = false := by simp [lockedFor, Kind.waters, hlock]
  have hentry : submitted s f (plainSubmission p) .equalise .routine p = plainEntry s f p := rfl
  have hplaced : (placeEntry s (plainEntry s f p)).queue.entries = [plainEntry s f p] := by
    simp [placeEntry, placeIn, plainEntry, hqueue, State.wantAdmission]
  have hpayload : submitPayload [plainEntry s f p] (plainEntry s f p) = [1, 0, 0, 0, 0, 0, 0] := by
    simp [submitPayload, positionOf, plainEntry, Kind.equalises, opt, zeros, u8]
  unfold submitTests; dsimp only
  rw [hentry, hplaced, hpayload, hplace, hopen, hqueue]
  simp [hfit, plainSubmission, overridesClamped, Config.queueCap]

end

/-- Without surplus no equalise candidate passes its tests (R82). -/
theorem equaliseBlocked_of_no_surplus (s : State) (p : Pos) (k : Kind) (role : Role) (nb : Option Nat)
    (h : s.supply.surplus = false) : equaliseBlocked s p k role nb ≠ .none := by
  intro hpass
  have hall := passes_of_firstFailing _ (by simp) hpass (s.supply.surplus, .supply) (by simp)
  rw [h] at hall
  cases hall

/-- The settling of a plain submission's entry without surplus: it waits in the queue. -/
theorem settle_of_plainEntry (s t : State) (f : Frame) (p : Pos) (hsettled : Settled t) (hnone : NoCandidates t)
    (hsurplus : t.supply.surplus = false) :
    settle (placeEntry t (plainEntry s f p)) =
      { t with queue := { entries := [plainEntry s f p], gen := (t.queue.gen + 1) % 256 } } := by
  obtain ⟨hqueue, hheld⟩ := hnone
  have hdue : t.due = { reserve := false, admission := false } := hsettled
  have hplaced : placeEntry t (plainEntry s f p) =
      { t with
        queue := { entries := [plainEntry s f p], gen := (t.queue.gen + 1) % 256 }
        due := { reserve := false, admission := true } } := by
    simp [placeEntry, placeIn, plainEntry, hqueue, hdue, State.wantAdmission]
  rw [hplaced, hdue]
  exact settle_of_idle_evaluation _ rfl (evaluate_of_blocked_entry _ (plainEntry s f p) hheld rfl
    (equaliseBlocked_of_no_surplus _ _ _ _ _ hsurplus))

/-! ### Cancel Round (R76) -/

theorem pos_ofNum_num (p : Pos) : Pos.ofNum (field [BitVec.ofNat 8 p.num] 0 1) = some p := by cases p <;> rfl

section
variable (s : State) (f : Frame) (p : Pos)

/-- A string without a round is answered NOT_FOUND (R76). -/
theorem serveCancelRound_of_free (hstring : Pos.ofNum (field f.body 0 1) = some p) (hplace : place s p = none) :
    serveCancelRound s f = placeMessage s (replyFrame f .notFound 0 []) := by
  simp only [serveCancelRound, hstring, hplace, reply]

/-- A queued round leaves the queue, and the reply names its place (R76). -/
theorem serveCancelRound_of_queued (hstring : Pos.ofNum (field f.body 0 1) = some p)
    (hplace : place s p = some .queued) :
    serveCancelRound s f = removeEntries (placeMessage s (replyFrame f .ok 1 [])) p := by
  simp only [serveCancelRound, hstring, hplace, cancelReply, Place.code]

end

/-- Settles O47: each request's frame is taken, and its rule's answer settles with nothing admitted. -/
theorem roundsAreQueuedAndCancelled : Obligations.RoundsAreQueuedAndCancelled := by
  refine ⟨fun s f rest p htaking hkind htag hbody hfit => ?_, fun s f rest p htaking hkind hbody => ?_⟩
  · have hbelow : f.kind.toNat < 128 := by rw [hkind]; decide
    obtain ⟨-, -, -, hinbound, hsettled⟩ := id htaking
    have hexec : exec .submitRound s =
        settled (submitTests (afterTaking s) f (plainSubmission p) .equalise .routine p) := by
      rw [← serveSubmitRound_of_plain _ f p htag hbody]
      exact serveKind_taken s _ _ _ f rest htaking hkind (by rw [hbody]; rfl)
    refine ⟨fun pl hplace => ?_, fun hplace hlock hnone hsurplus => ?_⟩
    · rw [hexec, submitTests_of_placed (afterTaking s) f p _ _ _ pl hfit hplace,
        placeMessage_afterTaking s f rest _ _ _ hinbound hbelow, settled_answered s s.queue _ hsettled]
      cases pl <;> rfl
    · have hanswer := placeMessage_afterTaking s f rest .ok 0 [1, 0, 0, 0, 0, 0, 0] hinbound hbelow
      rw [hexec, submitTests_of_plain (afterTaking s) f p hfit hplace hlock hnone.1, settled]
      show Host.Outcome.next (settle (placeEntry (placeMessage (afterTaking s) (replyFrame f .ok 0
        [1, 0, 0, 0, 0, 0, 0])) (plainEntry s f p))) = _
      rw [hanswer, settle_of_plainEntry s { s with link := answered s rest _ } f p hsettled hnone hsurplus]
      rfl
  · have hbelow : f.kind.toNat < 128 := by rw [hkind]; decide
    obtain ⟨-, -, -, hinbound, hsettled⟩ := id htaking
    have hexec : exec .cancelRound s = settled (serveCancelRound (afterTaking s) f) :=
      serveKind_taken s _ _ _ f rest htaking hkind (by rw [hbody]; rfl)
    have hstring : Pos.ofNum (field f.body 0 1) = some p := by rw [hbody]; exact pos_ofNum_num p
    refine ⟨fun hplace => ?_, fun hplace => ?_⟩
    · have hserved := serveCancelRound_of_free (afterTaking s) f p hstring hplace
      rw [hexec, hserved, placeMessage_afterTaking s f rest _ _ _ hinbound hbelow,
        settled_answered s s.queue _ hsettled]
      rfl
    · have hserved := serveCancelRound_of_queued (afterTaking s) f p hstring hplace
      rw [hexec, hserved, placeMessage_afterTaking s f rest _ _ _ hinbound hbelow]
      exact settled_answered s _ _ hsettled

end Sys2Proof.Machine
end

-- ==== Proofs: the supply ====
section
/-! PROOFS. What the recomputation of surplus can do, and with it Supply Grant, the grant's minutes and the acceptances
of GEN_RUN (O48). -/

namespace Sys2Proof.Machine

open Sys2Proof.Safety

/-! ### Surplus (R78, R126) -/

section
variable (s : State)

/-- A state with surplus present written. -/
def surplusSet (b : Bool) : State := { s with supply := { s.supply with surplus := b } }

/-- Surplus that stands as it is computed is no change (R78). -/
theorem recomputeSurplus_same (h : surplusNow s = s.supply.surplus) : recomputeSurplus s = s := if_pos h

/-- Surplus that is back stops the grace timer and makes an evaluation due (R126, R80). -/
theorem recomputeSurplus_back (hnow : surplusNow s = true) (hwas : s.supply.surplus = false) :
    recomputeSurplus s = ((surplusSet s true).modPerm fun p => { p with grace := none }).wantAdmission := by
  simp [recomputeSurplus, hnow, hwas, surplusBack, surplusSet]

/-- Surplus that is lost (R126). -/
theorem recomputeSurplus_lost (hnow : surplusNow s = false) (hwas : s.supply.surplus = true) :
    recomputeSurplus s = surplusLost (surplusSet s false) := by
  simp [recomputeSurplus, hnow, hwas, surplusSet]

/-- A channel in HOLD needs supply (R126). -/
theorem needsSupply_of_hold (c : Ch) (h : (s.chan.get c).stage = .hold) : stageCount s Stage.needsSupply ≠ 0 := by
  cases c <;> simp [Two.get] at h <;> simp [stageCount, h, Stage.needsSupply]

/-- With a channel in HOLD a loss of surplus starts the grace timer, unless SUPPLY_GRACE_MIN is 0 (R126). -/
theorem surplusLost_of_hold (c : Ch) (h : (s.chan.get c).stage = .hold) (hgrace : s.cfg.supplyGraceMin ≠ 0) :
    surplusLost s = s.modPerm fun p => { p with grace := some 0 } := by
  rw [surplusLost, if_neg (needsSupply_of_hold s c h), if_neg hgrace]

/-- What the recomputation of surplus can do between steps with both channels IDLE: the supply, perhaps the grace timer,
and perhaps an evaluation is due (R78, R126). -/
theorem recomputeSurplus_of_idle (hsettled : Settled s) (hidle : ChannelsIdle s) :
    ∃ g b, recomputeSurplus s =
      { surplusSet s (surplusNow s) with
        perm := { s.perm with grace := g }, due := { reserve := false, admission := b } } := by
  have hdue : s.due = { reserve := false, admission := false } := hsettled
  by_cases hsame : surplusNow s = s.supply.surplus
  · exact ⟨s.perm.grace, false, by rw [recomputeSurplus_same s hsame, hsame, ← hdue]; rfl⟩
  · cases hnow : surplusNow s with
    | false =>
      have hwas : s.supply.surplus = true := by simpa [hnow] using hsame
      exact ⟨s.perm.grace, false, by
        rw [recomputeSurplus_lost s hnow hwas, surplusLost_of_idle (surplusSet s false) hidle, ← hdue]; rfl⟩
    | true =>
      have hwas : s.supply.surplus = false := by simpa [hnow] using hsame
      have hreserve : s.due.reserve = false := by rw [hdue]
      exact ⟨none, true, by rw [recomputeSurplus_back s hnow hwas, ← hreserve]; rfl⟩

end

/-! ### Supply Grant (R79) -/

/-- Two bytes of a body read back (R178). -/
theorem field_u16 (n : Nat) (h : n < 65536) : field (u16 n) 0 2 = n := by
  simp [field, u16, ofBytes]
  omega

/-- A state with a grant of a number of minutes (R79). -/
def granted (s : State) (n : Nat) : State := { s with supply := { s.supply with grantMin := n, grantSec := 0 } }

/-- A grant of at most 720 minutes is a supply while it is not 0 (R78). -/
theorem surplusNow_granted (s : State) (n : Nat) :
    surplusNow (granted s (min n 720)) = ((presents s .genRun == .active) || decide (0 < n)) := by
  have hpos : 0 < min n 720 ↔ 0 < n := by omega
  show ((presents s .genRun == .active) || decide (0 < min n 720)) = _
  rw [decide_eq_decide.mpr hpos]

/-- A state with a grant, surplus and the grace timer as a Supply Grant leaves them, and a link (R79). -/
def supplied (s : State) (n : Nat) (surplus : Bool) (grace : Option Nat) (l : Link) : State :=
  { s with
    supply := { grantMin := n, grantSec := 0, surplus := surplus }
    perm := { s.perm with grace := grace }, link := l }

/-- A state with no reserve test due, and an evaluation due or not (assumption 8). -/
def evaluationDue (s : State) (b : Bool) : State := { s with due := { reserve := false, admission := b } }

/-- A new grant's recomputation with both channels IDLE: an evaluation is due at most. -/
theorem recomputeSurplus_granted (s : State) (n : Nat) (hsettled : Settled s) (hidle : ChannelsIdle s) :
    ∃ g b, recomputeSurplus (granted s n) =
      evaluationDue (supplied s n (surplusNow (granted s n)) g s.link) b :=
  recomputeSurplus_of_idle (granted s n) hsettled hidle

/-- A state whose oldest inbound frame is taken (R181). -/
def requestTaken (s : State) (rest : List Frame) : State := { s with link := { s.link with inbound := rest } }

/-- The reply to a Supply Grant, with the surplus that it leaves (R79). -/
def grantReply (s : State) (f : Frame) (n : Nat) : Frame :=
  replyTo f (if 720 < n then 1 else 0) 0
    (u16 (min n 720) ++ [BitVec.ofNat 8 (presents s .genRun).code] ++ [if s.supply.surplus then 1 else 0])

/-- Supply Grant replaces the grant, recomputes surplus and answers (R79). -/
theorem serveSupplyGrant_eq (s : State) (f : Frame) (n : Nat) (hbelow : f.kind.toNat < 128) (hn : n < 65536)
    (hbody : f.body = u16 n) :
    serveSupplyGrant s f =
      placeMessage (recomputeSurplus (granted s (min n 720)))
        (grantReply (recomputeSurplus (granted s (min n 720))) f n) := by
  have hfield : field f.body 0 2 = n := by rw [hbody]; exact field_u16 n hn
  have hreply : ∀ t : State, replyFrame f (if grantMax < n then .clamped else .ok) 0
      (u16 (min n grantMax) ++ u8 (presents t .genRun).code ++ flag t.supply.surplus) = grantReply t f n := by
    intro t
    have hflag : flag t.supply.surplus = [if t.supply.surplus then 1 else 0] := by cases t.supply.surplus <;> rfl
    have hstatus : u8 (if grantMax < n then Status.clamped else Status.ok).code = [if 720 < n then 1 else 0] := by
      unfold grantMax; split <;> rfl
    rw [replyFrame, hflag, hstatus, replyKind, if_neg (Nat.not_le.mpr hbelow)]
    rfl
  unfold serveSupplyGrant
  rw [hfield]
  exact congrArg (placeMessage _) (hreply _)

/-- The settling of an answered grant: the evaluation that surplus makes due finds no candidate. -/
theorem settle_grantReply (v : State) (b : Bool) (f : Frame) (n : Nat) (hsettled : Settled v) (hnone : NoCandidates v) :
    settle (placeMessage (evaluationDue v b) (grantReply (evaluationDue v b) f n)) =
      placeMessage v (grantReply v f n) := by
  have hdue : v.due = { reserve := false, admission := false } := hsettled
  have hdone := settle_of_no_candidates (placeMessage (evaluationDue v b) (grantReply (evaluationDue v b) f n)) rfl
    hnone
  rw [← hdue] at hdone
  exact hdone

/-! ### The grant's minutes (R79) -/

/-- A state whose grant has run down by a minute (R79). -/
def grantRunDown (s : State) : State :=
  { s with supply := { s.supply with grantMin := s.supply.grantMin - 1, grantSec := s.supply.grantSec - 60 } }

theorem execGrantCountdown_due (s : State) (hmin : 0 < s.supply.grantMin) (hsec : 60 ≤ s.supply.grantSec) :
    exec .grantCountdown s = settled (recomputeSurplus (grantRunDown s)) := if_pos ⟨hmin, hsec⟩

/-! ### GEN_RUN (R78, R126) -/

/-- A state at a sample instant, with the inputs as the samples leave them (R11). -/
def acceptedAt (s : State) (n : Inputs) : State := { sampleTick s with inp := n }

/-- A sample instant that accepts one input alone: what its settled delivery makes of the state, with the samples and
the timer base of the instant. -/
theorem sampleInstant_of_delivery (s g : State) (levels : BitVec 35) (i : InputId) (k : DeliveryKind) (v : Presented)
    (hphase : s.phase ≠ .held) (honly : OnlyAccepts s levels i k v)
    (hdelivered : ∀ n : Inputs, (∀ j, (n.get j).presented = if j = i then v else (s.inp.get j).presented) →
      settle (deliver (acceptedAt s n) i k) = { g with base := (sampleTick s).base, inp := n }) :
    ∃ t, exec (.sampleInstant levels) s = .next t ∧ Sampled s levels t
      ∧ { g with base := t.base, inp := t.inp } = t := by
  obtain ⟨n, -, hpresented, hresult⟩ := execSampleInstant_of_onlyAccepts s levels i k v hphase honly
  obtain ⟨n', hexec, hsamples⟩ := hresult _ (hdelivered n hpresented) rfl
  exact ⟨_, hexec, ⟨hsamples, rfl⟩, rfl⟩

/-- Without a grant surplus is GEN_RUN's (R78). -/
theorem surplusNow_of_no_grant (s : State) (h : s.supply.grantMin = 0) :
    surplusNow s = (presents s .genRun == .active) := by
  simp [surplusNow, h]

/-- GEN_RUN's acceptance decides surplus while no grant runs (R78). -/
theorem surplusNow_acceptedAt (s : State) (n : Inputs) (v : Presented) (hgrant : s.supply.grantMin = 0)
    (hn : ∀ j, (n.get j).presented = if j = .genRun then v else (s.inp.get j).presented) :
    surplusNow (acceptedAt s n) = (v == .active) := by
  have hshown : presents (acceptedAt s n) .genRun = v := by
    show (n.get .genRun).presented = v
    rw [hn, if_pos rfl]
  rw [surplusNow_of_no_grant (acceptedAt s n) hgrant, hshown]

/-- Settles O48: the grant, its minutes, and the two acceptances of GEN_RUN are recomputations of surplus. -/
theorem supplyIsGrantedAndRunsDown : Obligations.SupplyIsGrantedAndRunsDown := by
  refine ⟨fun s f rest n htaking hkind hn hbody hnone hidle => ?_, fun s hmin hsec hwas hsettled => ?_,
    fun s hmin hsec hwas hgen hidle hsettled => ?_, fun s levels k hphase hsettled hgrant => ?_⟩
  · have hbelow : f.kind.toNat < 128 := by rw [hkind]; decide
    obtain ⟨-, -, -, hinbound, hsettled⟩ := id htaking
    have hexec : exec .supplyGrant s = settled (serveSupplyGrant (afterTaking s) f) :=
      serveKind_taken s _ _ _ f rest htaking hkind (by rw [hbody]; rfl)
    have htaken : afterTaking s = requestTaken s rest := afterTaking_eq s f rest hinbound
    obtain ⟨g, b, hrecomputed⟩ := recomputeSurplus_granted (requestTaken s rest) (min n 720) hsettled hidle
    rw [surplusNow_granted] at hrecomputed
    rw [hexec, serveSupplyGrant_eq _ f n hbelow hn hbody, htaken, hrecomputed, settled,
      settle_grantReply (supplied (requestTaken s rest) _ _ g _) b f n hsettled hnone]
    exact ⟨_, rfl, rfl, rfl, rfl⟩
  · have hnow : surplusNow (grantRunDown s) = (grantRunDown s).supply.surplus := by
      have hleft : 0 < s.supply.grantMin - 1 := by omega
      show (_ || decide (0 < s.supply.grantMin - 1)) = s.supply.surplus
      simp [hleft, hwas]
    rw [execGrantCountdown_due s (by omega) hsec, recomputeSurplus_same _ hnow]
    exact settled_of_settled (grantRunDown s) hsettled
  · have hnow : surplusNow (grantRunDown s) = false := by
      have hover : (grantRunDown s).supply.grantMin = 0 := by simp [grantRunDown, hmin]
      rw [surplusNow_of_no_grant _ hover]
      exact beq_eq_false_iff_ne.mpr hgen
    rw [execGrantCountdown_due s (by omega) hsec, recomputeSurplus_lost _ hnow hwas,
      surplusLost_of_idle (surplusSet (grantRunDown s) false) hidle]
    show settled _ = _
    rw [settled_of_settled (surplusSet (grantRunDown s) false) hsettled]
    simp [surplusSet, grantRunDown, hmin]
  · refine ⟨fun honly hwas hnone => ?_, fun honly hwas => ⟨fun hidle => ?_, fun c hhold hgrace => ?_⟩⟩
    · refine sampleInstant_of_delivery s ((surplusSet s true).modPerm fun p => { p with grace := none }) levels .genRun
        k _ hphase honly fun n hn => ?_
      have hnow : surplusNow (acceptedAt s n) = true := surplusNow_acceptedAt s n _ hgrant hn
      show settle (recomputeSurplus (acceptedAt s n)) = _
      rw [recomputeSurplus_back _ hnow hwas]
      exact settle_wantAdmission ((surplusSet (acceptedAt s n) true).modPerm _) hsettled hnone
    · refine sampleInstant_of_delivery s (surplusSet s false) levels .genRun k _ hphase honly fun n hn => ?_
      have hnow : surplusNow (acceptedAt s n) = false := surplusNow_acceptedAt s n _ hgrant hn
      show settle (recomputeSurplus (acceptedAt s n)) = _
      rw [recomputeSurplus_lost _ hnow hwas, surplusLost_of_idle (surplusSet (acceptedAt s n) false) hidle]
      exact settle_of_settled (surplusSet (acceptedAt s n) false) hsettled
    · refine sampleInstant_of_delivery s ((surplusSet s false).modPerm fun p => { p with grace := some 0 }) levels
        .genRun k _ hphase honly fun n hn => ?_
      have hnow : surplusNow (acceptedAt s n) = false := surplusNow_acceptedAt s n _ hgrant hn
      show settle (recomputeSurplus (acceptedAt s n)) = _
      rw [recomputeSurplus_lost _ hnow hwas, surplusLost_of_hold (surplusSet (acceptedAt s n) false) c hhold hgrace]
      exact settle_of_settled ((surplusSet (acceptedAt s n) false).modPerm _) hsettled

end Sys2Proof.Machine
end

-- ==== Proofs: the admission of an equalise ====
section
/-! PROOFS. The admission of an equalise starts TRANSFER_OUT, and the deliveries of KS and KE that complete its steps
(O27). -/

namespace Sys2Proof.Machine

open Sys2Proof.Safety

/-! ### Stage changes of the transfer out (R45, R47, R91) -/

section
variable (s : State) (c : Ch) (x : Context)

/-- A stage-change delivery changes Site Permissions, the fan and what is due. -/
theorem stageDelivered_eq (st : Stage) :
    ∃ perm fan due, stageDelivered s st = { s with perm := perm, due := due, out := { s.out with fan := fan } } := by
  have hframe := stageDelivered_frame s st
  have hout := stageDelivered_outputs s st
  generalize stageDelivered s st = t at hframe hout
  have hfan : t.out = { s.out with fan := t.out.fan } := by rw [← hout]
  exact ⟨t.perm, t.out.fan, t.due, by rw [← hfan]; exact hframe.symm⟩

/-- A state with a channel in a stage, its stage timer at 0. -/
def stageEntered (st : Stage) : State :=
  { s with chan := s.chan.set c ({ s.chan.get c with stage := st, ctx := some { x with stageTimer := 0 } }) }

/-- A state with a channel in a stage, its stage timer at 0, and a demand. -/
def staged (st : Stage) (code : Nat) (cell : Option Nat) : State := writeDemand (stageEntered s c x st) c code cell

/-- A stage change is a delivery to Site Permissions of the stage with its demand (R91). -/
theorem setStage_eq_delivered (st : Stage) (code : Nat) (cell : Option Nat) (hx : (s.chan.get c).ctx = some x)
    (hdirect : writeDirect (stageEntered s c x st) c = staged s c x st code cell) :
    setStage s c st = stageDelivered (staged s c x st code cell) st := by
  have hentered : State.modCtx (s.modChan c fun ch => { ch with stage := st }) c (fun x => { x with stageTimer := 0 }) =
      stageEntered s c x st := by
    simp [State.modCtx, State.modChan, hx, stageEntered]
  unfold setStage; dsimp only
  rw [hentered, hdirect]

/-- On entering TRANSFER_OUT the demand is the measured-voltage code (R45). -/
theorem setStage_transferOut (hx : (s.chan.get c).ctx = some x) :
    setStage s c .transferOut =
      stageDelivered (staged s c x .transferOut (measuredCode s x.string) none) .transferOut :=
  setStage_eq_delivered s c x _ _ _ hx (by simp [writeDirect, stageEntered, staged, measuredCode])

/-- On entering RAMP with no step made the demand is the float setpoint while that is below the target (R45, R98). -/
theorem setStage_ramp (v : Nat) (hx : (s.chan.get c).ctx = some x) (hk : x.k = 0)
    (hv : v = (s.comp.get x.string).floatMv) (hbelow : v < effectiveTarget s x) :
    setStage s c .ramp = stageDelivered (staged s c x .ramp (cellCode v) (some v)) .ramp := by
  have hdemand : cellDemand (stageEntered s c x .ramp) .ramp { x with stageTimer := 0 } = some v := by
    have hreach : rampReach s x = v := by simp [rampReach, hk, hv]
    show some (min (rampReach s x) (effectiveTarget s x)) = some v
    rw [hreach, Nat.min_eq_left (Nat.le_of_lt hbelow)]
  refine setStage_eq_delivered s c x _ _ _ hx ?_
  have hctx : ((stageEntered s c x .ramp).chan.get c).ctx = some { x with stageTimer := 0 } := by simp [stageEntered]
  have hstage : ((stageEntered s c x .ramp).chan.get c).stage = .ramp := by simp [stageEntered]
  simp [writeDirect, hctx, hstage, hdemand, staged]

/-! ### The start of the transfer out (R94, R95) -/

/-- TRANSFER_OUT up to the wait for KS: step 1's demand, limit and enable, KS commanded to the channel's bus, and the
step timer running (R94, R95). -/
theorem startTransferOut_waits (hx : (s.chan.get c).ctx = some x)
    (hks : busShown (presents s (.ks x.string)) ≠ some c) :
    ∃ perm fan due, startTransferOut s c =
      { s with
        chan := s.chan.set c
          { s.chan.get c with
            stage := .transferOut, ctx := (some { x with stageTimer := 0 }), toStart := some s.base.runSec
            wait := some { contactor := .ks, start := s.base.ms, limit := s.cfg.contactorMs } }
        present := s.present.set c { code := measuredCode s x.string, cell := none }
        out := { s.out with
          charger := s.out.charger.set c
            { enable := true, demand := measuredCode s x.string, limit := limitCode s }
          ks := s.out.ks.set x.string c, fan := fan }
        perm := perm, due := due } := by
  unfold startTransferOut; dsimp only
  generalize hu : State.modChan s c _ = u
  have hctx : (u.chan.get c).ctx = some x := by rw [← hu]; simpa using hx
  obtain ⟨perm, fan, due, hdelivered⟩ :=
    stageDelivered_eq (staged u c x .transferOut (measuredCode u x.string) none) .transferOut
  rw [setStage_transferOut u c x hctx, hdelivered, outStep2_waits _ c { x with stageTimer := 0 }]
  · refine ⟨perm, fan, due, ?_⟩
    have hcode : measuredCode u x.string = measuredCode s x.string := by rw [← hu]; rfl
    rw [hcode, ← hu]
    simp [staged, stageEntered, writeDemand, startWait, commandKs, setEnable, setLimit, State.modChan, limitCode,
      State.cfg]
  · simp [setEnable, setLimit, staged, stageEntered, writeDemand]
  · rw [← hu]; exact hks

end

/-! ### The admission of an equalise (R88) -/

/-- A state with a queued round taken from the queue and given to a channel, before its TRANSFER_OUT starts (R88). -/
def roundGiven (s : State) (e : Entry) (c : Ch) : State :=
  { s with
    queue := { entries := s.queue.entries.filter (· != e), gen := (s.queue.gen + 1) % 256 }
    hist := s.hist.set e.string
      { s.hist.get e.string with roundOpen := some { kind := e.kind, first := s.stamp } }
    sit := s.sit.set e.string { s.sit.get e.string with role := .equalising, assigned := some (.channel c) }
    chan := s.chan.set c { s.chan.get c with ctx := some (newContext s e), call := none, wait := none } }

/-- The admission of an equalise entry gives its round the free channel, which starts TRANSFER_OUT (R88). -/
theorem admitEntry_of_equalise (s : State) (e : Entry) (c : Ch) (hkind : e.kind ≠ .water)
    (hfree : freeChannel s = some c) : admitEntry s e = startTransferOut (roundGiven s e c) c := by
  unfold admitEntry; dsimp only
  generalize hu : markRoundOpen _ e.string e.kind = u
  have hgiven : giveChannel u c (newContext u e) = startTransferOut (roundGiven s e c) c := by rw [← hu]; rfl
  have hchannel : freeChannel u = some c := by rw [← hu]; exact hfree
  split
  next hwater => exact absurd hwater hkind
  all_goals
    rw [hchannel]
    exact hgiven

/-! ### The steps that complete (R95) -/

/-- The channel that holds a string makes its next step when the feedback shows what the waiting step commanded. -/
theorem channelFeedback_of_step (s : State) (p : Pos) (c : Ch) (w : Wait) (captured : Option Level)
    (hholder : holder s p = some c) (hwait : (s.chan.get c).wait = some w)
    (hshown : stepShown s c p w.contactor = true) :
    channelFeedback s p w.contactor captured = nextStep s c w.contactor := by
  simp [channelFeedback, hholder, hwait, hshown]

/-- KF's command OPEN takes a string that is on bus off it, which makes both tests due (R60, R127, R80). -/
theorem commandKf_opened (s : State) (p : Pos) (hon : (s.sit.get p).onBus = true) :
    commandKf s p .opened =
      { s with
        out := { s.out with kf := s.out.kf.set p .opened }
        sit := s.sit.set p { s.sit.get p with onBus := false }
        due := { reserve := true, admission := true } } := by
  have hopen : onBusNow { s with out := { s.out with kf := s.out.kf.set p .opened } } p = false := by
    simp [onBusNow, show (Contact.opened == Contact.closed) = false from rfl]
  simp [commandKf, recomputeOnBus, hopen, hon, State.modSit, State.wantReserve, State.wantAdmission]

/-- Step 3 of the transfer out with KF not seen open: KF is commanded OPEN and the step waits (R94, R95). -/
theorem outStep3_waits (s : State) (c : Ch) (x : Context) (hx : (s.chan.get c).ctx = some x)
    (hkf : presents s (.kf x.string) ≠ .inactive) :
    outStep3 s c = startWait (commandKf s x.string .opened) c .kf := by
  have hstring : heldString s c = some x.string := by simp [heldString, hx]
  have hshown : presents (commandKf s x.string .opened) (.kf x.string) ≠ .inactive := by
    rw [← commandKf_frame]; exact hkf
  unfold outStep3; rw [hstring]; dsimp only
  exact if_neg hshown

/-! ### The reserve (R127) -/

/-- One string that leaves the bus takes at most one from the on-bus count (R60). -/
theorem onBusCount_of_left (s : State) (p : Pos) (g : StringSituation) :
    onBusCount s - 1 ≤ onBusCount { s with sit := s.sit.set p g } := by
  have hnodup : Pos.all.Nodup := by decide
  calc onBusCount s - 1
      ≤ ((Pos.all.filter fun q => (s.sit.get q).onBus).erase p).length := List.le_length_erase
    _ = ((Pos.all.filter fun q => (s.sit.get q).onBus).filter (· != p)).length := by
        rw [(hnodup.filter _).erase_eq_filter]
    _ ≤ onBusCount { s with sit := s.sit.set p g } := by
        rw [List.filter_filter]
        refine (List.monotone_filter_right _ fun q hq => ?_).length_le
        simp only [Bool.and_eq_true, bne_iff_ne] at hq
        obtain ⟨hne, hon⟩ := hq
        rwa [eight_get_set_other _ _ _ _ hne]

/-- A reserve test that finds the reserve kept clears the breach, and the evaluation finds no candidate (R127). -/
theorem settle_of_reserve_kept (s : State) (hreserve : s.cfg.reserve ≤ onBusCount s) (hdue : s.due.reserve = true)
    (hnone : NoCandidates s) :
    settle s =
      { s with due := { reserve := false, admission := false }, perm := { s.perm with breach := false } } := by
  have hkept : reserveTest { s with due := { s.due with reserve := false } } =
      { s with due := { s.due with reserve := false }, perm := { s.perm with breach := false } } :=
    if_pos (Or.inl hreserve)
  rw [settle, settleWith_reserve 15 s hdue, hkept]
  exact settleWith_of_idle_evaluation 14 _ rfl (evaluate_of_no_candidates _ hnone)

/-! ### The delivery of KS (R95, R94, R60) -/

/-- A state with KF commanded OPEN at a string, which is off the bus, and its channel waiting for KF (R94). -/
def offBus (s : State) (c : Ch) (p : Pos) : State :=
  { s with
    chan := s.chan.set c { s.chan.get c with
      wait := (some { contactor := .kf, start := s.base.ms, limit := s.cfg.contactorMs }) }
    out := { s.out with kf := s.out.kf.set p .opened }
    sit := s.sit.set p { s.sit.get p with onBus := false }
    due := { reserve := true, admission := true } }

/-- The step after KS takes the string off the bus and waits for KF (R95, R94, R60). -/
theorem nextStep_ks (s : State) (c : Ch) (x : Context) (hstage : (s.chan.get c).stage = .transferOut)
    (hx : (s.chan.get c).ctx = some x) (hkf : presents s (.kf x.string) ≠ .inactive)
    (hon : (s.sit.get x.string).onBus = true) : nextStep s c .ks = offBus s c x.string := by
  have hstopped : ((stopWait s c).chan.get c).stage = .transferOut := by simpa [stopWait] using hstage
  have hstring : ((stopWait s c).chan.get c).ctx = some x := by simpa [stopWait] using hx
  have hnext : nextStep s c .ks = outStep3 (stopWait s c) c := by simp [nextStep, hstopped]
  rw [hnext, outStep3_waits (stopWait s c) c x hstring hkf, commandKf_opened (stopWait s c) _ hon]
  simp [startWait, stopWait, State.modChan, offBus]

/-- A string that leaves the bus with one more on it than the reserve: the reserve is kept (R127). -/
theorem settle_offBus (s : State) (c : Ch) (p : Pos) (hnone : NoCandidates s)
    (hreserve : s.cfg.reserve + 1 ≤ onBusCount s) :
    settle (offBus s c p) =
      { offBus s c p with
        due := { reserve := false, admission := false }, perm := { s.perm with breach := false } } := by
  have hcount : onBusCount s - 1 ≤ onBusCount (offBus s c p) := onBusCount_of_left s p _
  have hkept : s.cfg.reserve ≤ onBusCount (offBus s c p) := by omega
  exact settle_of_reserve_kept (offBus s c p) hkept rfl hnone

/-! ### The delivery of KE (R98, R45, R47) -/

/-- A target that is not reached leaves RAMP as it is (R98). -/
theorem targetTest_of_below (s : State) (c : Ch) (x : Context) (hx : (s.chan.get c).ctx = some x)
    (hbelow : rampReach s x < effectiveTarget s x) : targetTest s c = s := by
  have hshort : targetReached s x = false := by simp [targetReached, hbelow]
  unfold targetTest; dsimp only
  rw [hx]
  split
  next y _ hy => obtain rfl := Option.some.inj hy; simp [hshort]
  next => rfl

/-- A state with a channel's waiting step ended and its ramp at the start (R98). -/
def rampStarted (s : State) (c : Ch) (x : Context) : State :=
  { s with chan := s.chan.set c { s.chan.get c with ctx := some { x with k := 0 }, wait := none } }

/-- A channel enters RAMP at the float setpoint, which is below the target (R98, R45). -/
theorem enterRamp_eq (s : State) (c : Ch) (x : Context) (v : Nat) (hx : (s.chan.get c).ctx = some x)
    (hv : v = (s.comp.get x.string).floatMv) (hbelow : v < effectiveTarget s { x with k := 0 }) :
    ∃ perm fan, enterRamp s c =
      { s with
        chan := s.chan.set c
          { s.chan.get c with stage := .ramp, ctx := (some { x with k := 0, stageTimer := 0 }), wait := none }
        present := s.present.set c { code := cellCode v, cell := some v }
        out := { s.out with
          charger := s.out.charger.set c { s.out.charger.get c with demand := cellCode v }, fan := fan }
        perm := perm } := by
  have hstart : State.modCtx (stopWait s c) c (fun x => { x with k := 0 }) = rampStarted s c x := by
    simp [stopWait, State.modCtx, State.modChan, hx, rampStarted]
  have hreach : rampReach s { x with k := 0 } < effectiveTarget s { x with k := 0 } := by
    simpa [rampReach, ← hv] using hbelow
  obtain ⟨perm, fan, hdelivered⟩ := stageDelivered_of_gassing
    (staged (rampStarted s c x) c { x with k := 0 } .ramp (cellCode v) (some v))
    .ramp (by decide) (stageCount_pos _ _ c (by simp [staged, stageEntered, writeDemand, Stage.gasses]))
  refine ⟨perm, fan, ?_⟩
  rw [enterRamp, hstart, setStage_ramp (rampStarted s c x) c { x with k := 0 } v (by simp [rampStarted]) rfl hv hbelow,
    hdelivered]
  refine (targetTest_of_below _ c { x with k := 0, stageTimer := 0 } ?_ ?_).trans ?_
  · simp [staged, stageEntered, writeDemand]
  · exact hreach
  · simp [rampStarted, staged, stageEntered, writeDemand]

/-- The step after KE enters RAMP (R95, R98). -/
theorem nextStep_ke (s : State) (c : Ch) (hstage : (s.chan.get c).stage = .transferOut) :
    nextStep s c .ke = enterRamp s c := by
  have hstopped : ((stopWait s c).chan.get c).stage = .transferOut := by simpa [stopWait] using hstage
  have htwice : stopWait (stopWait s c) c = stopWait s c := by simp [stopWait, State.modChan]
  simp [nextStep, hstopped, enterRamp, htwice]

/-! ### The two deliveries (R2, R12) -/

/-- The bus that a KS feedback shows. -/
theorem busShown_of_bus (c : Ch) : busShown (if c = .b then .active else .inactive) = some c := by cases c <;> rfl

/-- An input presents what a sample instant accepts. -/
theorem presents_acceptedAt (s : State) (n : Inputs) (i : InputId) (v : Presented)
    (hn : ∀ j, (n.get j).presented = if j = i then v else (s.inp.get j).presented) (j : InputId) :
    presents (acceptedAt s n) j = if j = i then v else presents s j := hn j

section
variable (s : State) (k : DeliveryKind) (c : Ch) (x : Context) (w : Wait) (hstage : (s.chan.get c).stage = .transferOut)
  (hwait : (s.chan.get c).wait = some w) (hholder : holder s x.string = some c)

include hstage hwait hholder

/-- The delivery of KS that shows the channel's bus takes the string off the bus (R95, R94, R60). -/
theorem deliver_ks (hx : (s.chan.get c).ctx = some x) (hw : w.contactor = .ks)
    (hks : presents s (.ks x.string) = if c = .b then .active else .inactive)
    (hkf : presents s (.kf x.string) ≠ .inactive) (hon : (s.sit.get x.string).onBus = true) : deliver s (.ks x.string) k = offBus s c x.string := by
  have hshown : stepShown s c x.string w.contactor = true := by simp [stepShown, hstage, hw, hks, busShown_of_bus]
  have hfeedback := channelFeedback_of_step s x.string c w (s.inp.get (.ks x.string)).captured hholder hwait hshown
  rw [hw, nextStep_ks s c x hstage hx hkf hon] at hfeedback
  exact hfeedback

/-- The delivery of KE that shows CLOSED makes the channel enter RAMP, and an evaluation due (R95, R98, R80). -/
theorem deliver_ke (hw : w.contactor = .ke) (hke : presents s (.ke x.string) = .active) :
    deliver s (.ke x.string) k = (enterRamp s c).wantAdmission := by
  have hshown : stepShown s c x.string w.contactor = true := by simp [stepShown, hstage, hw, hke]
  have hstring : stringKe s x.string = s := by simp [stringKe, hke]
  have hfeedback := channelFeedback_of_step s x.string c w (s.inp.get (.ke x.string)).captured hholder hwait hshown
  rw [hw, nextStep_ke s c hstage] at hfeedback
  show (channelFeedback (stringKe s x.string) x.string .ke _).wantAdmission = _
  rw [hstring, hfeedback]

end

/-- Settles O27: the admission starts TRANSFER_OUT up to the wait for KS; the deliveries of KS and KE complete their
steps. -/
theorem admissionStartsTransferOut : Obligations.AdmissionStartsTransferOut := by
  refine ⟨fun s e c hkind hfree hks => ?_,
    fun s levels k c x w hphase hsettled hnone hstage hx hwait hholder => ⟨fun hw honly hkf hon hreserve => ?_,
      fun v hw honly hv hbelow => ?_⟩⟩
  · obtain ⟨perm, fan, due, hstarted⟩ := startTransferOut_waits (roundGiven s e c) c (newContext s e)
      (by simp [roundGiven]) hks
    have hother : c.other ≠ c := by cases c <;> decide
    have hcode : measuredCode (roundGiven s e c) (newContext s e).string = measuredCode s e.string := rfl
    rw [admitEntry_of_equalise s e c hkind hfree, hstarted, hcode]
    simp [roundGiven, newContext, hother, limitCode, State.stamp]
  · have hdue : s.due = { reserve := false, admission := false } := hsettled
    obtain ⟨t, hexec, hsampled, hstate⟩ := sampleInstant_of_delivery s
      { offBus (sampleTick s) c x.string with due := s.due, perm := { s.perm with breach := false } } levels
      (.ks x.string) k _ hphase honly fun n hn => by
        have hks := (presents_acceptedAt s n _ _ hn (.ks x.string)).trans (if_pos rfl)
        have hkept : presents (acceptedAt s n) (.kf x.string) ≠ .inactive := by
          rwa [presents_acceptedAt s n _ _ hn, if_neg (by simp)]
        have hheld := (holder_of_chan s (acceptedAt s n) x.string rfl).trans hholder
        rw [deliver_ks (acceptedAt s n) k c x w hstage hwait hheld hx hw hks hkept hon,
          settle_offBus (acceptedAt s n) c x.string hnone hreserve, hdue]
        rfl
    refine ⟨t, hexec, hsampled, ?_⟩
    obtain ⟨-, hbase⟩ := hsampled
    rw [hbase] at hstate ⊢
    exact hstate
  · obtain ⟨n, -, hn, hresult⟩ := execSampleInstant_of_onlyAccepts s levels (.ke x.string) k .active hphase honly
    have hke := (presents_acceptedAt s n _ _ hn (.ke x.string)).trans (if_pos rfl)
    have hheld := (holder_of_chan s (acceptedAt s n) x.string rfl).trans hholder
    have hdelivered := deliver_ke (acceptedAt s n) k c x w hstage hwait hheld hw hke
    obtain ⟨perm, fan, hramp⟩ := enterRamp_eq (acceptedAt s n) c x v hx hv hbelow
    have hdone : settle (deliver (acceptedAt s n) (.ke x.string) k) = enterRamp (acceptedAt s n) c := by
      rw [hdelivered, hramp]
      exact settle_wantAdmission _ hsettled hnone
    obtain ⟨n', hexec, hsamples⟩ := hresult _ hdone (by rw [hramp]; rfl)
    rw [hramp] at hexec
    exact ⟨_, hexec, ⟨hsamples, rfl⟩, rfl, rfl, rfl, rfl, rfl, rfl, rfl, rfl, rfl, rfl, rfl, rfl, rfl⟩

end Sys2Proof.Machine
end

-- ==== Proofs: a ramp step and a minute in HOLD ====
section
/-! PROOFS. A ramp step, a minute in HOLD (O30, O31). -/

namespace Sys2Proof.Machine

open Sys2Proof.Safety

/-! ### A ramp step (R98, R45, R47) -/

/-- A state with a ramp step made on a channel: k one higher and the stage timer at 0. -/
def rampStepped (s : State) (c : Ch) (x : Context) : State :=
  { s with chan := s.chan.set c { s.chan.get c with ctx := some { x with k := x.k + 1, stageTimer := 0 } } }

/-- The seconds of a stage are its context's stage timer (R92). -/
theorem stageSeconds_of_stage (s : State) (c : Ch) (x : Context) (st : Stage) (hstage : (s.chan.get c).stage = st)
    (hx : (s.chan.get c).ctx = some x) : stageSeconds s c st = x.stageTimer := by
  simp [stageSeconds, hstage, hx]

/-- A direct event in RAMP short of the target writes the ramp's reach (R45, R47). -/
theorem writeDirect_of_ramp (s : State) (c : Ch) (x : Context) (hx : (s.chan.get c).ctx = some x)
    (hstage : (s.chan.get c).stage = .ramp) (hbelow : rampReach s x < effectiveTarget s x) :
    writeDirect s c = writeDemand s c (cellCode (rampReach s x)) (some (rampReach s x)) := by
  simp [writeDirect, hx, hstage, cellDemand, min_eq_left hbelow.le]

/-- A step short of the target raises the demand and leaves the channel in RAMP (R98). -/
theorem rampStep_of_below (s : State) (c : Ch) (x : Context) (hstage : (s.chan.get c).stage = .ramp)
    (hx : (s.chan.get c).ctx = some x) (hk : x.k < 255)
    (hbelow : rampReach s { x with k := x.k + 1 } < effectiveTarget s x) :
    rampStep s c =
      writeDemand (rampStepped s c x) c (cellCode (rampReach s { x with k := x.k + 1 }))
        (some (rampReach s { x with k := x.k + 1 })) := by
  have hstepped : s.modCtx c (fun y => { y with k := satAdd 255 y.k 1, stageTimer := 0 }) = rampStepped s c x := by
    simp [State.modCtx, State.modChan, hx, rampStepped, satAdd, min_eq_right (Nat.succ_le_of_lt hk)]
  have hctx : ((rampStepped s c x).chan.get c).ctx = some { x with k := x.k + 1, stageTimer := 0 } := by
    simp [rampStepped]
  rw [rampStep, hstepped, writeDirect_of_ramp (rampStepped s c x) c _ hctx (by simpa [rampStepped] using hstage) hbelow]
  exact targetTest_of_below _ c _ hctx hbelow

/-- Settles O30: the step is due, and the demand that it reaches is below the target. -/
theorem rampStepRaisesDemand : Obligations.RampStepRaisesDemand := by
  intro s c x v hstage hx hdue hk hsettled hv hbelow
  have hreach : rampReach s { x with k := x.k + 1 } = v := hv.symm
  have hexec : exec (.rampStep c) s = settled (rampStep s c) :=
    if_pos ⟨hstage, by rwa [stageSeconds_of_stage s c x .ramp hstage hx]⟩
  rw [hexec, rampStep_of_below s c x hstage hx hk (by rwa [hreach]), hreach]
  exact settled_of_settled _ hsettled

/-! ### A minute in HOLD (R99) -/

/-- A context with a minute in HOLD counted, in the hold and in its window (R99). -/
def minuteHeld (x : Context) : Context :=
  { x with holdSec := x.holdSec - 60, holdMin := x.holdMin + 1, winMin := x.winMin + 1 }

/-- A state with a minute in HOLD counted on a channel. -/
def holdCounted (s : State) (c : Ch) (x : Context) : State :=
  { s with chan := s.chan.set c { s.chan.get c with ctx := some (minuteHeld x) } }

/-- A minute inside a window is counted, and then the hold limit is tested (R99). -/
theorem holdMinute_inside_window (s : State) (c : Ch) (x : Context) (hstage : (s.chan.get c).stage = .hold)
    (hx : (s.chan.get c).ctx = some x) (hwindow : x.winMin + 1 < s.cfg.flatWindowMin) :
    holdMinute s c =
      if x.holdLimit ≤ x.holdMin + 1 then finish (holdCounted s c x) c .timeLimit else holdCounted s c x := by
  have hcounted : s.modCtx c minuteHeld = holdCounted s c x := by
    simp [State.modCtx, State.modChan, hx, holdCounted]
  have hctx : ((holdCounted s c x).chan.get c).ctx = some (minuteHeld x) := by simp [holdCounted]
  have hwithin : holdWindow (holdCounted s c x) c = holdCounted s c x := by
    have hshort : ¬(holdCounted s c x).cfg.flatWindowMin ≤ (minuteHeld x).winMin := Nat.not_le.mpr hwindow
    simp only [holdWindow, hctx, if_neg hshort]
  have hlimit : holdLimitTest (holdCounted s c x) c =
      if x.holdLimit ≤ x.holdMin + 1 then finish (holdCounted s c x) c .timeLimit else holdCounted s c x := by
    have hhold : inHold (holdCounted s c x) c = true := by simp [inHold, holdCounted, hstage]
    simp [holdLimitTest, hctx, hhold, minuteHeld]
  show holdLimitTest (holdWindow (s.modCtx c minuteHeld) c) c = _
  rw [hcounted, hwithin, hlimit]

/-- Settles O31: the minute is due and inside its window; at the hold limit the equalise finishes. -/
theorem holdMinuteCounts : Obligations.HoldMinuteCounts := by
  intro s c x hstage hx hdue hwindow _ hsettled
  have hexec : exec (.holdMinute c) s = settled (holdMinute s c) :=
    if_pos ⟨by simp [inHold, hstage], by simpa [hx] using hdue⟩
  rw [hexec, holdMinute_inside_window s c x hstage hx hwindow]
  refine ⟨fun hshort => ?_, fun hlimit => ?_⟩
  · rw [if_neg (Nat.not_le.mpr hshort)]
    exact settled_of_settled _ hsettled
  · obtain ⟨perm, fan, hfinished⟩ := finish_eq (holdCounted s c x) c (minuteHeld x) .timeLimit (by simp [holdCounted])
      (.inr (by simpa [holdCounted] using hstage))
    rw [if_pos hlimit, hfinished]
    refine ⟨_, settled_of_settled _ hsettled, ?_⟩
    simp [finishedRound, holdCounted, minuteHeld, State.stamp, other_ne]

end Sys2Proof.Machine
end

-- ==== Proofs: the return to the load bus ====
section
/-! PROOFS. The return to the load bus: how it starts, where its steps wait, and the contactor faults, the settle's end
and the give-up that start it (O28, O33, O34). -/

namespace Sys2Proof.Machine

open Sys2Proof.Safety

/-! ### Stage changes to an active stage (R91, R121) -/

section
variable (s : State)

/-- The vent monitor makes no reserve test due (R122, R123). -/
theorem ventMonitor_reserve : (ventMonitor s).due.reserve = s.due.reserve := by
  unfold ventMonitor; dsimp only
  split
  · split <;> rfl
  · rfl

/-- The fan's recomputation makes no reserve test due (R121). -/
theorem recomputeFan_reserve : (recomputeFan s).due.reserve = s.due.reserve := by
  unfold recomputeFan; dsimp only
  split
  · rfl
  · exact ventMonitor_reserve _

/-- A state with Site Permissions, the fan and the due evaluation as a stage-change delivery leaves them. -/
def permitted (perm : Permissions) (fan a : Bool) : State :=
  { s with perm := perm, out := { s.out with fan := fan }, due := { reserve := s.due.reserve, admission := a } }

/-- A settled state stays settled when no evaluation is due. -/
theorem settled_permitted (perm : Permissions) (fan : Bool) (h : Settled s) :
    Settled (permitted s perm fan false) := by
  have hdue : s.due = { reserve := false, admission := false } := h
  simp [Settled, permitted, hdue]

/-- The delivery of a stage other than IDLE changes Site Permissions and the fan, and can make an evaluation due only
when the vent had failed (R121, R123). -/
theorem stageDelivered_of_active (st : Stage) (hst : st ≠ .idle) :
    ∃ perm fan a, stageDelivered s st = permitted s perm fan a
      ∧ (s.perm.ventFailed = false → a = s.due.admission) := by
  have hreserve : (stageDelivered s st).due.reserve = s.due.reserve := by
    unfold stageDelivered; dsimp only
    rw [if_neg hst]
    exact recomputeFan_reserve (s.modPerm _)
  have hdue := stageDelivered_due s st
  obtain ⟨perm, fan, due, hdelivered⟩ := stageDelivered_eq s st
  rw [hdelivered] at hreserve hdue ⊢
  replace hreserve : due.reserve = s.due.reserve := hreserve
  refine ⟨perm, fan, due.admission, ?_, fun hvent => congrArg Due.admission (hdue hvent hst)⟩
  rw [permitted, ← hreserve]

end

/-! ### The start of the return (R114) -/

section
variable (s : State) (c : Ch) (x : Context)

/-- On entering TRANSFER_BACK the demand is 0 (R45). -/
theorem setStage_transferBack (hx : (s.chan.get c).ctx = some x) :
    setStage s c .transferBack = stageDelivered (staged s c x .transferBack 0 none) .transferBack :=
  setStage_eq_delivered s c x _ _ _ hx (by simp [writeDirect, stageEntered, staged])

/-- A state with step 1 of a channel's return made: TRANSFER_BACK with the exit reason, no waiting step, and the
charger off with codes 0. -/
def returnStarted (e : Exit) : State :=
  { s with
    chan := s.chan.set c
      { s.chan.get c with
        stage := .transferBack, ctx := (some { x with stageTimer := 0, exit := some e }), wait := none }
    present := s.present.set c { code := 0, cell := none }
    out := { s.out with charger := s.out.charger.set c { enable := false, demand := 0, limit := 0 } } }

/-- The entry to TRANSFER_BACK makes step 1 and goes on to step 2 (R114). -/
theorem enterBack_eq (e : Exit) (hx : (s.chan.get c).ctx = some x) :
    ∃ perm fan a, enterBack s c e = backStep2 (permitted (returnStarted s c x e) perm fan a) c
      ∧ (s.perm.ventFailed = false → a = s.due.admission) := by
  unfold enterBack; dsimp only
  generalize hu : State.modCtx (stopWait (setEnable s c false) c) c _ = u
  have hctx : (u.chan.get c).ctx = some { x with exit := some e } := by
    rw [← hu]; simp [State.modCtx, State.modChan, stopWait, hx]
  obtain ⟨perm, fan, a, hdelivered, hvent⟩ :=
    stageDelivered_of_active (staged u c { x with exit := some e } .transferBack 0 none) .transferBack (by decide)
  have hstarted : setLimit (permitted (staged u c { x with exit := some e } .transferBack 0 none) perm fan a) c 0 =
      permitted (returnStarted s c x e) perm fan a := by
    rw [← hu]
    simp [staged, stageEntered, writeDemand, setLimit, setEnable, stopWait, State.modCtx, State.modChan, permitted,
      returnStarted]
  rw [setStage_transferBack u c _ hctx, hdelivered, hstarted]
  refine ⟨perm, fan, a, rfl, fun h => ?_⟩
  rw [hvent (by rw [← hu]; exact h), ← hu]
  rfl

/-! ### The steps of the return (R114, R95) -/

/-- Commanding KE where it stands changes nothing. -/
theorem commandKe_same (p : Pos) (k : Contact) (h : s.out.ke.get p = k) : commandKe s p k = s := by
  simp [commandKe, ← h]

/-- Step 2 with KE commanded OPEN, or seen open as soon as it is, goes on to step 3. -/
theorem backStep2_passes (hx : (s.chan.get c).ctx = some x)
    (hke : s.out.ke.get x.string = .closed → presents s (.ke x.string) = .inactive) :
    backStep2 s c = backStep3 (commandKe s x.string .opened) c := by
  have hstring : heldString s c = some x.string := by simp [heldString, hx]
  unfold backStep2; rw [hstring]; dsimp only
  cases hcommand : s.out.ke.get x.string with
  | closed =>
    rw [if_pos rfl]
    exact if_pos (hke hcommand)
  | opened => rw [if_neg (by decide), commandKe_same s x.string .opened hcommand]

/-- A contactor KF that is not seen closed keeps its string off the bus (R60). -/
theorem onBusNow_of_not_seen (p : Pos) (hkf : presents s (.kf p) ≠ .active) : onBusNow s p = false := by
  simp [onBusNow, hkf]

/-- KF's command leaves a string off the bus while KF is not seen closed (R60). -/
theorem commandKf_of_not_seen (p : Pos) (k : Contact) (hkf : presents s (.kf p) ≠ .active)
    (hoff : (s.sit.get p).onBus = false) :
    commandKf s p k = { s with out := { s.out with kf := s.out.kf.set p k } } :=
  recomputeOnBus_same _ p ((onBusNow_of_not_seen { s with out := { s.out with kf := s.out.kf.set p k } } p hkf).trans
    hoff.symm)

/-- Step 3 with KF commanded OPEN and not seen closed: KF is commanded CLOSED and the step waits. -/
theorem backStep3_waits (hx : (s.chan.get c).ctx = some x) (hkf : s.out.kf.get x.string = .opened)
    (hshown : presents s (.kf x.string) ≠ .active) (hoff : (s.sit.get x.string).onBus = false) :
    backStep3 s c = startWait { s with out := { s.out with kf := s.out.kf.set x.string .closed } } c .kf := by
  have hstring : heldString s c = some x.string := by simp [heldString, hx]
  unfold backStep3; rw [hstring]; dsimp only
  rw [if_pos hkf, commandKf_of_not_seen s x.string .closed hshown hoff]
  exact if_neg hshown

end

/-! ### Where the return waits -/

section
variable (s : State) (c : Ch) (x : Context)

/-- A state with a channel's return at a waiting step, its contactors commanded. -/
def returnWaiting (e : Exit) (k : Contactor) (kf ke : Eight Contact) : State :=
  startWait
    { returnStarted s c x e with out := { (returnStarted s c x e).out with kf := kf, ke := ke } } c k

variable (e : Exit) (hx : (s.chan.get c).ctx = some x)
include hx

/-- A return that finds KE commanded CLOSED and not seen open commands it OPEN and waits for it. -/
theorem enterBack_waits_ke (hke : s.out.ke.get x.string = .closed) (hshown : presents s (.ke x.string) ≠ .inactive) :
    ∃ perm fan a,
      enterBack s c e = permitted (returnWaiting s c x e .ke s.out.kf (s.out.ke.set x.string .opened)) perm fan a
      ∧ (s.perm.ventFailed = false → a = s.due.admission) := by
  obtain ⟨perm, fan, a, hstarted, hvent⟩ := enterBack_eq s c x e hx
  refine ⟨perm, fan, a, ?_, hvent⟩
  rw [hstarted, backStep2_waits (permitted (returnStarted s c x e) perm fan a) c
    { x with stageTimer := 0, exit := some e } (by simp [permitted, returnStarted]) hke hshown]
  rfl

/-- A return that finds KE open and KF not seen closed commands KF CLOSED and waits for it. -/
theorem enterBack_waits_kf (hke : s.out.ke.get x.string = .closed → presents s (.ke x.string) = .inactive)
    (hkf : s.out.kf.get x.string = .opened) (hnot : presents s (.kf x.string) ≠ .active)
    (hoff : (s.sit.get x.string).onBus = false) :
    ∃ perm fan a,
      enterBack s c e =
        permitted
          (returnWaiting s c x e .kf (s.out.kf.set x.string .closed) (s.out.ke.set x.string .opened)) perm fan a
      ∧ (s.perm.ventFailed = false → a = s.due.admission) := by
  obtain ⟨perm, fan, a, hstarted, hvent⟩ := enterBack_eq s c x e hx
  refine ⟨perm, fan, a, ?_, hvent⟩
  have hctx : ((permitted (returnStarted s c x e) perm fan a).chan.get c).ctx =
      some { x with stageTimer := 0, exit := some e } := by simp [permitted, returnStarted]
  rw [hstarted, backStep2_passes _ c _ hctx hke,
    backStep3_waits (commandKe (permitted (returnStarted s c x e) perm fan a) x.string .opened) c _ hctx hkf hnot hoff]
  rfl

end

/-! ### The settle's end and the give-up (R109, R112) -/

/-- A call given up: the line's waiting order without the channel, no call, and the watering deferred (R148, R112). -/
def callGivenUp (s : State) (c : Ch) (x : Context) : State :=
  { s with
    line := { s.line with waiting := s.line.waiting.filter (· != c) }
    chan := s.chan.set c { s.chan.get c with call := none, ctx := some { x with waterDeferred := true } } }

/-- Settles O34: the call is withdrawn, and the return of its channel waits for KE. -/
theorem waitingCallGivesUp : Obligations.WaitingCallGivesUp := by
  intro s c x k hstage hx hcall hwaits hdue hke hshown hvent hsettled
  have hexec : exec (.giveUp c) s = settled (giveUp s c) := by
    show execGiveUp c s = _
    simp [execGiveUp, hstage, hcall, hwaits, hdue]
  have hwithdrawn : (withdrawCall s c).modCtx c (fun y => { y with waterDeferred := true }) = callGivenUp s c x := by
    simp [withdrawCall, State.modLine, State.modChan, State.modCtx, hx, callGivenUp]
  obtain ⟨perm, fan, a, hreturn, hdone⟩ := enterBack_waits_ke (callGivenUp s c x) c { x with waterDeferred := true }
    .finished (by simp [callGivenUp]) hke hshown
  obtain rfl := hdone hvent
  have hgiven : giveUp s c = _ := (congrArg (enterBack · c .finished) hwithdrawn).trans hreturn
  rw [hexec, hgiven]
  refine ⟨_, settled_of_settled _ hsettled, ?_⟩
  simp [permitted, returnWaiting, returnStarted, startWait, State.modChan, callGivenUp, other_ne, State.cfg]

section
variable (s : State) (c : Ch) (x : Context)

/-- On entering WATER the demand is the float setpoint's (R45). -/
theorem setStage_water (hx : (s.chan.get c).ctx = some x) :
    setStage s c .water =
      stageDelivered
        (staged s c x .water (cellCode (s.comp.get x.string).floatMv) (some (s.comp.get x.string).floatMv)) .water :=
  setStage_eq_delivered s c x _ _ _ hx (by simp [writeDirect, stageEntered, staged, cellDemand])

/-- A state with a channel in WATER whose call the line serves: the line in PRIMING for its string, the valve open,
and the demand at the float setpoint (R111, R138). -/
def callServed : State :=
  { s with
    chan := s.chan.set c
      { s.chan.get c with
        stage := .water, ctx := (some { x with stageTimer := 0 }), call := some { Call.pushed with serving := true } }
    present := s.present.set c
      { code := cellCode (s.comp.get x.string).floatMv, cell := some (s.comp.get x.string).floatMv }
    line :=
      { s.line with
        stage := .priming, owner := some (.call c), string := some x.string, identity := none, dose := none, ml := 0,
        pulses := 0, doses := 0, doseMl := 0, outcome := none, timer := 0, flowRef := none, waiting := [] }
    out := { s.out with
      charger := s.out.charger.set c
        { s.out.charger.get c with demand := cellCode (s.comp.get x.string).floatMv }
      valve := s.out.valve.set x.string .opened } }

/-- A line that no call waits for takes a channel's call at once (R138, R148). -/
theorem lineTakeCall_of_free (k : Call) (hx : (s.chan.get c).ctx = some x) (hcall : (s.chan.get c).call = some k)
    (hwaiting : s.line.waiting = []) (hres : presents s .resLow ≠ .active) :
    lineTakeCall s c =
      { s with
        chan := s.chan.set c { s.chan.get c with call := some { k with serving := true } }
        line :=
          { s.line with
            stage := .priming, owner := some (.call c), string := some x.string, identity := none, dose := none,
            ml := 0, pulses := 0, doses := 0, doseMl := 0, outcome := none, timer := 0, flowRef := none, waiting := [] }
        out := { s.out with valve := s.out.valve.set x.string .opened } } := by
  unfold lineTakeCall; rw [hx]; dsimp only
  rw [lineTake_priming _ _ _ _ _ (by exact hres)]
  simp [State.modLine, State.modCall, State.modChan, hcall, hwaiting]

/-- A channel that enters WATER with the line FREE has its call taken at once (R111, R138). -/
theorem enterWater_of_free (hx : (s.chan.get c).ctx = some x) (hlock : (s.hist.get x.string).waterLock = none)
    (hfree : s.line.stage = .free) (hwaiting : s.line.waiting = []) (hres : presents s .resLow ≠ .active) :
    ∃ perm fan a, enterWater s c = permitted (callServed s c x) perm fan a
      ∧ (s.perm.ventFailed = false → a = s.due.admission) := by
  have hstring : heldString s c = some x.string := by simp [heldString, hx]
  unfold enterWater; rw [hstring]; dsimp only
  rw [if_neg (by simp [hlock])]
  generalize hu : State.modChan s c _ = u
  have hctx : (u.chan.get c).ctx = some x := by rw [← hu]; simpa using hx
  obtain ⟨perm, fan, a, hdelivered, hvent⟩ := stageDelivered_of_active
    (staged u c x .water (cellCode (u.comp.get x.string).floatMv) (some (u.comp.get x.string).floatMv)) .water
    (by decide)
  refine ⟨perm, fan, a, ?_, fun h => ?_⟩
  · have htaken : ∀ v : State, v.line = s.line → ((v.line.stage == .free) && v.line.waiting.isEmpty) = true :=
      fun v hv => by simp [hv, hfree, hwaiting]
    rw [setStage_water u c x hctx, hdelivered, if_pos (htaken _ (by rw [← hu]; rfl)),
      lineTakeCall_of_free _ c { x with stageTimer := 0 } Call.pushed]
    · rw [← hu]
      simp [permitted, staged, stageEntered, writeDemand, callServed]
    · simp [permitted, staged, stageEntered, writeDemand]
    · rw [← hu]
      simp [permitted, staged, stageEntered, writeDemand]
    · rw [← hu]; exact hwaiting
    · rw [← hu]; exact hres
  · rw [hvent (by rw [← hu]; exact h), ← hu]
    rfl

end

/-- Settles O33: without a watering the return starts, with one the line takes the call. -/
theorem settleEndsTheStage : Obligations.SettleEndsTheStage := by
  intro s c x hstage hx hdue hvent hsettled
  have hexec : exec (.settleEnd c) s = settled (settleEnd s c) :=
    if_pos ⟨hstage, by rwa [stageSeconds_of_stage s c x .settle hstage hx]⟩
  rw [hexec]
  refine ⟨fun hkind hke hshown => ?_, fun hkind hlock hfree hwaiting hres => ?_⟩
  · have hend : settleEnd s c = enterBack s c .finished := by simp [settleEnd, hx, hkind, Kind.waters]
    obtain ⟨perm, fan, a, hreturn, hdone⟩ := enterBack_waits_ke s c x .finished hx hke hshown
    obtain rfl := hdone hvent
    rw [hend, hreturn]
    refine ⟨_, settled_of_settled _ hsettled, ?_⟩
    simp [permitted, returnWaiting, returnStarted, startWait, State.modChan, other_ne, State.cfg]
  · have hend : settleEnd s c = enterWater s c := by simp [settleEnd, hx, hkind, Kind.waters]
    obtain ⟨perm, fan, a, hwater, hdone⟩ := enterWater_of_free s c x hx hlock hfree hwaiting hres
    obtain rfl := hdone hvent
    rw [hend, hwater]
    refine ⟨_, settled_of_settled _ hsettled, ?_⟩
    simp [permitted, callServed, Call.pushed, other_ne]

/-! ### Contactor faults (R96, R97) -/

section
variable (s : State) (c : Ch) (x : Context)

/-- What a latched CONTACTOR_FAULT holds (R171). -/
def contactorLatch (p : Pos) (k : Contactor) (captured : Option Level) : LatchDetail :=
  { string := p.num, value := k.detail, captured := captured, time := s.stamp, again := 0, pending := true }

/-- The final cell demand of a round that leaves its stage: the present cell demand in RAMP and HOLD, and otherwise as
it was (R103). -/
def finalKept : Option Nat :=
  if (s.chan.get c).stage = .ramp ∨ (s.chan.get c).stage = .hold then (s.present.get c).cell else x.finalCell

/-- A context aborted for a contactor, with the final cell demand that its stage keeps (R103, R106). -/
def contactorAborted (final : Option Nat) : Context := { x with finalCell := final, outcome := some .contactor }

/-- A state with a transfer's failure taken on a channel: the charger off, EQ_LOCK, CONTACTOR_FAULT, and the
outcome (R96, R97). -/
def faulted (k : Contactor) (captured : Option Level) (final : Option Nat) : State :=
  { s with
    out := { s.out with charger := s.out.charger.set c { s.out.charger.get c with enable := false } }
    hist := s.hist.set x.string { s.hist.get x.string with eqLock := some .contactor }
    latches := { s.latches with contactorFault := some (contactorLatch s x.string k captured) }
    chan := s.chan.set c { s.chan.get c with ctx := some (contactorAborted x final) } }

variable (k : Contactor) (captured : Option Level) (hx : (s.chan.get c).ctx = some x)
  (hlatch : s.latches.contactorFault = none)
include hx hlatch

/-- A contactor's fault on a clear latch (R96, R97, R171). -/
theorem contactorFault_of_clear : contactorFault s c x.string k captured = faulted s c x k captured x.finalCell := by
  unfold contactorFault setEqLock; dsimp only
  rw [event_of_clear _ .contactorFault _ _ _ (by exact hlatch)]
  simp [setEnable, State.modHist, State.modCtx, State.modChan, hx, faulted, contactorLatch, contactorAborted,
    Latches.set, State.stamp]

/-- The abort of a contactor's fault is a return, with the final cell demand that the stage keeps (R106, R103). -/
theorem abortRound_of_fault :
    abortRound (contactorFault s c x.string k captured) c .contactor =
      enterBack (faulted s c x k captured (finalKept s c x)) c (.aborted .contactor) := by
  have hkept : (keepFinalCell (faulted s c x k captured x.finalCell) c).modCtx c
      (fun y => { y with outcome := some .contactor }) = faulted s c x k captured (finalKept s c x) := by
    cases hstage : (s.chan.get c).stage <;>
      simp [keepFinalCell, faulted, hstage, finalKept, State.modCtx, State.modChan, contactorAborted]
  rw [contactorFault_of_clear s c x k captured hx hlatch, abortRound, hkept]

end

/-- A feedback delivery away from where the transfer out put the contactor, on a channel in HOLD without a call, is a
disagreement (R97). -/
theorem channelFeedback_of_disagreement (s : State) (p : Pos) (c : Ch) (k : Contactor) (captured : Option Level)
    (hholder : holder s p = some c) (hstage : (s.chan.get c).stage = .hold) (hwait : (s.chan.get c).wait = none)
    (hcall : (s.chan.get c).call = none) (haway : feedbackAway s c p k = true) :
    channelFeedback s p k captured = abortRound (contactorFault s c p k captured) c .contactor := by
  simp [channelFeedback, hholder, hwait, stepPassed, hstage, haway, disagreement, hcall]

/-- The settled delivery of KE seen open on a string in HOLD: the fault's abort, whose return waits for KF (R97, R103,
R114). -/
theorem settle_deliver_ke_of_hold (s : State) (k : DeliveryKind) (c : Ch) (x : Context) (hsettled : Settled s)
    (hnone : NoCandidates s) (hshown : presents s (.ke x.string) = .inactive) (hstage : (s.chan.get c).stage = .hold)
    (hx : (s.chan.get c).ctx = some x) (hcall : (s.chan.get c).call = none) (hwait : (s.chan.get c).wait = none)
    (hholder : holder s x.string = some c) (hrole : (s.sit.get x.string).role = .equalising)
    (hkf : s.out.kf.get x.string = .opened) (hnot : presents s (.kf x.string) ≠ .active)
    (hoff : (s.sit.get x.string).onBus = false)
    (hlatch : s.latches.contactorFault = none) :
    ∃ perm fan, settle (deliver s (.ke x.string) k) =
      permitted
        (returnWaiting (faulted s c x .ke (s.inp.get (.ke x.string)).captured (s.present.get c).cell) c
          (contactorAborted x (s.present.get c).cell) (.aborted .contactor) .kf (s.out.kf.set x.string .closed)
          (s.out.ke.set x.string .opened)) perm fan false := by
  have htable : stringKe s x.string = s := by simp [stringKe, hrole]
  have hfinal : finalKept s c x = (s.present.get c).cell := if_pos (.inr hstage)
  have haway : feedbackAway s c x.string .ke = true := by simp [feedbackAway, hshown]
  have hdelivered : deliver s (.ke x.string) k =
      (enterBack (faulted s c x .ke (s.inp.get (.ke x.string)).captured (s.present.get c).cell) c
        (.aborted .contactor)).wantAdmission := by
    show (channelFeedback (stringKe s x.string) x.string .ke _).wantAdmission = _
    rw [htable, channelFeedback_of_disagreement s x.string c .ke _ hholder hstage hwait hcall haway,
      abortRound_of_fault s c x .ke _ hx hlatch, hfinal]
  obtain ⟨perm, fan, a, hreturn, -⟩ := enterBack_waits_kf
    (faulted s c x .ke (s.inp.get (.ke x.string)).captured (s.present.get c).cell) c
    (contactorAborted x (s.present.get c).cell) (.aborted .contactor) (by simp [faulted]) (fun _ => hshown)
    hkf hnot hoff
  rw [hdelivered, hreturn]
  exact ⟨perm, fan, settle_wantAdmission (permitted _ perm fan false) (settled_permitted _ perm fan hsettled) hnone⟩

/-- A waiting step whose timer has run out by the next sample instant is due (R95). -/
theorem dueStep_of_wait (s : State) (c : Ch) (st : Stage) (w : Wait) (hstage : (s.chan.get c).stage = st)
    (hwait : (s.chan.get c).wait = some w) (hdue : w.start + w.limit ≤ s.base.sampleAt) : dueStep s c st = some w := by
  have hrun : stepDue s w = true := decide_eq_true (hdue.trans (le_max_right _ _))
  simp [dueStep, hstage, hwait, hrun]

/-- Settles O28: both faults abort with CONTACTOR, and the return finds KE open and waits for KF. -/
theorem transferOutTimesOut : Obligations.TransferOutTimesOut := by
  refine ⟨fun s c x w hstage hx hcall hwait hw hdue hkf hke hnot hoff hvent hlatch hsettled => ?_,
    fun s levels k c x hphase hsettled hnone honly hstage hx hcall hwait hholder hrole hke hkf hnot hoff hlatch => ?_⟩
  · have hstring : heldString (atLeastMs s (w.start + w.limit)) c = some x.string := by
      show heldString s c = _
      simp [heldString, hx]
    have htimeout : exec (.transferOutTimeout c) s = settled (outTimeout (atLeastMs s (w.start + w.limit)) c .kf) := by
      show execTransferOutTimeout c s = _
      rw [execTransferOutTimeout, dueStep_of_wait s c _ w hstage hwait hdue]
      dsimp only
      rw [hw]
    have hopen : s.out.ke.get x.string = .closed → presents s (.ke x.string) = .inactive :=
      fun hclosed => absurd (hke.symm.trans hclosed) (by decide)
    have hsame : s.out.ke.set x.string .opened = s.out.ke := by rw [← hke, eight_set_get]
    have hfinal : finalKept (atLeastMs s (w.start + w.limit)) c x = x.finalCell :=
      if_neg (by simp [atLeastMs, hstage])
    obtain ⟨perm, fan, a, hreturn, hdone⟩ := enterBack_waits_kf
      (faulted (atLeastMs s (w.start + w.limit)) c x .kf none x.finalCell) c (contactorAborted x x.finalCell)
      (.aborted .contactor) (by simp [faulted]) hopen hkf hnot hoff
    obtain rfl := hdone hvent
    rw [htimeout, outTimeout, hstring]
    dsimp only
    rw [abortRound_of_fault (atLeastMs s (w.start + w.limit)) c x .kf none hx hlatch, hfinal, hreturn]
    refine ⟨_, settled_of_settled _ hsettled, ?_⟩
    simp [permitted, returnWaiting, returnStarted, startWait, State.modChan, faulted, contactorAborted, contactorLatch,
      atLeastMs, other_ne, State.cfg, State.stamp, Contactor.detail, hsame]
  · obtain ⟨n, hcaptured, hn, hresult⟩ :=
      execSampleInstant_of_onlyAccepts s levels (.ke x.string) k .inactive hphase honly
    have hshown : presents (acceptedAt s n) (.ke x.string) = .inactive :=
      (presents_acceptedAt s n _ _ hn (.ke x.string)).trans (if_pos rfl)
    have hkept : presents (acceptedAt s n) (.kf x.string) ≠ .active := by
      rwa [presents_acceptedAt s n _ _ hn, if_neg (by simp)]
    have hheld := (holder_of_chan s (acceptedAt s n) x.string rfl).trans hholder
    obtain ⟨perm, fan, hdone⟩ := settle_deliver_ke_of_hold (acceptedAt s n) k c x hsettled hnone hshown hstage hx hcall
      hwait hheld hrole hkf hkept hoff hlatch
    obtain ⟨n', hexec, hsamples⟩ := hresult _ hdone rfl
    refine ⟨_, hexec, ⟨hsamples, rfl⟩, ?_⟩
    have hlevel : ((acceptedAt s n).inp.get (.ke x.string)).captured = (n'.get (.ke x.string)).captured := by
      rw [hsamples, ← hcaptured]; rfl
    rw [hlevel]
    simp [permitted, returnWaiting, returnStarted, startWait, State.modChan, faulted, contactorAborted, contactorLatch,
      acceptedAt, sampleTick, atLeastMs, State.cfg, State.stamp, Contactor.detail]

end Sys2Proof.Machine
end

-- ==== Proofs: rounds that end on a channel ====
section
/-! PROOFS. Rounds that end on a channel: the settling of a round's end, the failed return, and the recovery of its
ISOLATED string (O29). -/

namespace Sys2Proof.Machine

open Sys2Proof.Safety

/-! ### The settling of a channel given back (R127, R80) -/

section
variable (s : State)

/-- An evaluation admits nothing, whatever else changes beside the queue, the held rounds and the supply. -/
def AdmitsNothing : Prop :=
  ∀ t : State, t.queue = s.queue → t.held = s.held → t.supply = s.supply → evaluate t = t

/-- With no round queued or held an evaluation admits nothing. -/
theorem admitsNothing_of_no_candidates (h : NoCandidates s) : AdmitsNothing s := by
  intro t hqueue hheld _
  exact evaluate_of_no_candidates t (by simpa [NoCandidates, hqueue, hheld] using h)

/-- A settling with both channels IDLE and no round that passes changes Site Permissions at most (R127). -/
theorem settle_of_channels_idle (hidle : ChannelsIdle s) (hnothing : AdmitsNothing s) :
    ∃ perm, settle s = { s with due := { reserve := false, admission := false }, perm := perm } := by
  by_cases hr : s.due.reserve = true
  · have htested := reserveTest_of_idle { s with due := { s.due with reserve := false } } hidle
    refine ⟨{ s.perm with breach := false }, ?_⟩
    rw [settle, settleWith_reserve 15 s hr, htested]
    exact settleWith_of_idle_evaluation 14 _ rfl (hnothing _ rfl rfl rfl)
  · exact ⟨s.perm, settle_of_idle_evaluation s (by simpa using hr) (hnothing _ rfl rfl rfl)⟩

/-- A state with Site Permissions and the fan as a settled step leaves them. -/
def settledWith (perm : Permissions) (fan : Bool) : State :=
  { s with perm := perm, out := { s.out with fan := fan }, due := { reserve := false, admission := false } }

/-- The delivery of a channel's becoming IDLE, settled, with the other IDLE too and no round that passes. -/
theorem settle_stageDelivered_of_idle (hidle : ChannelsIdle s) (hnothing : AdmitsNothing s) :
    ∃ perm fan, settle (stageDelivered s .idle) = settledWith s perm fan := by
  obtain ⟨perm, fan, due, hdelivered⟩ := stageDelivered_eq s .idle
  rw [hdelivered]
  obtain ⟨perm', hsettle⟩ := settle_of_channels_idle
    { s with perm := perm, due := due, out := { s.out with fan := fan } } hidle hnothing
  exact ⟨perm', fan, hsettle⟩

/-- One channel IDLE and the other too. -/
theorem channelsIdle_of (c : Ch) (hidle : (s.chan.get c).stage = .idle) (hother : (s.chan.get c.other).stage = .idle) :
    ChannelsIdle s := by
  cases c with
  | a => exact ⟨hidle, hother⟩
  | b => exact ⟨hother, hidle⟩

end

/-! ### The end of a round on a channel (R116, R161) -/

section
variable (s : State) (c : Ch) (x : Context)

/-- A channel given back, its transfer-out start aside (R91). -/
def channelFreed (ch : Channel) : Channel :=
  { stage := .idle, ctx := none, call := none, wait := none, toStart := ch.toStart }

/-- A state with a round ended on a channel, before Site Permissions takes the delivery: the channel given back, the
string in a role and assigned to nothing, the record written and the demand 0 (R116). -/
def roundEnded (role : Role) : State :=
  writeDemand
    (writeRecord
      { s with
        chan := s.chan.set c (channelFreed (s.chan.get c))
        sit := s.sit.set x.string { s.sit.get x.string with role := role, assigned := none } }
      (contextRecord s x (x.outcome.getD .interrupted))) c 0 none

/-- A direct event on a channel without a context writes no demand (R45, R47). -/
theorem writeDirect_of_no_context (h : (s.chan.get c).ctx = none) : writeDirect s c = writeDemand s c 0 none := by
  simp [writeDirect, h]

/-- The end of a round that deferred no watering (R116). -/
theorem endRound_eq_delivered (failed : Bool) (hdeferred : x.waterDeferred = false) :
    endRound s c x failed =
      stageDelivered (roundEnded s c x (if failed then (s.sit.get x.string).role else .float)) .idle := by
  have hdropped : ({ x with waterDropped := x.waterDropped || (OfferResult.queued != .queued) } : Context) = x := by
    simp
  unfold endRound; dsimp only
  rw [if_neg (by simp [hdeferred])]
  dsimp only
  rw [hdropped, writeDirect_of_no_context _ c (by simp [Channel.reset])]
  rfl

/-- The settled end of a round, with the other channel IDLE and no round that passes. -/
theorem settle_endRound (failed : Bool) (hdeferred : x.waterDeferred = false)
    (hother : (s.chan.get c.other).stage = .idle) (hnothing : AdmitsNothing s) :
    ∃ perm fan, settle (endRound s c x failed) =
      settledWith (roundEnded s c x (if failed then (s.sit.get x.string).role else .float)) perm fan := by
  have hidle : ChannelsIdle (roundEnded s c x (if failed then (s.sit.get x.string).role else .float)) :=
    channelsIdle_of _ c (by simp [roundEnded, channelFreed]) (by simpa [roundEnded, other_ne] using hother)
  obtain ⟨perm, fan, hsettle⟩ := settle_stageDelivered_of_idle _ hidle hnothing
  exact ⟨perm, fan, by rw [endRound_eq_delivered s c x failed hdeferred, hsettle]⟩

/-- The record of the ended round is the log's last (R161). -/
theorem roundEnded_last (role : Role) :
    (roundEnded s c x role).log.ring.getLast? =
      some { contextRecord s x (x.outcome.getD .interrupted) with seq := s.log.nextSeq } := by
  simp [roundEnded, writeRecord_log, contextRecord, State.stamp]

/-- The round's end latches ROUND_ENDED at most (R161). -/
theorem roundEnded_latches_other (role : Role) (d : Condition) (hd : d ≠ .roundEnded) :
    (roundEnded s c x role).latches.get d = s.latches.get d := event_latches_other _ _ d _ _ _ hd

end

/-! ### A return that fails (R115, R62) -/

section
variable (s : State) (c : Ch) (x : Context)

/-- A state with a string ISOLATED for KE_STUCK and EQ_LOCK set (R115, R62). -/
def isolatedForKe (p : Pos) : State :=
  { s with
    sit := s.sit.set p { s.sit.get p with role := .isolated, assigned := none, isolation := some .keStuck }
    hist := s.hist.set p { s.hist.get p with eqLock := some .contactor }
    latches := { s.latches with stringIsolated := (some
      { string := p.num, value := 2, captured := none, time := s.stamp, again := 0, pending := true }) } }

/-- A return that times out at step 2 ends its round with CONTACTOR, its string ISOLATED (R115). -/
theorem backTimeout_of_ke (hx : (s.chan.get c).ctx = some x) (hcall : (s.chan.get c).call = none)
    (hrunning : s.restartAt = none) (hlatch : s.latches.stringIsolated = none) :
    backTimeout s c .ke = endRound (isolatedForKe s x.string) c { x with outcome := some .contactor } true := by
  have hisolated : setEqLock (enterIsolated s x.string .keStuck) x.string .contactor = isolatedForKe s x.string := by
    unfold enterIsolated setEqLock; dsimp only
    rw [event_of_clear _ .stringIsolated _ _ _ (by exact hlatch)]
    rfl
  have hserved : withServed (isolatedForKe s x.string) c x = x := by
    unfold withServed
    rw [show ((isolatedForKe s x.string).chan.get c).call = none from hcall]
  have hoff : restarting (isolatedForKe s x.string) = false := by
    show s.restartAt.isSome = false
    rw [hrunning]; rfl
  unfold backTimeout; rw [hx]; dsimp only
  rw [if_pos rfl, hisolated, hserved, hoff]
  rfl

end

/-! ### The recovery of an ISOLATED string (R62, R60) -/

/-- A string that no channel holds: no channel takes its feedbacks. -/
theorem channelFeedback_of_free (s : State) (p : Pos) (k : Contactor) (captured : Option Level)
    (h : holder s p = none) : channelFeedback s p k captured = s := by
  simp [channelFeedback, h]

/-- A string that is not ISOLATED for KF_STUCK with KF seen closed stays as it is (R62). -/
theorem kfStuckTest_of_not_seen (s : State) (p : Pos) (hkf : presents s (.kf p) ≠ .active) : kfStuckTest s p = s := by
  simp [kfStuckTest, hkf]

/-- A string ISOLATED for KF_STUCK with KF seen closed leaves ISOLATED (R62). -/
theorem kfStuckTest_of_seen (s : State) (p : Pos) (hrole : (s.sit.get p).role = .isolated)
    (hreason : (s.sit.get p).isolation = some .kfStuck) (hseen : presents s (.kf p) = .active) :
    kfStuckTest s p = leaveIsolated s p := by
  simp [kfStuckTest, hrole, hreason, hseen]

/-- A string with KF commanded CLOSED and its isolation reason KF_STUCK (R62). -/
def kfAwaited (s : State) (p : Pos) : State :=
  { s with
    out := { s.out with kf := s.out.kf.set p .closed }
    sit := s.sit.set p { s.sit.get p with isolation := some .kfStuck } }

/-- KE seen open at a string ISOLATED for KE_STUCK commands KF CLOSED, which is then awaited (R62). -/
theorem stringKe_of_keStuck (s : State) (p : Pos) (hrole : (s.sit.get p).role = .isolated)
    (hreason : (s.sit.get p).isolation = some .keStuck) (hke : presents s (.ke p) = .inactive)
    (hkf : presents s (.kf p) ≠ .active) (hoff : (s.sit.get p).onBus = false) : stringKe s p = kfAwaited s p := by
  have hstuck : stringKe s p =
      kfStuckTest ((commandKf s p .closed).modSit p fun t => { t with isolation := some .kfStuck }) p := by
    simp [stringKe, hrole, hreason, hke]
  rw [hstuck, commandKf_of_not_seen s p .closed hkf hoff]
  exact kfStuckTest_of_not_seen (kfAwaited s p) p hkf

/-- A string FLOAT again, with KS at A and on bus, which makes both tests due (R62, R60). -/
def recovered (s : State) (p : Pos) : State :=
  { s with
    out := { s.out with ks := s.out.ks.set p .a }
    sit := s.sit.set p { s.sit.get p with role := .float, isolation := none, onBus := true }
    due := { reserve := true, admission := true } }

/-- A state with a string on bus, which makes both tests due (R60). -/
def broughtOnBus (s : State) (p : Pos) : State :=
  { s with
    sit := s.sit.set p { s.sit.get p with onBus := true }
    due := { reserve := true, admission := true } }

/-- A fitted string with KF commanded and seen closed comes on bus (R60). -/
theorem recomputeOnBus_of_seen (s : State) (p : Pos) (hfit : s.cfg.fitted.testBit (p.num - 1) = true)
    (hkf : s.out.kf.get p = .closed) (hseen : presents s (.kf p) = .active) (hoff : (s.sit.get p).onBus = false) :
    recomputeOnBus s p = broughtOnBus s p := by
  have hon : onBusNow s p = true := by simp [onBusNow, fitted, hfit, hkf, hseen]
  simp [recomputeOnBus, hon, hoff, State.modSit, State.wantReserve, State.wantAdmission, broughtOnBus]

/-- KF seen closed at a string ISOLATED for KF_STUCK makes it FLOAT (R62). -/
theorem stringKf_of_kfStuck (s : State) (p : Pos) (hfit : s.cfg.fitted.testBit (p.num - 1) = true)
    (hkf : s.out.kf.get p = .closed) (hseen : presents s (.kf p) = .active) (hoff : (s.sit.get p).onBus = false)
    (hrole : (s.sit.get p).role = .isolated) (hreason : (s.sit.get p).isolation = some .kfStuck) :
    stringKf s p = recovered s p := by
  rw [stringKf, recomputeOnBus_of_seen s p hfit hkf hseen hoff,
    kfStuckTest_of_seen (broughtOnBus s p) p (by simpa [broughtOnBus] using hrole)
      (by simpa [broughtOnBus] using hreason) hseen]
  simp [leaveIsolated, commandKs, State.modSit, recovered, broughtOnBus]

/-- Settles O29: the failed return ends its round, and the two feedbacks bring the string back. -/
theorem transferBackTimesOut : Obligations.TransferBackTimesOut := by
  refine ⟨fun s c x w hstage hx hcall hwait hw hdue hother hdeferred hrunning hnone hlatch _ => ?_,
    fun s levels k p hphase hsettled hnone hrole hoff => ⟨fun hreason honly hnot hfree => ?_,
      fun hreason honly hkf hfit hidle => ?_⟩⟩
  · have htimeout : exec (.transferBackTimeout c) s =
        settled (backTimeout (atLeastMs s (w.start + w.limit)) c .ke) := by
      show execTransferBackTimeout c s = _
      rw [execTransferBackTimeout, dueStep_of_wait s c _ w hstage hwait hdue]
      dsimp only
      rw [hw]
    obtain ⟨perm, fan, hdone⟩ := settle_endRound (isolatedForKe (atLeastMs s (w.start + w.limit)) x.string) c
      { x with outcome := some .contactor } true hdeferred hother (admitsNothing_of_no_candidates _ hnone)
    rw [htimeout, backTimeout_of_ke (atLeastMs s (w.start + w.limit)) c x hx hcall hrunning hlatch, settled, hdone]
    refine ⟨_, rfl, ?_⟩
    have hlast := roundEnded_last (isolatedForKe (atLeastMs s (w.start + w.limit)) x.string) c
      { x with outcome := some .contactor } .isolated
    have hlatched := roundEnded_latches_other (isolatedForKe (atLeastMs s (w.start + w.limit)) x.string) c
      { x with outcome := some .contactor } .isolated .stringIsolated (by decide)
    have hrole : ((isolatedForKe (atLeastMs s (w.start + w.limit)) x.string).sit.get x.string).role = .isolated := by
      simp [isolatedForKe]
    simp only [if_true, hrole]
    refine ⟨?_, ?_, ?_, ?_, ?_, (congrArg (Option.map _) hlast).trans rfl, rfl, hlatched, rfl, rfl, rfl,
      fun q hq => ⟨(eight_get_set_other _ _ _ _ hq).trans (eight_get_set_other _ _ _ _ hq),
        (eight_get_set_other _ _ _ _ hq).trans (eight_get_set_other _ _ _ _ hq)⟩, rfl, rfl, rfl, rfl⟩
    all_goals simp [settledWith, roundEnded, writeRecord_hist, channelFreed, isolatedForKe, contextRecord, atLeastMs]
  · obtain ⟨t, hexec, hsampled, hstate⟩ := sampleInstant_of_delivery s (kfAwaited s p) levels (.ke p) k _
      hphase honly
      fun n hn => by
        have hke := (presents_acceptedAt s n _ _ hn (.ke p)).trans (if_pos rfl)
        have hkept : presents (acceptedAt s n) (.kf p) ≠ .active := by
          rwa [presents_acceptedAt s n _ _ hn, if_neg (by simp)]
        have hheld : holder (kfAwaited (acceptedAt s n) p) p = none := (holder_of_chan s _ p rfl).trans hfree
        show settle (channelFeedback (stringKe (acceptedAt s n) p) p .ke _).wantAdmission = _
        rw [stringKe_of_keStuck (acceptedAt s n) p hrole hreason hke hkept hoff, channelFeedback_of_free _ p _ _ hheld]
        exact settle_wantAdmission (kfAwaited (acceptedAt s n) p) hsettled hnone
    exact ⟨t, hexec, hsampled, hstate⟩
  · obtain ⟨t, hexec, hsampled, hstate⟩ := sampleInstant_of_delivery s
      { recovered s p with due := s.due, perm := { s.perm with breach := false } } levels (.kf p) k _ hphase honly
      fun n hn => by
        have hseen := (presents_acceptedAt s n _ _ hn (.kf p)).trans (if_pos rfl)
        have hheld : holder (recovered (acceptedAt s n) p) p = none := holder_of_idle _ p hidle
        show settle (channelFeedback (stringKf (acceptedAt s n) p) p .kf _).wantAdmission = _
        rw [stringKf_of_kfStuck (acceptedAt s n) p hfit hkf hseen hoff hrole hreason,
          channelFeedback_of_free _ p _ _ hheld,
          settle_of_idle (recovered (acceptedAt s n) p).wantAdmission hidle hnone,
          hsettled]
        rfl
    exact ⟨t, hexec, hsampled, hstate⟩

end Sys2Proof.Machine
end

-- ==== Proofs: the age of a round, suspension and resumption ====
section
/-! PROOFS. A round's age on a channel and while held, its suspension at the end of a return, and its resumption
(O35). -/

namespace Sys2Proof.Machine

open Sys2Proof.Safety

/-! ### A minute of age (R92, R131) -/

section
variable (s : State) (h : Held)

/-- A held context with a minute of its age counted. -/
def agedHeld : Held := { h with ctx := ageOn h.ctx }

/-- A state in which a held context is the only one. -/
def onlyHeld : State := { s with held := { s.held with entries := [h] } }

variable (hheld : s.held.entries = [h])
include hheld

/-- The only held context is that of its string. -/
theorem heldOf_of_only : heldOf s h.ctx.string = some h := by simp [heldOf, hheld]

/-- The only held context has no older one to wait for. -/
theorem not_olderEnds_of_only : olderEnds s h = false := by simp [olderEnds, hheld]

/-- The minute of the only held context is counted, and ends it at ROUND_SPAN_H (R131). -/
theorem heldMinute_of_only :
    heldMinute s h =
      if s.cfg.roundSpanH * 60 ≤ (ageOn h.ctx).ageMin then expireHeld (onlyHeld s (agedHeld h)) (agedHeld h) .age
      else onlyHeld s (agedHeld h) := by
  simp [heldMinute, hheld, onlyHeld, agedHeld]

/-- AGE_MINUTE of the only held context (R131). -/
theorem execAgeMinute_of_only (hfree : holder s h.ctx.string = none) (hdue : 60 ≤ h.ctx.ageSec) :
    exec (.ageMinute h.ctx.string) s = settled (heldMinute s h) := by
  show execAgeMinute h.ctx.string s = _
  unfold execAgeMinute
  rw [hfree, heldOf_of_only s h hheld]
  simp [hdue, not_olderEnds_of_only s h hheld]

end

/-- A context's minute on a channel (R92). -/
theorem execAgeMinute_of_channel (s : State) (p : Pos) (c : Ch) (x : Context) (hholder : holder s p = some c)
    (hx : (s.chan.get c).ctx = some x) (hdue : 60 ≤ x.ageSec) :
    exec (.ageMinute p) s =
      .next { s with chan := s.chan.set c { s.chan.get c with ctx := some (ageOn x) } } := by
  show execAgeMinute p s = _
  unfold execAgeMinute
  rw [hholder]
  simp [hx, hdue, State.modCtx, State.modChan]

/-- A held context whose minute would end it waits for an older one that ends at the same instant (R131). -/
theorem execAgeMinute_of_older (s : State) (p : Pos) (g h : Held) (hfree : holder s p = none)
    (hheld : s.held.entries = [g, h]) (hstring : h.ctx.string = p) (hother : g.ctx.string ≠ p)
    (hends : heldEnds s h = true) (hold : heldEnds s g = true) (htogether : g.ctx.ageSec = h.ctx.ageSec) :
    exec (.ageMinute p) s = .next s := by
  have hfound : heldOf s p = some h := by simp [heldOf, hheld, hstring, hother]
  have hwaits : olderEnds s h = true := by simp [olderEnds, hheld, hstring, hother, hold, htogether]
  show execAgeMinute p s = _
  unfold execAgeMinute
  rw [hfree, hfound]
  simp [hends, hwaits]

/-- A context's minute that is due and would end it (R131). -/
theorem heldEnds_of_due (s : State) (h : Held) (hdue : 60 ≤ h.ctx.ageSec)
    (hspan : s.cfg.roundSpanH * 60 ≤ min 65535 (h.ctx.ageMin + 1)) : heldEnds s h = true := by
  have haged : s.cfg.roundSpanH * 60 ≤ (ageOn h.ctx).ageMin := hspan
  simp [heldEnds, hdue, haged]

/-! ### A held round that expires (R131, R161) -/

/-- A state with the only held round ended EXPIRED for its age: the list empty, the string FLOAT, its record written
and ROUND_EXPIRED latched (R131). -/
def ageExpired (s : State) (h : Held) : State :=
  writeRecord
    { s with
      held := { entries := [], gen := (s.held.gen + 1) % 256 }
      sit := s.sit.set h.ctx.string { s.sit.get h.ctx.string with role := .float, assigned := none }
      latches := { s.latches with roundExpired := (some
        { string := h.ctx.string.num, value := 2, captured := none, time := s.stamp, again := 0, pending := true }) } }
    (contextRecord s h.ctx .expired)

/-- The only held round's end for its age, on a clear latch. -/
theorem expireHeld_of_only (s : State) (h : Held) (hlatch : s.latches.roundExpired = none) :
    expireHeld (onlyHeld s h) h .age = ageExpired s h := by
  unfold expireHeld endHeld; dsimp only
  rw [event_of_clear _ .roundExpired _ _ _ (by exact hlatch)]
  simp [removeHeld, onlyHeld, ageExpired, State.modSit, Latches.set, Expiry.detail, State.stamp, contextRecord]

/-- Its record is the log's last (R161). -/
theorem ageExpired_last (s : State) (h : Held) :
    (ageExpired s h).log.ring.getLast? = some { contextRecord s h.ctx .expired with seq := s.log.nextSeq } := by
  simp [ageExpired, writeRecord_log, contextRecord, State.stamp]

/-- ROUND_EXPIRED is latched with value AGE (R131). -/
theorem ageExpired_latch (s : State) (h : Held) :
    (ageExpired s h).latches.roundExpired =
      some { string := h.ctx.string.num, value := 2, captured := none, time := s.stamp, again := 0, pending := true } :=
  event_latches_other _ _ .roundExpired _ _ _ (by decide)

/-! ### An evaluation without surplus (R81, R82) -/

/-- A held context is blocked while there is no surplus (R82). -/
theorem heldBlocked_of_no_surplus (s : State) (h : Held) (hsurplus : s.supply.surplus = false) :
    heldBlocked s h ≠ .none := by
  intro hpass
  have hall := passes_of_firstFailing _ (by simp) hpass
  simp [hsurplus] at hall

/-- With no surplus and no round queued an evaluation admits nothing. -/
theorem admitsNothing_of_no_surplus (s : State) (hsurplus : s.supply.surplus = false) (hqueue : s.queue.entries = []) :
    AdmitsNothing s := by
  intro t htq _ hts
  have hblocked : ∀ h, heldBlocked t h ≠ .none := fun h => heldBlocked_of_no_surplus t h (by rw [hts]; exact hsurplus)
  have hheld : t.held.entries.find? (fun h => heldBlocked t h == .none) = none :=
    List.find?_eq_none.2 fun h _ => by simp [hblocked h]
  have hnext : nextCandidate t = none := by simp [nextCandidate, hheld, htq, hqueue]
  have hpasses : ∀ n, evaluatePasses n t = t := fun n => by cases n <;> simp [evaluatePasses, hnext]
  simp [evaluate, hpasses]

/-! ### Suspension (R129, R130) -/

section
variable (s : State) (c : Ch) (x : Context) (cause : Cause)

/-- A state with a round put at the end of the Held Rounds List: its channel given back, its string HELD, the demand 0
(R129, R130). -/
def roundHeld : State :=
  writeDemand
    { s with
      chan := s.chan.set c (channelFreed (s.chan.get c))
      held :=
        { entries := s.held.entries ++ [({ ctx := suspendContext x, cause := cause, since := s.stamp } : Held)]
          gen := (s.held.gen + 1) % 256 }
      sit := s.sit.set x.string { s.sit.get x.string with role := .held, assigned := none } } c 0 none

/-- A channel's becoming IDLE asks for an evaluation already (R80). -/
theorem stageDelivered_idle_wantAdmission : (stageDelivered s .idle).wantAdmission = stageDelivered s .idle := rfl

/-- A suspension within SUSPEND_MAX that finds a place on the list (R129, R130). -/
theorem suspension_of_room (hcount : x.susp + 1 ≤ s.cfg.suspendMax) (hroom : s.held.entries.length < 4) :
    suspension s c x cause = stageDelivered (roundHeld s c x cause) .idle := by
  have hwithin : ¬ s.cfg.suspendMax < (suspendContext x).susp := Nat.not_lt.mpr hcount
  have hplace : ¬ Config.heldCap ≤ s.held.entries.length := Nat.not_le.mpr hroom
  unfold suspension; dsimp only
  rw [if_neg hwithin, if_neg hplace, writeDirect_of_no_context _ c (by simp [Channel.reset]),
    stageDelivered_idle_wantAdmission]
  rfl

/-- A state with ROUND_EXPIRED made if the suspensions exceed SUSPEND_MAX (R129). -/
def suspensionsNoted : State :=
  if s.cfg.suspendMax < x.susp + 1 then s.event .roundExpired x.string.num Expiry.suspensions.detail none else s

/-- The outcome of a round that a suspension ends: EXPIRED above SUSPEND_MAX, HELD_FULL otherwise (R129, R130). -/
def suspensionOutcome : Outcome := if s.cfg.suspendMax < x.susp + 1 then .expired else .heldFull

/-- A suspension above SUSPEND_MAX or without a place on the list ends the round (R129, R130). -/
theorem suspension_of_end (hend : s.cfg.suspendMax < x.susp + 1 ∨ 4 ≤ s.held.entries.length) :
    suspension s c x cause =
      endRound (suspensionsNoted s x) c { suspendContext x with outcome := some (suspensionOutcome s x) } false := by
  unfold suspension suspensionsNoted suspensionOutcome; dsimp only
  by_cases hcount : s.cfg.suspendMax < x.susp + 1
  · have hover : s.cfg.suspendMax < (suspendContext x).susp := hcount
    rw [if_pos hover, if_pos hcount, if_pos hcount]
    rfl
  · have hwithin : ¬ s.cfg.suspendMax < (suspendContext x).susp := hcount
    have hfull : Config.heldCap ≤ s.held.entries.length := hend.resolve_left hcount
    rw [if_neg hwithin, if_pos hfull, if_neg hcount, if_neg hcount]

/-- The event is a latch at most (R171). -/
theorem suspensionsNoted_eq :
    ∃ latches, suspensionsNoted s x = { s with latches := latches }
      ∧ (s.cfg.suspendMax < x.susp + 1 → s.latches.roundExpired = none →
          latches.get .roundExpired =
            some { string := x.string.num, value := 1, captured := none, time := s.stamp, again := 0,
                   pending := true }) := by
  refine ⟨(suspensionsNoted s x).latches, ?_, fun hcount hlatch => ?_⟩
  · unfold suspensionsNoted; split <;> rfl
  · rw [suspensionsNoted, if_pos hcount, event_of_clear _ .roundExpired _ _ _ hlatch]
    rfl

section
variable (hother : (s.chan.get c.other).stage = .idle) (hsurplus : s.supply.surplus = false)
  (hqueue : s.queue.entries = [])
include hother hsurplus hqueue

/-- The settled suspension of a round that is held, without surplus. -/
theorem settle_suspension_of_room (hcount : x.susp + 1 ≤ s.cfg.suspendMax) (hroom : s.held.entries.length < 4) :
    ∃ perm fan, settle (suspension s c x cause) = settledWith (roundHeld s c x cause) perm fan := by
  rw [suspension_of_room s c x cause hcount hroom]
  exact settle_stageDelivered_of_idle _
    (channelsIdle_of _ c (by simp [roundHeld, channelFreed]) (by simpa [roundHeld, other_ne] using hother))
    (admitsNothing_of_no_surplus _ hsurplus hqueue)

/-- The settled suspension of a round that ends, without surplus: the round's end, ROUND_EXPIRED latched before it
above SUSPEND_MAX. -/
theorem settle_suspension_of_end (hdeferred : x.waterDeferred = false)
    (hend : s.cfg.suspendMax < x.susp + 1 ∨ 4 ≤ s.held.entries.length) :
    ∃ latches perm fan,
      settle (suspension s c x cause) =
        settledWith
          (roundEnded { s with latches := latches } c
            { suspendContext x with outcome := some (suspensionOutcome s x) } .float) perm fan
      ∧ (s.cfg.suspendMax < x.susp + 1 → s.latches.roundExpired = none →
          latches.get .roundExpired =
            some { string := x.string.num, value := 1, captured := none, time := s.stamp, again := 0,
                   pending := true }) := by
  obtain ⟨latches, hnoted, hlatched⟩ := suspensionsNoted_eq s x
  obtain ⟨perm, fan, hdone⟩ := settle_endRound { s with latches := latches } c
    { suspendContext x with outcome := some (suspensionOutcome s x) } false hdeferred hother
    (admitsNothing_of_no_surplus _ hsurplus hqueue)
  exact ⟨latches, perm, fan, by rw [suspension_of_end s c x cause hend, hnoted, hdone]; rfl, hlatched⟩

end

/-- A suspension asks for an evaluation, however it ends (R80). -/
theorem suspension_wantAdmission : (suspension s c x cause).wantAdmission = suspension s c x cause := by
  unfold suspension; dsimp only
  split
  · rfl
  · split <;> rfl

end

/-! ### The return that a suspension ends (R114, R116) -/

/-- The channel in use that holds a string, the other one being IDLE (R69). -/
theorem holder_of_channel (s : State) (c : Ch) (x : Context) (hactive : (s.chan.get c).stage ≠ .idle)
    (hother : (s.chan.get c.other).stage = .idle) (hx : (s.chan.get c).ctx = some x) :
    holder s x.string = some c := by
  cases c with
  | a =>
    have ha : (s.chan.get .a).stage ≠ .idle := hactive
    simp [holder, isIdle, ha, hx]
  | b =>
    have ha : (s.chan.get .a).stage = .idle := hother
    simp [holder, isIdle, ha, hactive, hx]

section
variable (s : State) (c : Ch) (x : Context)

/-- A state with a string back on the load bus, KS at A and its channel's waiting step ended (R60, R114). -/
def returnedToBus : State :=
  { broughtOnBus s x.string with
    chan := s.chan.set c { s.chan.get c with wait := none }
    out := { s.out with ks := s.out.ks.set x.string .a } }

/-- The step after KF of a return with exit SUSPEND is the suspension (R114, R116). -/
theorem nextStep_kf_of_suspended (cause : Cause) (hstage : (s.chan.get c).stage = .transferBack)
    (hx : (s.chan.get c).ctx = some x) (hcall : (s.chan.get c).call = none)
    (hexit : x.exit = some (.suspended cause)) :
    nextStep (broughtOnBus s x.string) c .kf = suspension (returnedToBus s c x) c x cause := by
  have hstopped : stopWait (commandKs (stopWait (broughtOnBus s x.string) c) x.string .a) c = returnedToBus s c x := by
    simp [stopWait, commandKs, State.modChan, broughtOnBus, returnedToBus]
  have hstring : heldString (stopWait (broughtOnBus s x.string) c) c = some x.string := by
    simp [heldString, stopWait, broughtOnBus, hx]
  have hback : ((stopWait (broughtOnBus s x.string) c).chan.get c).stage = .transferBack := by
    simpa [stopWait, broughtOnBus] using hstage
  have hctx : ((returnedToBus s c x).chan.get c).ctx = some x := by simpa [returnedToBus] using hx
  have hfree : ((returnedToBus s c x).chan.get c).call = none := by simpa [returnedToBus] using hcall
  have hnext : nextStep (broughtOnBus s x.string) c .kf = backStep4 (stopWait (broughtOnBus s x.string) c) c := by
    simp [nextStep, hback]
  rw [hnext, backStep4, hstring]
  simp only [backComplete, hstopped, hctx, hfree, hexit, Option.isSome_none, Bool.false_eq_true, if_false]

/-- The delivery of KF seen closed that completes a return with exit SUSPEND (R95, R114, R116). -/
theorem deliver_kf_of_suspended (k : DeliveryKind) (w : Wait) (cause : Cause)
    (hseen : presents s (.kf x.string) = .active) (hstage : (s.chan.get c).stage = .transferBack)
    (hx : (s.chan.get c).ctx = some x) (hcall : (s.chan.get c).call = none) (hwait : (s.chan.get c).wait = some w)
    (hw : w.contactor = .kf) (hother : (s.chan.get c.other).stage = .idle) (hexit : x.exit = some (.suspended cause))
    (hkf : s.out.kf.get x.string = .closed) (hfit : s.cfg.fitted.testBit (x.string.num - 1) = true)
    (hrole : (s.sit.get x.string).role = .equalising) (hoff : (s.sit.get x.string).onBus = false) :
    deliver s (.kf x.string) k = suspension (returnedToBus s c x) c x cause := by
  have htable : stringKf s x.string = broughtOnBus s x.string := by
    rw [stringKf, recomputeOnBus_of_seen s x.string hfit hkf hseen hoff]
    simp [kfStuckTest, broughtOnBus, hrole]
  have hholder : holder (broughtOnBus s x.string) x.string = some c :=
    (holder_of_chan s (broughtOnBus s x.string) x.string rfl).trans
      (holder_of_channel s c x (by rw [hstage]; decide) hother hx)
  have hpresents : presents (broughtOnBus s x.string) (.kf x.string) = .active := hseen
  have hshown : stepShown (broughtOnBus s x.string) c x.string w.contactor = true := by
    rw [hw]
    simp [stepShown, show (broughtOnBus s x.string).chan = s.chan from rfl, hstage, hpresents]
  have hfeedback := channelFeedback_of_step (broughtOnBus s x.string) x.string c w
    (s.inp.get (.kf x.string)).captured hholder hwait hshown
  rw [hw, nextStep_kf_of_suspended s c x cause hstage hx hcall hexit] at hfeedback
  show (channelFeedback (stringKf s x.string) x.string .kf _).wantAdmission = _
  rw [htable, hfeedback, suspension_wantAdmission]

end

/-! ### Resumption (R89, R81) -/

section
variable (s : State) (h : Held) (c : Ch)

/-- A state with the only held round taken from the list and given to a channel, before its TRANSFER_OUT starts
(R89). -/
def heldGiven : State :=
  { s with
    held := { entries := [], gen := (s.held.gen + 1) % 256 }
    sit := s.sit.set h.ctx.string { s.sit.get h.ctx.string with role := .equalising, assigned := some (.channel c) }
    chan := s.chan.set c { s.chan.get c with ctx := some h.ctx, call := none, wait := none } }

/-- The admission of the only held round gives it the free channel as it stands (R89). -/
theorem admitHeld_of_only (hheld : s.held.entries = [h]) (hfree : freeChannel s = some c) :
    admitHeld s h = startTransferOut (heldGiven s h c) c := by
  have hremoved : removeHeld s h = { s with held := { entries := [], gen := (s.held.gen + 1) % 256 } } := by
    simp [removeHeld, hheld]
  unfold admitHeld; rw [hfree]; dsimp only
  rw [hremoved]
  rfl

/-- An evaluation with one held round and none queued admits it when nothing blocks it (R81). -/
theorem evaluate_of_passing_held (hrunning : s.restartAt = none) (hqueue : s.queue.entries = [])
    (hheld : s.held.entries = [h]) (hpass : heldBlocked s h = .none) : evaluate s = admitHeld s h := by
  have hnext : nextCandidate s = some (.inl h) := by simp [nextCandidate, hheld, hpass]
  simp [evaluate, restarting, hrunning, hheld, hqueue, evaluatePasses, hnext]

/-- With the vent OK the start of a transfer out makes nothing due. -/
theorem startTransferOut_due (x : Context) (hx : (s.chan.get c).ctx = some x)
    (hks : busShown (presents s (.ks x.string)) ≠ some c) (hvent : s.perm.ventFailed = false) :
    (startTransferOut s c).due = s.due := by
  unfold startTransferOut; dsimp only
  generalize hu : State.modChan s c _ = u
  have hctx : (u.chan.get c).ctx = some x := by rw [← hu]; simpa using hx
  rw [outStep2_waits _ c { x with stageTimer := 0 }]
  · rw [startWait_due, commandKs_due, setEnable_due, setLimit_due,
      setStage_due u c .transferOut (by rw [← hu]; exact hvent) (by decide), ← hu, modChan_due]
  · rw [setEnable_chan, setLimit_chan, setStage_chan, two_get_set_same, hctx]
    rfl
  · rw [presents, setEnable_inp, setLimit_inp, ← setStage_frame, ← hu]
    exact hks

/-- A candidate that is not blocked finds the vent OK (R83). -/
theorem ventOk_of_equaliseBlocked (p : Pos) (k : Kind) (role : Role) (nb : Option Nat)
    (hpass : equaliseBlocked s p k role nb = .none) : s.perm.ventFailed = false := by
  have hvent := passes_of_firstFailing _ (by simp) hpass (ventTest s, .vent) (by simp)
  obtain ⟨hok, -⟩ := (ventTest_iff s).1 hvent
  exact hok

end

/-- MINUTE_EVALUATION that finds the only held round passing every test starts its transfer out again (R80, R81,
R89). -/
theorem execMinuteEvaluation_of_passing_held (s : State) (h : Held) (c : Ch) (hminute : 60 ≤ s.base.minuteSec)
    (hrunning : s.restartAt = none) (hsettled : Settled s) (hqueue : s.queue.entries = [])
    (hheld : s.held.entries = [h]) (hpass : heldBlocked s h = .none) (hfree : freeChannel s = some c)
    (hks : busShown (presents s (.ks h.ctx.string)) ≠ some c) :
    exec .minuteEvaluation s = .next (startTransferOut (heldGiven (minuteTaken s) h c) c) := by
  have hadmitted := (evaluate_of_passing_held (minuteTaken s) h hrunning hqueue hheld hpass).trans
    (admitHeld_of_only (minuteTaken s) h c hheld hfree)
  have hdue := startTransferOut_due (heldGiven (minuteTaken s) h c) c h.ctx (by simp [heldGiven]) hks
    (ventOk_of_equaliseBlocked s _ _ _ _ hpass)
  have hexec : exec .minuteEvaluation s = settled (minuteTaken s).wantAdmission := if_pos hminute
  rw [hexec, settled, settle_wantAdmission_of_done (minuteTaken s) hsettled
    (by rw [hadmitted]; exact hdue.trans hsettled), hadmitted]

/-- Settles O35: the minutes of a context's age, the suspension in its two forms, and the resumption. -/
theorem ageMinuteCounts : Obligations.AgeMinuteCounts := by
  refine ⟨execAgeMinute_of_channel, fun s p h hfree hheld hstring hdue hsettled => ?_,
    fun s p h g hfree hheld hstring hother hdue htogether hspan holder => ?_,
    fun s levels k c x w cause hphase hsettled honly hstage hx hcall hwait hw hother hexit hdeferred hkf hfit hrole hoff
      hsurplus hqueue => ?_,
    fun s h c hminute hrunning hsettled hqueue hheld hpass hfree hks => ?_⟩
  · subst hstring
    rw [execAgeMinute_of_only s h hheld hfree hdue, heldMinute_of_only s h hheld]
    refine ⟨fun hshort => ?_, fun hspan hlatch => ?_⟩
    · have hyoung : ¬ s.cfg.roundSpanH * 60 ≤ (ageOn h.ctx).ageMin := Nat.not_le.mpr hshort
      rw [if_neg hyoung]
      exact settled_of_settled _ hsettled
    · have hold : s.cfg.roundSpanH * 60 ≤ (ageOn h.ctx).ageMin := hspan
      rw [if_pos hold, expireHeld_of_only s (agedHeld h) hlatch]
      refine ⟨_, settled_of_settled _ hsettled, rfl, rfl, rfl, ?_, ageExpired_latch s (agedHeld h), rfl⟩
      rw [ageExpired_last]
      rfl
  · exact execAgeMinute_of_older s p g h hfree hheld hstring hother (heldEnds_of_due s h hdue hspan)
      (heldEnds_of_due s g (by rw [htogether]; exact hdue) holder) htogether
  · obtain ⟨n, -, hn, hresult⟩ := execSampleInstant_of_onlyAccepts s levels (.kf x.string) k .active hphase honly
    have hseen := (presents_acceptedAt s n _ _ hn (.kf x.string)).trans (if_pos rfl)
    have hdelivered := deliver_kf_of_suspended (acceptedAt s n) c x k w cause hseen hstage hx hcall hwait hw hother hexit
      hkf hfit hrole hoff
    have hidle : ((returnedToBus (acceptedAt s n) c x).chan.get c.other).stage = .idle :=
      (congrArg Channel.stage (two_get_set_other _ _ _ _ (other_ne c))).trans hother
    refine ⟨fun hcount hroom => ?_, fun hend => ?_⟩
    · obtain ⟨perm, fan, hdone⟩ := settle_suspension_of_room (returnedToBus (acceptedAt s n) c x) c x cause hidle hsurplus
        hqueue hcount hroom
      obtain ⟨n', hexec, hsamples⟩ := hresult _ ((congrArg settle hdelivered).trans hdone) rfl
      refine ⟨_, hexec, ⟨hsamples, rfl⟩, ?_⟩
      simp [settledWith, roundHeld, writeDemand, returnedToBus, broughtOnBus, acceptedAt, sampleTick, atLeastMs,
        channelFreed, suspendContext, State.stamp]
    · obtain ⟨latches, perm, fan, hdone, hlatched⟩ := settle_suspension_of_end (returnedToBus (acceptedAt s n) c x) c x
        cause hidle hsurplus hqueue hdeferred hend
      obtain ⟨n', hexec, hsamples⟩ := hresult _ ((congrArg settle hdelivered).trans hdone) rfl
      have hlast := roundEnded_last { returnedToBus (acceptedAt s n) c x with latches := latches } c
        { suspendContext x with outcome := some (suspensionOutcome (returnedToBus (acceptedAt s n) c x) x) } .float
      have hother := roundEnded_latches_other { returnedToBus (acceptedAt s n) c x with latches := latches } c
        { suspendContext x with outcome := some (suspensionOutcome (returnedToBus (acceptedAt s n) c x) x) } .float
        .roundExpired (by decide)
      refine ⟨_, hexec, ⟨hsamples, rfl⟩, ?_, ?_, ?_, ?_, ?_, ?_, (congrArg (Option.map _) hlast).trans rfl,
        fun hcount hlatch => hother.trans (hlatched hcount hlatch)⟩
      all_goals
        simp [settledWith, roundEnded, writeRecord_hist, channelFreed, suspendContext, contextRecord, returnedToBus,
          broughtOnBus, acceptedAt, sampleTick, atLeastMs]
  · have hctx : ((heldGiven (minuteTaken s) h c).chan.get c).ctx = some h.ctx := by simp [heldGiven]
    obtain ⟨perm, fan, due, hstarted⟩ := startTransferOut_waits (heldGiven (minuteTaken s) h c) c h.ctx hctx hks
    refine ⟨_, execMinuteEvaluation_of_passing_held s h c hminute hrunning hsettled hqueue hheld hpass hfree hks, ?_⟩
    rw [hstarted]
    simp [heldGiven, minuteTaken, limitCode, measuredCode, State.cfg]

end Sys2Proof.Machine
end

-- ==== Proofs: hydrogen, the vent and the grace timer ====
section
/-! PROOFS. What the expiries of Site Permissions' timers and an H2_ALARM delivery make of the fan, the vent, the
channels and the line (O36, O37). -/

namespace Sys2Proof.Machine

open Sys2Proof.Safety

/-! ### What the fan's recomputation and a stage change leave of Site Permissions (R121, R126) -/

/-- A step leaves H2 active and the purge, does not start the grace timer, and shows the fan command at the output if it
was shown there. -/
structure PermissionsKept (s t : State) : Prop where
  h2Active : t.perm.h2Active = s.perm.h2Active
  purge : t.perm.purge = s.perm.purge
  grace : s.perm.grace = none → t.perm.grace = none
  fan : s.out.fan = s.perm.fan → t.out.fan = t.perm.fan

section
variable (s : State)

/-- The vent monitor writes the vent state and its two timers alone (R122, R123). -/
theorem permissionsKept_ventMonitor : PermissionsKept s (ventMonitor s) := by
  unfold ventMonitor; dsimp only
  split
  · split <;> exact ⟨rfl, rfl, id, id⟩
  · exact ⟨rfl, rfl, id, id⟩

/-- The fan's recomputation writes the command and the output together (R121). -/
theorem permissionsKept_recomputeFan : PermissionsKept s (recomputeFan s) := by
  unfold recomputeFan; dsimp only
  split
  · exact ⟨rfl, rfl, id, id⟩
  · obtain ⟨hactive, hpurge, hgrace, hfan⟩ := permissionsKept_ventMonitor
      { s with perm := { s.perm with fan := fanWanted s }, out := { s.out with fan := fanWanted s } }
    exact ⟨hactive, hpurge, hgrace, fun _ => hfan rfl⟩

/-- A stage-change delivery can stop the grace timer and not start it (R126). -/
theorem permissionsKept_stageDelivered (st : Stage) : PermissionsKept s (stageDelivered s st) := by
  unfold stageDelivered; dsimp only
  generalize hu : (s.modPerm _) = u
  obtain ⟨hactive, hpurge, hgrace, hfan⟩ := permissionsKept_recomputeFan u
  have hkept : PermissionsKept s (recomputeFan u) := by
    subst hu
    exact ⟨hactive, hpurge, fun h => hgrace (by simp [h]), hfan⟩
  split
  · exact ⟨hkept.h2Active, hkept.purge, hkept.grace, hkept.fan⟩
  · exact hkept

/-- A stage change reaches Site Permissions by its delivery alone (R91). -/
theorem permissionsKept_setStage (c : Ch) (st : Stage) : PermissionsKept s (setStage s c st) := by
  unfold setStage; dsimp only
  generalize hu : State.modCtx _ c _ = u
  obtain ⟨hactive, hpurge, hgrace, hfan⟩ := permissionsKept_stageDelivered (writeDirect u c) st
  rw [← writeDirect_frame, ← writeDirect_outputs] at hactive hpurge hgrace hfan
  rw [← writeDirect_frame, ← writeDirect_outputs]
  subst hu
  exact ⟨hactive, hpurge, hgrace, hfan⟩

/-- A return that waits for KE changes Site Permissions by its stage change alone (R114). -/
theorem permissionsKept_enterBack (c : Ch) (x : Context) (e : Exit) (hx : (s.chan.get c).ctx = some x)
    (hke : s.out.ke.get x.string = .closed) (hshown : presents s (.ke x.string) ≠ .inactive) :
    PermissionsKept s (enterBack s c e) := by
  unfold enterBack; dsimp only
  generalize hu : State.modCtx _ c _ = u
  obtain ⟨hactive, hpurge, hgrace, hfan⟩ := permissionsKept_setStage u c .transferBack
  have hctx : ((setStage u c .transferBack).chan.get c).ctx = some { x with exit := some e, stageTimer := 0 } := by
    rw [setStage_chan, ← hu]
    simp [State.modCtx, State.modChan, stopWait, hx]
  have hclosed : (setStage u c .transferBack).out.ke.get x.string = .closed := by
    rw [← setStage_outputs, ← hu]
    exact hke
  have hnot : presents (setStage u c .transferBack) (.ke x.string) ≠ .inactive := by
    rw [← setStage_frame, ← hu]
    exact hshown
  rw [backStep2_waits (setLimit (setStage u c .transferBack) c 0) c _ hctx hclosed hnot]
  subst hu
  exact ⟨hactive, hpurge, hgrace, hfan⟩

/-- The vent monitor leaves the fan command alone (R122, R123). -/
theorem ventMonitor_fan : (ventMonitor s).perm.fan = s.perm.fan := by
  unfold ventMonitor; dsimp only
  split
  · split <;> rfl
  · rfl

/-- The fan command is what the reasons for the fan ask (R121). -/
theorem recomputeFan_fan : (recomputeFan s).perm.fan = fanWanted s := by
  unfold recomputeFan; dsimp only
  split
  next hsame => exact hsame.symm
  next => exact ventMonitor_fan _

/-- A fan that is wanted runs, and shows at the output; the step leaves H2 active and the purge (R121). -/
theorem recomputeFan_of_wanted (hwanted : fanWanted s = true) (hshown : s.out.fan = s.perm.fan) :
    ∃ perm, recomputeFan s = { s with perm := perm, out := { s.out with fan := true } }
      ∧ perm.h2Active = s.perm.h2Active ∧ perm.purge = s.perm.purge ∧ perm.fan = true := by
  obtain ⟨hactive, hpurge, -, hfan⟩ := permissionsKept_recomputeFan s
  have hon : (recomputeFan s).perm.fan = true := (recomputeFan_fan s).trans hwanted
  have houtput : (recomputeFan s).out.fan = true := (hfan hshown).trans hon
  have hout := recomputeFan_outputs s
  have hframe := recomputeFan_frame s
  rw [recomputeFan_due_of_wanted s hwanted] at hframe
  generalize recomputeFan s = t at hactive hpurge hon houtput hout hframe
  have hshow : t.out = { s.out with fan := true } := by rw [← hout, ← houtput]
  exact ⟨t.perm, by rw [← hshow]; exact hframe.symm, hactive, hpurge, hon⟩

/-- A fan command that changes while the vent is OK is written, and the vent monitor times a fan that turns slowly
(R121, R122). -/
theorem recomputeFan_of_change (hchange : fanWanted s ≠ s.perm.fan) (hvent : s.perm.ventFailed = false) :
    recomputeFan s =
      { s with
        perm := { s.perm with
          fan := fanWanted s
          lowSpeed :=
            if fanWanted s = true ∧ s.perm.speed < s.cfg.fanMinRpm then some (s.perm.lowSpeed.getD 0) else none }
        out := { s.out with fan := fanWanted s } } := by
  unfold recomputeFan; dsimp only
  rw [if_neg hchange, ventMonitor_ok _ (by exact hvent), ← runWhile_and]
  rfl

/-- A fan that nothing asks for any more goes OFF (R121). -/
theorem recomputeFan_stops (hwanted : fanWanted s = false) (hfan : s.perm.fan = true)
    (hvent : s.perm.ventFailed = false) :
    recomputeFan s =
      { s with perm := { s.perm with fan := false, lowSpeed := none }, out := { s.out with fan := false } } := by
  rw [recomputeFan_of_change s (by rw [hwanted, hfan]; decide) hvent, hwanted]
  rfl

end

/-! ### A channel in HOLD suspended (R108, R103, R114) -/

section
variable (s : State) (c : Ch) (x : Context) (cause : Cause)

/-- A state with a channel's round suspended in HOLD: the final cell demand kept, the charger off, KE commanded OPEN and
the return waiting for it, with Site Permissions and the fan as the stage change leaves them. -/
def suspendedInHold (perm : Permissions) (fan : Bool) : State :=
  { s with
    chan := s.chan.set c
      { s.chan.get c with
        stage := .transferBack
        ctx := (some { x with
          stageTimer := 0, finalCell := (s.present.get c).cell, exit := some (.suspended cause) })
        wait := some { contactor := .ke, start := s.base.ms, limit := s.cfg.contactorMs } }
    present := s.present.set c { code := 0, cell := none }
    perm := perm
    out := { s.out with
      charger := s.out.charger.set c { enable := false, demand := 0, limit := 0 }
      ke := s.out.ke.set x.string .opened, fan := fan } }

/-- A state with the present cell demand of a channel kept as its round's final one (R103). -/
def finalCellKept : State :=
  { s with chan :=
      s.chan.set c { s.chan.get c with ctx := some { x with finalCell := (s.present.get c).cell } } }

/-- A suspending cause that concerns one channel's stage alone, before and after that channel takes it (R108). -/
theorem deliverCause_of_one (concerns : Stage → Bool) (hconcerns : concerns (s.chan.get c).stage = true)
    (hother : concerns (s.chan.get c.other).stage = false)
    (hstays : concerns ((suspendingCause s c cause).chan.get c.other).stage = false) :
    deliverCause s cause concerns = suspendingCause s c cause := by
  cases c with
  | a =>
    replace hstays : concerns ((suspendingCause s .a cause).chan.get .b).stage = false := hstays
    simp [deliverCause, hconcerns, hstays]
  | b =>
    replace hother : concerns (s.chan.get .a).stage = false := hother
    simp [deliverCause, hconcerns, hother]

variable (hstage : (s.chan.get c).stage = .hold) (hx : (s.chan.get c).ctx = some x)
  (hke : s.out.ke.get x.string = .closed) (hshown : presents s (.ke x.string) ≠ .inactive)
  (hvent : s.perm.ventFailed = false)
include hstage hx hke hshown hvent

/-- A suspending cause in HOLD keeps the final cell demand and starts the return, which waits for KE. -/
theorem suspendingCause_of_hold :
    ∃ perm fan, suspendingCause s c cause = suspendedInHold s c x cause perm fan
      ∧ PermissionsKept s (suspendedInHold s c x cause perm fan) := by
  have hsuspends : suspendingCause s c cause = enterBack (finalCellKept s c x) c (.suspended cause) := by
    have hkept : keepFinalCell s c = finalCellKept s c x := by
      simp [keepFinalCell, hstage, State.modCtx, State.modChan, hx, finalCellKept]
    simp [suspendingCause, hstage, hkept]
  have hctx : ((finalCellKept s c x).chan.get c).ctx = some { x with finalCell := (s.present.get c).cell } := by
    simp [finalCellKept]
  obtain ⟨perm, fan, a, hreturn, hdone⟩ := enterBack_waits_ke _ c _ (.suspended cause) hctx hke hshown
  obtain ⟨hactive, hpurge, hgrace, hfan⟩ := permissionsKept_enterBack _ c _ (.suspended cause) hctx hke hshown
  obtain rfl := hdone hvent
  have hstate : enterBack (finalCellKept s c x) c (.suspended cause) = suspendedInHold s c x cause perm fan := by
    rw [hreturn]
    simp [permitted, returnWaiting, returnStarted, startWait, State.modChan, finalCellKept, suspendedInHold, State.cfg]
  rw [hstate] at hsuspends hactive hpurge hgrace hfan
  exact ⟨perm, fan, hsuspends, hactive, hpurge, hgrace, hfan⟩

/-- A suspending cause that concerns HOLD, delivered while the other channel is IDLE, is taken by the channel in HOLD
alone (R108). -/
theorem deliverCause_of_hold (concerns : Stage → Bool) (hconcerns : concerns .hold = true)
    (hidle : concerns .idle = false) (hother : (s.chan.get c.other).stage = .idle) :
    ∃ perm fan, deliverCause s cause concerns = suspendedInHold s c x cause perm fan
      ∧ PermissionsKept s (suspendedInHold s c x cause perm fan) := by
  obtain ⟨perm, fan, hsuspended, hkept⟩ := suspendingCause_of_hold s c x cause hstage hx hke hshown hvent
  have hstays : ((suspendedInHold s c x cause perm fan).chan.get c.other).stage = .idle := by
    simpa [suspendedInHold, other_ne] using hother
  refine ⟨perm, fan, ?_, hkept⟩
  rw [← hsuspended]
  exact deliverCause_of_one s c cause concerns (by rwa [hstage]) (by rwa [hother]) (by rwa [hsuspended, hstays])

end

/-! ### The timers of Site Permissions (R121 to R126) -/

/-- A timer that has reached a number of seconds at the last second. -/
theorem timerAt_of_reached (t : Option Nat) (v sec : Nat) (h : t = some v) (hcounted : 0 < v) (hreached : sec ≤ v) :
    timerAt t sec = true := (timerAt_iff t sec).mpr ⟨v, h, hcounted, hreached⟩

/-- The vent's failure while both channels are IDLE (R122). -/
theorem ventFails_of_idle (s : State) (hidle : ChannelsIdle s) (hlatch : s.latches.ventFail = none) :
    ventFails s =
      { s with
        perm := { s.perm with ventFailed := true, lowSpeed := none, recovery := none }
        latches := { s.latches with ventFail := (some
          { string := 0, value := s.perm.speed, captured := none, time := s.stamp, again := 0
            pending := true }) } } := by
  unfold ventFails; dsimp only
  rw [event_of_clear _ .ventFail _ _ _ (by exact hlatch), deliverCause_of_idle _ (by exact hidle) _ _ rfl]
  rfl

/-- The vent's recovery while the fan turns fast enough (R123). -/
theorem ventRecovers_of_speed (s : State) (hspeed : s.cfg.fanMinRpm ≤ s.perm.speed) :
    ventRecovers s =
      ({ s with perm := { s.perm with ventFailed := false, recovery := none, lowSpeed := none } } :
        State).wantAdmission := by
  have hfast : ¬(s.perm.fan = true ∧ s.perm.speed < s.cfg.fanMinRpm) := fun h => Nat.not_lt.mpr hspeed h.2
  unfold ventRecovers
  rw [ventMonitor_ok _ (by rfl)]
  show ({ s with perm := { s.perm with
    ventFailed := false, recovery := none
    lowSpeed := runWhile (s.perm.fan && decide (s.perm.speed < s.cfg.fanMinRpm)) s.perm.lowSpeed } } :
      State).wantAdmission = _
  rw [runWhile_and, if_neg hfast]

/-- Settles O37: each expiry is due; the grace timer's reaches the channel in HOLD, the vent's no channel. -/
theorem permissionTimersAct : Obligations.PermissionTimersAct := by
  refine ⟨fun s hgrace => ?_, fun s c x v hgrace hcounted hdue hstage hx hother hke hshown hvent hsettled => ?_,
    fun s v hlow hdue hvent hidle hlatch hsettled => ?_, fun s v hrec hdue hvent hfan hspeed hnone hsettled => ?_⟩
  · show execGraceExpiry s = _
    simp [execGraceExpiry, hgrace, timerAt]
  · obtain ⟨perm, fan, hdelivered, hkept⟩ := deliverCause_of_hold (s.modPerm fun p => { p with grace := none }) c x
      .supply hstage hx hke hshown hvent Stage.needsSupply rfl rfl hother
    have hexec : exec .graceExpiry s = settled _ :=
      if_pos (timerAt_of_reached s.perm.grace v _ hgrace hcounted hdue)
    rw [hexec, hdelivered]
    refine ⟨_, settled_of_settled _ hsettled, ?_⟩
    have hstopped : perm.grace = none := hkept.grace rfl
    simp [suspendedInHold, other_ne, hstopped, State.cfg]
  · have hexec : exec .lowSpeedExpiry s = settled (ventFails s) := by
      show execLowSpeedExpiry s = _
      simp [execLowSpeedExpiry, hvent, timerAt_of_reached s.perm.lowSpeed v 10 hlow (by omega) hdue]
    rw [hexec, ventFails_of_idle s hidle hlatch]
    exact settled_of_settled _ hsettled
  · have hexec : exec .recoveryExpiry s = settled (ventRecovers s) := by
      show execRecoveryExpiry s = _
      simp [execRecoveryExpiry, hvent, timerAt_of_reached s.perm.recovery v 60 hrec (by omega) hdue]
    rw [hexec, ventRecovers_of_speed s hspeed, settled, settle_wantAdmission _ (by exact hsettled) (by exact hnone)]

/-! ### Hydrogen (R124, R125, R145) -/

section
variable (s : State)

/-- An H2_ALARM seen active while H2 active is clear starts H2 handling (R124). -/
theorem h2Delivered_of_active (hshown : presents s .h2Alarm = .active) (hclear : s.perm.h2Active = false) :
    h2Delivered s = h2Start s := by
  simp [h2Delivered, hshown, hclear]

/-- An H2_ALARM seen inactive while H2 active is set starts the purge (R125). -/
theorem h2Delivered_of_inactive (hshown : presents s .h2Alarm = .inactive) (hset : s.perm.h2Active = true) :
    h2Delivered s = purgeStart s := by
  simp [h2Delivered, hshown, hset]

/-- An H2_ALARM seen inactive while H2 active is clear changes nothing (R125). -/
theorem h2Delivered_of_clear (hshown : presents s .h2Alarm = .inactive) (hclear : s.perm.h2Active = false) :
    h2Delivered s = s := by
  simp [h2Delivered, hshown, hclear]

/-- The purge that starts keeps a running fan ON (R125, R121). -/
theorem purgeStart_of_fan (hfan : s.perm.fan = true) :
    purgeStart s = s.modPerm fun m => { m with h2Active := false, purge := some 0 } :=
  recomputeFan_same _ (by simp [fanWanted, hfan])

/-- What a latched H2_ALARM holds (R171). -/
def h2Latch : LatchDetail :=
  { string := 0, value := 0, captured := (s.inp.get .h2Alarm).captured, time := s.stamp, again := 0, pending := true }

/-- No charger is turned OFF while both channels are IDLE (R124). -/
theorem disableChargers_of_idle (hidle : ChannelsIdle s) : disableChargers s = s := by
  obtain ⟨ha, hb⟩ := hidle
  simp [disableChargers, isIdle, Two.get, ha, hb]

/-- With one channel active its charger alone is turned OFF (R124). -/
theorem disableChargers_of_one (c : Ch) (hactive : (s.chan.get c).stage ≠ .idle)
    (hother : (s.chan.get c.other).stage = .idle) : disableChargers s = setEnable s c false := by
  cases c with
  | a =>
    replace hother : (s.chan.get .b).stage = .idle := hother
    simp [disableChargers, isIdle, hactive, hother]
  | b =>
    replace hother : (s.chan.get .a).stage = .idle := hother
    simp [disableChargers, isIdle, hactive, hother]

/-- A line that dispenses nothing takes no halt (R145). -/
theorem lineHalt_of_idle (h : s.line.stage.dispensing = false) : lineHalt s = s := by simp [lineHalt, h]

/-- A state with a string's watering ended HALTED: the line in CLOSING, the pump OFF and the valve CLOSED (R145,
R137). -/
def lineHalted (p : Pos) : State :=
  { s with
    line := { s.line with stage := .closing, timer := 0, outcome := some .halted }
    out := { s.out with pump := false, valve := s.out.valve.set p .closed } }

/-- A line that dispenses to a string takes the halt (R145). -/
theorem lineHalt_of_dispensing (p : Pos) (h : s.line.stage.dispensing = true) (hstring : s.line.string = some p) :
    lineHalt s = lineHalted s p := by
  rw [lineHalt, if_pos h, ← closeLine_frame, closeLine_out s .halted p hstring]
  rfl

/-- H2 handling that finds both channels IDLE, the line FREE and the fan OFF turns the fan ON and makes the event
(R124, R121). -/
theorem h2Start_of_idle (hidle : ChannelsIdle s) (hfree : s.line.stage = .free) (hfan : s.perm.fan = false)
    (hvent : s.perm.ventFailed = false) (hlatch : s.latches.h2Alarm = none) :
    h2Start s =
      { s with
        perm :=
          { s.perm with
            h2Active := true, purge := none, fan := true
            lowSpeed := if s.perm.speed < s.cfg.fanMinRpm then some (s.perm.lowSpeed.getD 0) else none }
        out := { s.out with fan := true }
        latches := { s.latches with h2Alarm := some (h2Latch s) } } := by
  unfold h2Start; dsimp only
  rw [disableChargers_of_idle _ (by exact hidle), deliverCause_of_idle _ (by exact hidle) _ _ rfl,
    lineHalt_of_idle _ (by simp [hfree, LineStage.dispensing])]
  generalize hu : State.modPerm (State.modPerm _ _) _ = u
  have hwanted : fanWanted u = true := by simp [← hu, fanWanted]
  have hoff : u.perm.fan = false := by rw [← hu]; exact hfan
  rw [recomputeFan_of_change u (by simp [hwanted, hoff]) (by rw [← hu]; exact hvent),
    event_of_clear _ .h2Alarm _ _ _ (by rw [← hu]; exact hlatch), hwanted, ← hu]
  simp [h2Latch, Latches.set, Inputs.get, State.stamp, State.cfg]

/-- A state with H2 handling started on a channel in HOLD and a watering: the round suspended, the watering HALTED, the
fan ON and H2_ALARM latched, with Site Permissions as it leaves them. -/
def h2Handled (c : Ch) (x : Context) (p : Pos) (perm : Permissions) : State :=
  { lineHalted (suspendedInHold s c x .h2 perm true) p with
    latches := { s.latches with h2Alarm := some (h2Latch s) } }

/-- H2 handling that finds one channel in HOLD, the other IDLE, and a watering (R124, R108, R145). -/
theorem h2Start_of_hold (c : Ch) (x : Context) (p : Pos) (hstage : (s.chan.get c).stage = .hold)
    (hx : (s.chan.get c).ctx = some x) (hother : (s.chan.get c.other).stage = .idle)
    (hke : s.out.ke.get x.string = .closed) (hshown : presents s (.ke x.string) ≠ .inactive)
    (hline : s.line.stage.dispensing = true) (hstring : s.line.string = some p) (hfan : s.out.fan = s.perm.fan)
    (hvent : s.perm.ventFailed = false) (hlatch : s.latches.h2Alarm = none) :
    ∃ perm, h2Start s = h2Handled s c x p perm
      ∧ perm.h2Active = true ∧ perm.purge = none ∧ perm.fan = true := by
  have hactive : (s.chan.get c).stage ≠ .idle := by simp [hstage]
  obtain ⟨perm, fan, hdelivered, hkept⟩ := deliverCause_of_hold
    (setEnable (s.modPerm fun m => { m with h2Active := true }) c false) c x .h2 hstage hx hke hshown hvent
    Stage.active rfl rfl hother
  obtain ⟨hon, -, -, hshow⟩ := hkept
  unfold h2Start; dsimp only
  rw [disableChargers_of_one _ c (by exact hactive) (by exact hother), hdelivered,
    lineHalt_of_dispensing _ p (by exact hline) (by exact hstring)]
  generalize hu : State.modPerm (lineHalted _ _) _ = u
  have hwanted : fanWanted u = true := by
    have hh2 : u.perm.h2Active = true := by rw [← hu]; exact hon
    simp [fanWanted, hh2]
  obtain ⟨perm', hrun, hh2, hpurge, hfan'⟩ := recomputeFan_of_wanted u hwanted (by rw [← hu]; exact hshow hfan)
  refine ⟨perm', ?_, hh2.trans (by rw [← hu]; exact hon), hpurge.trans (by rw [← hu]; rfl), hfan'⟩
  rw [hrun, event_of_clear _ .h2Alarm _ _ _ (by rw [← hu]; exact hlatch), ← hu]
  simp [h2Handled, h2Latch, lineHalted, suspendedInHold, setEnable, Latches.set, Inputs.get, State.stamp, State.cfg]

end

/-- A sample instant that accepts H2_ALARM alone as ACTIVE while H2 active is clear: H2 handling starts with the inputs
accepted up to it, and what it leaves settled stands with the samples of the instant and the alarm's captured level. -/
theorem sampleInstant_of_h2Start (s : State) (levels : BitVec 35) (k : DeliveryKind) (hphase : s.phase ≠ .held)
    (honly : OnlyAccepts s levels .h2Alarm k .active) (hclear : s.perm.h2Active = false) :
    ∃ n : Inputs, (∀ j, (n.get j).presented = if j = .h2Alarm then .active else (s.inp.get j).presented)
      ∧ ∀ t : State, h2Start (acceptedAt s n) = t → Settled t → t.inp = n →
          ∃ n' : Inputs, exec (.sampleInstant levels) s = .next { t with inp := n' }
            ∧ (∀ j, n'.get j = ((s.inp.get j).sample (broughtLevel levels j)).1)
            ∧ (n.get .h2Alarm).captured = (n'.get .h2Alarm).captured := by
  obtain ⟨n, hcaptured, hn, hresult⟩ := execSampleInstant_of_onlyAccepts s levels .h2Alarm k .active hphase honly
  refine ⟨n, hn, fun t hstart hsettled hinp => ?_⟩
  have hdelivered : deliver (acceptedAt s n) .h2Alarm k = t :=
    (h2Delivered_of_active _ ((presents_acceptedAt s n _ _ hn .h2Alarm).trans (if_pos rfl)) hclear).trans hstart
  obtain ⟨n', hexec, hsamples⟩ := hresult t ((congrArg settle hdelivered).trans (settle_of_settled t hsettled)) hinp
  exact ⟨n', hexec, hsamples, by rw [hsamples, ← hcaptured]⟩

/-- Settles O36: the expiries stop the fan; an H2_ALARM delivery starts H2 handling, ends it, or changes nothing. -/
theorem fanTimersExpire : Obligations.FanTimersExpire := by
  refine ⟨fun s v hrun hcounted hdue hgas hh2 hpurge hfan hvent hsettled => ?_,
    fun s v hpurge hcounted hdue hgas hh2 hrun hfan hvent hnone hsettled => ?_,
    fun s levels k hphase hsettled hvent hlatch honly hh2 => ⟨fun hidle hfree hfan => ?_,
      fun c x p hstage hx hother hke hshown _ hline hstring hfan => ?_⟩,
    fun s levels k hphase hsettled honly => ⟨fun hh2 hfan => ?_, fun hh2 => ?_⟩⟩
  · have hexec : exec .runOnExpiry s = settled _ := if_pos (timerAt_of_reached s.perm.runOn v _ hrun hcounted hdue)
    rw [hexec, recomputeFan_stops (s.modPerm fun m => { m with runOn := none }) (by simp [fanWanted, hgas, hh2, hpurge])
      hfan hvent]
    exact settled_of_settled _ hsettled
  · have hexec : exec .purgeEnd s = settled _ := if_pos (timerAt_of_reached s.perm.purge v _ hpurge hcounted hdue)
    rw [hexec, recomputeFan_stops (s.modPerm fun m => { m with purge := none }) (by simp [fanWanted, hgas, hh2, hrun])
      hfan hvent, settled, settle_wantAdmission _ (by exact hsettled) (by exact hnone)]
    rfl
  · obtain ⟨n, -, hresult⟩ := sampleInstant_of_h2Start s levels k hphase honly hh2
    obtain ⟨n', hexec, hsamples, hlevel⟩ :=
      hresult _ (h2Start_of_idle (acceptedAt s n) hidle hfree hfan hvent hlatch) hsettled rfl
    refine ⟨_, hexec, ⟨hsamples, rfl⟩, ?_⟩
    dsimp only
    rw [← hlevel]
    rfl
  · obtain ⟨n, hn, hresult⟩ := sampleInstant_of_h2Start s levels k hphase honly hh2
    have hnot : presents (acceptedAt s n) (.ke x.string) ≠ .inactive := by
      rwa [presents_acceptedAt s n _ _ hn, if_neg (by simp)]
    obtain ⟨perm, hhandled, hon, hstopped, hrun⟩ := h2Start_of_hold (acceptedAt s n) c x p hstage hx hother hke hnot
      hline hstring hfan hvent hlatch
    obtain ⟨n', hexec, hsamples, hlevel⟩ := hresult _ hhandled hsettled rfl
    refine ⟨_, hexec, ⟨hsamples, rfl⟩, hon, hstopped, hrun, rfl, ?_⟩
    dsimp only
    rw [← hlevel]
    simp [h2Handled, h2Latch, lineHalted, suspendedInHold, acceptedAt, sampleTick, atLeastMs, State.cfg, State.stamp]
  · refine sampleInstant_of_delivery s (s.modPerm fun m => { m with h2Active := false, purge := some 0 }) levels
      .h2Alarm k _ hphase honly fun n hn => ?_
    have hends : deliver (acceptedAt s n) .h2Alarm k = purgeStart (acceptedAt s n) :=
      h2Delivered_of_inactive _ ((presents_acceptedAt s n _ _ hn .h2Alarm).trans (if_pos rfl)) hh2
    rw [hends, purgeStart_of_fan (acceptedAt s n) hfan]
    exact settle_of_settled _ hsettled
  · refine sampleInstant_of_delivery s s levels .h2Alarm k _ hphase honly fun n hn => ?_
    have hstays : deliver (acceptedAt s n) .h2Alarm k = acceptedAt s n :=
      h2Delivered_of_clear _ ((presents_acceptedAt s n _ _ hn .h2Alarm).trans (if_pos rfl)) hh2
    rw [hstays]
    exact settle_of_settled _ hsettled

end Sys2Proof.Machine
end

-- ==== Proofs: the line's outputs and what leaves them alone ====
section
/-! PROOFS. What the law of the line's outputs (`LineOutputs`) looks at of a state, and the operations that leave it
alone: all but those of the line itself and those that ask the line to stop. -/

namespace Sys2Proof.Machine

open Sys2Proof.Safety

/-! ### What the law looks at -/

/-- What the law looks at of a state: the line's stage and string, the valves and the pump. -/
structure LineView where
  stage : LineStage
  string : Option Pos
  valve : Eight Contact
  pump : Bool

/-- The line's view of a state. -/
def State.lineView (s : State) : LineView :=
  { stage := s.line.stage, string := s.line.string, valve := s.out.valve, pump := s.out.pump }

/-- The law of the line's outputs (R137), of a view. -/
structure LineLaw (v : LineView) : Prop where
  valve : ∀ p, v.valve.get p = .opened ↔ v.stage.dispensing = true ∧ v.string = some p
  pump : v.pump = true ↔ v.stage = .dosing
  string : v.stage.dispensing = true → v.string.isSome = true

/-- The law holds of a state. -/
abbrev Watered (s : State) : Prop := LineLaw s.lineView

/-- The law of a state is that of its view. -/
theorem lineOutputs_iff (s : State) : LineOutputs s ↔ Watered s :=
  ⟨fun ⟨hvalve, hpump, hstring⟩ => ⟨hvalve, hpump, hstring⟩, fun ⟨hvalve, hpump, hstring⟩ => ⟨hvalve, hpump, hstring⟩⟩

/-- The view is a matter of the line, the valves and the pump. -/
theorem lineView_congr {s t : State} (hline : t.line = s.line) (hvalve : t.out.valve = s.out.valve)
    (hpump : t.out.pump = s.out.pump) : t.lineView = s.lineView := by
  simp only [State.lineView, hline, hvalve, hpump]

/-! ### Operations that leave the line alone -/

section
variable (s : State)

/-- A change of the line record that keeps its stage and its string. -/
@[simp] theorem lineView_modLine (f : Line → Line) (hstage : (f s.line).stage = s.line.stage)
    (hstring : (f s.line).string = s.line.string) : (s.modLine f).lineView = s.lineView := by
  simp only [State.lineView, modLine_line, modLine_out, hstage, hstring]

/-- A change made item by item that leaves the line alone. -/
theorem lineView_foldl {α : Type} (f : State → α → State) (h : ∀ t a, (f t a).lineView = t.lineView) (l : List α) :
    (l.foldl f s).lineView = s.lineView := by
  induction l generalizing s with
  | nil => rfl
  | cons a l ih => rw [List.foldl_cons, ih, h]

/-! #### Updates of one unit -/

@[simp] theorem lineView_modSit (p : Pos) (f : StringSituation → StringSituation) :
    (s.modSit p f).lineView = s.lineView := rfl
@[simp] theorem lineView_modHist (p : Pos) (f : StringHistory → StringHistory) :
    (s.modHist p f).lineView = s.lineView := rfl
@[simp] theorem lineView_modChan (c : Ch) (f : Channel → Channel) : (s.modChan c f).lineView = s.lineView := rfl
@[simp] theorem lineView_modCtx (c : Ch) (f : Context → Context) : (s.modCtx c f).lineView = s.lineView := rfl
@[simp] theorem lineView_modCall (c : Ch) (f : Call → Call) : (s.modCall c f).lineView = s.lineView := rfl
@[simp] theorem lineView_modPerm (f : Permissions → Permissions) : (s.modPerm f).lineView = s.lineView := rfl
@[simp] theorem lineView_wantReserve : s.wantReserve.lineView = s.lineView := rfl
@[simp] theorem lineView_wantAdmission : s.wantAdmission.lineView = s.lineView := rfl
@[simp] theorem lineView_event (c : Condition) (n v : Nat) (l : Option Level) :
    (s.event c n v l).lineView = s.lineView := rfl
@[simp] theorem lineView_atLeastMs (t : Nat) : (atLeastMs s t).lineView = s.lineView := rfl
@[simp] theorem lineView_stopWait (c : Ch) : (stopWait s c).lineView = s.lineView := rfl
@[simp] theorem lineView_startWait (c : Ch) (k : Contactor) : (startWait s c k).lineView = s.lineView := rfl
@[simp] theorem lineView_withdrawCall (c : Ch) : (withdrawCall s c).lineView = s.lineView := rfl

/-! #### Outputs and Site Permissions -/

@[simp] theorem lineView_recomputeOnBus (p : Pos) : (recomputeOnBus s p).lineView = s.lineView := by
  rw [← recomputeOnBus_frame]; rfl
@[simp] theorem lineView_commandKf (p : Pos) (k : Contact) : (commandKf s p k).lineView = s.lineView := by
  rw [← commandKf_frame]; rfl
@[simp] theorem lineView_commandKe (p : Pos) (k : Contact) : (commandKe s p k).lineView = s.lineView := rfl
@[simp] theorem lineView_commandKs (p : Pos) (k : Ch) : (commandKs s p k).lineView = s.lineView := rfl
@[simp] theorem lineView_setEnable (c : Ch) (on : Bool) : (setEnable s c on).lineView = s.lineView := rfl
@[simp] theorem lineView_setLimit (c : Ch) (n : Nat) : (setLimit s c n).lineView = s.lineView := rfl

@[simp] theorem lineView_writeDirect (c : Ch) : (writeDirect s c).lineView = s.lineView := by
  rcases writeDirect_cases s c with hsame | ⟨code, cell, hwritten⟩
  · rw [hsame]
  · rw [hwritten]; rfl

@[simp] theorem lineView_writeHysteresis (c : Ch) : (writeHysteresis s c).lineView = s.lineView := by
  rcases writeHysteresis_cases s c with hsame | ⟨code, cell, hwritten⟩
  · rw [hsame]
  · rw [hwritten]; rfl

@[simp] theorem lineView_ventMonitor : (ventMonitor s).lineView = s.lineView := by rw [← ventMonitor_frame]; rfl

@[simp] theorem lineView_recomputeFan : (recomputeFan s).lineView = s.lineView :=
  lineView_congr (by rw [← recomputeFan_frame]) (congrArg Outputs.valve (recomputeFan_outputs s) :)
    (congrArg Outputs.pump (recomputeFan_outputs s) :)

@[simp] theorem lineView_stageDelivered (st : Stage) : (stageDelivered s st).lineView = s.lineView :=
  lineView_congr (by rw [← stageDelivered_frame]) (congrArg Outputs.valve (stageDelivered_outputs s st) :)
    (congrArg Outputs.pump (stageDelivered_outputs s st) :)

@[simp] theorem lineView_setStage (c : Ch) (st : Stage) : (setStage s c st).lineView = s.lineView := by simp [setStage]
@[simp] theorem lineView_speedDelivered (n : Nat) : (speedDelivered s n).lineView = s.lineView := by
  simp [speedDelivered]
@[simp] theorem lineView_purgeStart : (purgeStart s).lineView = s.lineView := by simp [purgeStart]
@[simp] theorem lineView_ventRecovers : (ventRecovers s).lineView = s.lineView := by simp [ventRecovers]
@[simp] theorem lineView_surplusBack : (surplusBack s).lineView = s.lineView := rfl
@[simp] theorem lineView_disableChargers : (disableChargers s).lineView = s.lineView :=
  lineView_foldl s _ (fun t c => by split <;> rfl) _

/-! #### Strings, records, lists, readings -/

@[simp] theorem lineView_writeRecord (r : Record) : (writeRecord s r).lineView = s.lineView := rfl
@[simp] theorem lineView_removeEntries (p : Pos) : (removeEntries s p).lineView = s.lineView := rfl
@[simp] theorem lineView_removeHeld (h : Held) : (removeHeld s h).lineView = s.lineView := rfl
@[simp] theorem lineView_markRoundOpen (p : Pos) (k : Kind) : (markRoundOpen s p k).lineView = s.lineView := rfl
@[simp] theorem lineView_setEqLock (p : Pos) (r : EqLockReason) : (setEqLock s p r).lineView = s.lineView := rfl
@[simp] theorem lineView_setWaterLock (p : Pos) : (setWaterLock s p).lineView = s.lineView := rfl
@[simp] theorem lineView_historyUpdate (p : Pos) : (historyUpdate s p).lineView = s.lineView := rfl
@[simp] theorem lineView_enterIsolated (p : Pos) (r : Isolation) : (enterIsolated s p r).lineView = s.lineView := rfl

@[simp] theorem lineView_offer (p : Pos) (k : Kind) (o : Origin) (tag : Byte) :
    (offer s p k o tag).1.lineView = s.lineView := by
  rw [← offer_frame]; rfl

@[simp] theorem lineView_weakOffer (p : Pos) (cell deficit : Nat) :
    (weakOffer s p cell deficit).1.lineView = s.lineView := by
  rw [← weakOffer_frame]; rfl

@[simp] theorem lineView_recomputeSense (p : Pos) : (recomputeSense s p).lineView = s.lineView := by
  rw [← recomputeSense_frame]; rfl

@[simp] theorem lineView_kfStuckTest (p : Pos) : (kfStuckTest s p).lineView = s.lineView := by
  unfold kfStuckTest; split <;> rfl

@[simp] theorem lineView_stringKf (p : Pos) : (stringKf s p).lineView = s.lineView := by simp [stringKf]

@[simp] theorem lineView_stringKe (p : Pos) : (stringKe s p).lineView = s.lineView := by
  unfold stringKe; split <;> simp

@[simp] theorem lineView_dueRise (p : Pos) : (dueRise s p).lineView = s.lineView := by
  unfold dueRise; dsimp only
  split <;> simp

@[simp] theorem lineView_dueEvaluate (p : Pos) : (dueEvaluate s p).lineView = s.lineView := by
  unfold dueEvaluate
  split
  · split <;> simp
  · simp

@[simp] theorem lineView_dueEvaluateAll : (dueEvaluateAll s).lineView = s.lineView :=
  lineView_foldl s _ (fun t p => by split <;> simp) _

@[simp] theorem lineView_hourRollover (p : Pos) : (hourRollover s p).lineView = s.lineView := by simp [hourRollover]

@[simp] theorem lineView_throughputAdd (p : Pos) (v : Int) : (throughputAdd s p v).lineView = s.lineView := by
  unfold throughputAdd; split <;> simp

@[simp] theorem lineView_levelDelivered (p : Pos) (k : DeliveryKind) :
    (levelDelivered s p k).lineView = s.lineView := by
  unfold levelDelivered; dsimp only
  split
  · split
    · split <;> simp
    · simp
    · rfl
  · rfl

@[simp] theorem lineView_removePosition (p : Pos) : (removePosition s p).lineView = s.lineView := by
  unfold removePosition; dsimp only
  rw [lineView_modSit, lineView_recomputeOnBus]; rfl

@[simp] theorem lineView_addPosition (p : Pos) : (addPosition s p).lineView = s.lineView := by simp [addPosition]

@[simp] theorem lineView_changeFitted (n : Nat) : (changeFitted s n).lineView = s.lineView := by
  unfold changeFitted; dsimp only
  rw [lineView_foldl _ _ (fun t p => by split <;> simp), lineView_foldl _ _ (fun t p => by split <;> simp)]
  rfl

@[simp] theorem lineView_screenCell (c : Ch) (p : Pos) (mean cell mv : Nat) :
    (screenCell s c p mean cell mv).lineView = s.lineView := by
  unfold screenCell; dsimp only
  split
  · split <;> simp
  · rfl

@[simp] theorem lineView_screenFrom (c : Ch) (p : Pos) (mean n : Nat) (l : List CellEntry) :
    (screenFrom c p mean n l s).lineView = s.lineView := by
  induction l generalizing n s with
  | nil => rfl
  | cons e l ih => rw [screenFrom, ih, lineView_screenCell]

@[simp] theorem lineView_screenCells (c : Ch) (p : Pos) : (screenCells s c p).lineView = s.lineView := by
  unfold screenCells; split <;> simp

@[simp] theorem lineView_computeFloat : (computeFloat s).lineView = s.lineView := by rw [computeFloat_eq]; rfl

@[simp] theorem lineView_endHeld (h : Held) (o : Outcome) : (endHeld s h o).lineView = s.lineView := by
  simp [endHeld]
@[simp] theorem lineView_expireHeld (h : Held) (why : Expiry) : (expireHeld s h why).lineView = s.lineView := by
  simp [expireHeld]

@[simp] theorem lineView_interruptHeld : (interruptHeld s).lineView = s.lineView :=
  lineView_foldl s _ (fun t h => lineView_endHeld t h _) _

@[simp] theorem lineView_suspendMaxLowered : (suspendMaxLowered s).lineView = s.lineView :=
  lineView_foldl s _ (fun t h => by split <;> simp) _

@[simp] theorem lineView_heldMinute (h : Held) : (heldMinute s h).lineView = s.lineView := by
  unfold heldMinute; dsimp only
  split
  · rw [lineView_expireHeld]; rfl
  · rfl

@[simp] theorem lineView_tickSecond : (tickSecond s).lineView = s.lineView := rfl

@[simp] theorem lineView_reservoirTest : (reservoirTest s).lineView = s.lineView := by
  rw [← reservoirTest_frame]; rfl

@[simp] theorem lineView_setAccount (n : Nat) : (setAccount s n).lineView = s.lineView := by
  rw [setAccount, lineView_reservoirTest]; rfl

/-! #### The Equalise Channels: the return to the load bus -/

@[simp] theorem lineView_endRound (c : Ch) (x : Context) (failed : Bool) :
    (endRound s c x failed).lineView = s.lineView := by
  unfold endRound; dsimp only
  rw [lineView_stageDelivered, lineView_writeDirect, lineView_writeRecord]
  split <;> simp

@[simp] theorem lineView_suspension (c : Ch) (x : Context) (cause : Cause) :
    (suspension s c x cause).lineView = s.lineView := by
  unfold suspension; dsimp only
  split
  · simp
  split
  · simp
  · rw [lineView_wantAdmission, lineView_stageDelivered, lineView_writeDirect]; rfl

@[simp] theorem lineView_backComplete (c : Ch) : (backComplete s c).lineView = s.lineView := by
  unfold backComplete; dsimp only
  split
  · simp
  split
  · simp
  split <;> simp

@[simp] theorem lineView_backStep4 (c : Ch) : (backStep4 s c).lineView = s.lineView := by
  unfold backStep4; split <;> simp

@[simp] theorem lineView_backStep3 (c : Ch) : (backStep3 s c).lineView = s.lineView := by
  unfold backStep3; dsimp only
  split
  · rfl
  split
  · split <;> simp
  · simp

@[simp] theorem lineView_backStep2 (c : Ch) : (backStep2 s c).lineView = s.lineView := by
  unfold backStep2; dsimp only
  split
  · rfl
  split
  · split <;> simp
  · simp

@[simp] theorem lineView_enterBack (c : Ch) (e : Exit) : (enterBack s c e).lineView = s.lineView := by simp [enterBack]

@[simp] theorem lineView_keepFinalCell (c : Ch) : (keepFinalCell s c).lineView = s.lineView := by
  unfold keepFinalCell; split <;> rfl

@[simp] theorem lineView_abortRound (c : Ch) (o : Outcome) : (abortRound s c o).lineView = s.lineView := by
  simp [abortRound]

@[simp] theorem lineView_cutFlags (c : Ch) (defer : Bool) : (cutFlags s c defer).lineView = s.lineView := rfl

/-! #### The Equalise Channels: ramp and hold -/

@[simp] theorem lineView_targetTest (c : Ch) : (targetTest s c).lineView = s.lineView := by
  unfold targetTest enterHold; dsimp only
  split
  · split <;> simp
  · rfl

@[simp] theorem lineView_enterRamp (c : Ch) : (enterRamp s c).lineView = s.lineView := by simp [enterRamp]
@[simp] theorem lineView_rampStep (c : Ch) : (rampStep s c).lineView = s.lineView := by simp [rampStep]

@[simp] theorem lineView_finish (c : Ch) (o : Outcome) : (finish s c o).lineView = s.lineView := by
  unfold finish; dsimp only
  split <;> simp

@[simp] theorem lineView_windowEnd (c : Ch) : (windowEnd s c).lineView = s.lineView := by
  unfold windowEnd runawayAbort; dsimp only
  split
  · rfl
  split
  · simp
  split
  · simp
  split <;> simp

@[simp] theorem lineView_holdWindow (c : Ch) : (holdWindow s c).lineView = s.lineView := by
  unfold holdWindow; dsimp only
  split
  · rfl
  split
  · split <;> simp
  · rfl

@[simp] theorem lineView_holdLimitTest (c : Ch) : (holdLimitTest s c).lineView = s.lineView := by
  unfold holdLimitTest
  split
  · rfl
  split <;> simp

@[simp] theorem lineView_holdMinute (c : Ch) : (holdMinute s c).lineView = s.lineView := by simp [holdMinute]

@[simp] theorem lineView_chargeSample (c : Ch) (amps : Eight Int) : (chargeSample s c amps).lineView = s.lineView := by
  unfold chargeSample; dsimp only
  split
  · rfl
  split
  · split <;> simp
  · rfl

@[simp] theorem lineView_holdback (c : Ch) (x : Context) : (holdback s c x).lineView = s.lineView := by simp [holdback]

@[simp] theorem lineView_recomputeComp (p : Pos) : (recomputeComp s p).lineView = s.lineView := by
  unfold recomputeComp; dsimp only
  split
  · rw [lineView_targetTest, lineView_writeHysteresis]; rfl
  · rfl

@[simp] theorem lineView_setpointsChanged (floatToo : Bool) : (setpointsChanged s floatToo).lineView = s.lineView := by
  have hall : (Pos.all.foldl recomputeComp s).lineView = s.lineView := lineView_foldl s _ lineView_recomputeComp _
  unfold setpointsChanged; dsimp only
  split <;> simp [hall]

/-! #### The Equalise Channels: leaving the load bus, feedback, timeouts -/

@[simp] theorem lineView_outStep4 (c : Ch) : (outStep4 s c).lineView = s.lineView := by
  unfold outStep4; dsimp only
  split
  · rfl
  split <;> simp

@[simp] theorem lineView_outStep3 (c : Ch) : (outStep3 s c).lineView = s.lineView := by
  unfold outStep3; dsimp only
  split
  · rfl
  split <;> simp

@[simp] theorem lineView_outStep2 (c : Ch) : (outStep2 s c).lineView = s.lineView := by
  unfold outStep2; dsimp only
  split
  · rfl
  split <;> simp

@[simp] theorem lineView_giveChannel (c : Ch) (x : Context) : (giveChannel s c x).lineView = s.lineView := by
  simp [giveChannel, startTransferOut]

@[simp] theorem lineView_contactorFault (c : Ch) (p : Pos) (k : Contactor) (l : Option Level) :
    (contactorFault s c p k l).lineView = s.lineView := rfl

@[simp] theorem lineView_nextStep (c : Ch) (k : Contactor) : (nextStep s c k).lineView = s.lineView := by
  unfold nextStep; dsimp only
  split <;> simp

@[simp] theorem lineView_outTimeout (c : Ch) (k : Contactor) : (outTimeout s c k).lineView = s.lineView := by
  unfold outTimeout; split <;> simp

@[simp] theorem lineView_backTimeout (c : Ch) (k : Contactor) : (backTimeout s c k).lineView = s.lineView := by
  unfold backTimeout; dsimp only
  split <;> simp

@[simp] theorem lineView_giveUp (c : Ch) : (giveUp s c).lineView = s.lineView := by simp [giveUp]

@[simp] theorem lineView_lineReturn (c : Ch) (w : WaterResult) : (lineReturn s c w).lineView = s.lineView := by
  unfold lineReturn; dsimp only
  split
  · rfl
  split
  · split <;> simp
  · simp

@[simp] theorem lineView_restartChannel (c : Ch) : (restartChannel s c).lineView = s.lineView := by
  unfold restartChannel; dsimp only
  split
  · rfl
  · rfl
  all_goals
    rw [lineView_abortRound]
    split <;> rfl

@[simp] theorem lineView_admitHeld (h : Held) : (admitHeld s h).lineView = s.lineView := by
  unfold admitHeld; split <;> simp

/-! #### Settings, inputs and the link -/

@[simp] theorem lineView_limitChanged : (limitChanged s).lineView = s.lineView :=
  lineView_foldl s _ (fun t c => by split <;> rfl) _

@[simp] theorem lineView_flatCountChanged : (flatCountChanged s).lineView = s.lineView :=
  lineView_foldl s _ (fun t c => by split <;> rfl) _

@[simp] theorem lineView_changePolarity (old new : Nat) : (changePolarity s old new).lineView = s.lineView :=
  lineView_foldl s _ (fun t i => by split <;> rfl) _

/-- No setting that is changed reaches the line's outputs at once. -/
@[simp] theorem lineView_applySetting (i : SettingId) (v : Nat) : (applySetting s i v).lineView = s.lineView := by
  have hset : (setWorking s i v).lineView = s.lineView := rfl
  unfold applySetting; dsimp only
  split <;> simp [hset]

@[simp] theorem lineView_reply (f : Frame) (st : Status) (l : List Byte) : (reply s f st l).lineView = s.lineView := rfl

@[simp] theorem lineView_completeFrame (b : Byte) : (completeFrame s b).lineView = s.lineView := by
  unfold completeFrame; dsimp only
  split
  · rfl
  · split <;> rfl

@[simp] theorem lineView_framerByte (b : Byte) : (framerByte s b).lineView = s.lineView := by
  unfold framerByte; dsimp only
  split
  · split <;> rfl
  · split
    · rfl
    · split <;> rfl
  · rfl
  · split
    · simp
    · rfl

@[simp] theorem lineView_recoverRecords : (recoverRecords s).lineView = s.lineView :=
  lineView_foldl s _ (fun t p => by split <;> rfl) _

@[simp] theorem lineView_initialTests : (initialTests s).lineView = s.lineView := by simp [initialTests]

end

end Sys2Proof.Machine
end

-- ==== Proofs: the line and what stops or starts it ====
section
/-! PROOFS. The line's own operations keep the law of its outputs, and so do those of other blocks that stop or start
a watering, the settling of a step among them. -/

namespace Sys2Proof.Machine

open Sys2Proof.Safety

/-! ### A line that dispenses nothing -/

/-- Every valve is CLOSED and the pump OFF. -/
def LineView.Shut (v : LineView) : Prop := (∀ p, v.valve.get p ≠ .opened) ∧ v.pump = false

/-- A line that dispenses nothing is shut. -/
theorem LineLaw.shut {v : LineView} (h : LineLaw v) (hidle : v.stage.dispensing = false) : v.Shut := by
  refine ⟨fun p hopen => ?_, Bool.eq_false_iff.mpr fun hpump => ?_⟩
  · rw [((h.valve p).1 hopen).1] at hidle; cases hidle
  · rw [h.pump.1 hpump] at hidle; cases hidle

/-- A shut line that dispenses nothing meets the law. -/
theorem LineView.Shut.law {v : LineView} (h : v.Shut) (hidle : v.stage.dispensing = false) : LineLaw v := by
  obtain ⟨hvalve, hpump⟩ := h
  refine ⟨fun p => ⟨fun hopen => absurd hopen (hvalve p), fun ⟨hstage, _⟩ => ?_⟩, ⟨fun hon => ?_, fun hstage => ?_⟩,
    fun hstage => ?_⟩
  · rw [hidle] at hstage; cases hstage
  · rw [hpump] at hon; cases hon
  · rw [hstage] at hidle; cases hidle
  · rw [hidle] at hstage; cases hstage

/-- The stages that dispense. -/
theorem dispensing_iff (st : LineStage) :
    st.dispensing = true ↔ st = .priming ∨ st = .dosing ∨ st = .pause := by
  cases st <;> simp [LineStage.dispensing]

section
variable {s : State}

/-- A line that dispenses neither before nor after a change that leaves the outputs alone. -/
theorem watered_idle (h : Watered s) {t : State} (hs : s.line.stage.dispensing = false)
    (ht : t.line.stage.dispensing = false) (hvalve : t.out.valve = s.out.valve) (hpump : t.out.pump = s.out.pump) :
    Watered t := by
  have hshut : s.lineView.Shut := h.shut hs
  refine LineView.Shut.law ?_ ht
  simpa only [LineView.Shut, State.lineView, hvalve, hpump] using hshut

/-! ### The line's stage entries -/

/-- The end of a watering closes its valve and stops the pump (R137). -/
theorem watered_closeLine (h : Watered s) (o : Outcome) : Watered (closeLine s o) := by
  have hstage : (closeLine s o).line.stage = .closing := by rw [← closeLine_frame]
  refine LineView.Shut.law ?_ (by rw [State.lineView, hstage]; rfl)
  cases hstring : s.line.string with
  | none =>
    have hidle : s.line.stage.dispensing = false :=
      Bool.eq_false_iff.mpr fun hd => by simpa [State.lineView, hstring] using h.string hd
    have hout : (closeLine s o).out = { s.out with pump := false } := by
      simp [closeLine, hstring, setPump, State.modLine]
    exact ⟨fun q => by simpa only [State.lineView, hout] using (h.shut hidle).1 q, by simp only [State.lineView, hout]⟩
  | some p =>
    have hout := closeLine_out s o p hstring
    refine ⟨fun q => ?_, by simp only [State.lineView, hout]⟩
    simp only [State.lineView, hout]
    by_cases hq : q = p
    · subst hq; simp
    · rw [eight_get_set_other _ _ _ _ hq]
      intro hopen
      have hown := ((h.valve q).1 hopen).2
      exact hq (by simpa [State.lineView, hstring] using hown.symm)

/-- The entry to DOSING starts the pump of a watering in progress (R139). -/
theorem watered_enterDosing (h : Watered s) (hstage : s.line.stage.dispensing = true) : Watered (enterDosing s) := by
  have hview : (enterDosing s).lineView = { s.lineView with stage := .dosing, pump := true } := by
    unfold enterDosing countDose; split <;> rfl
  rw [Watered, hview]
  have hd : s.lineView.stage.dispensing = true := hstage
  exact ⟨fun p => (h.valve p).trans (by rw [hd]; rfl), by simp, fun _ => h.string hd⟩

/-- The entry to PAUSE stops the pump, and the valve stays open (R137). -/
theorem watered_enterPause (h : Watered s) (hstage : s.line.stage.dispensing = true) : Watered (enterPause s) := by
  have hview : (enterPause s).lineView = { s.lineView with stage := .pause, pump := false } := rfl
  rw [Watered, hview]
  have hd : s.lineView.stage.dispensing = true := hstage
  exact ⟨fun p => (h.valve p).trans (by rw [hd]; rfl), by simp, fun _ => h.string hd⟩

theorem watered_endReservoirEmpty (h : Watered s) : Watered (endReservoirEmpty s) :=
  watered_closeLine (s := s.event ..) h _

/-- A line that dispenses nothing takes a watering: its string's valve is the one that opens (R138). -/
theorem watered_lineTake (h : Watered s) (hidle : s.line.stage.dispensing = false) (o : Owner) (p : Pos)
    (i : Option RoundIdentity) (d : Option ManualDose) : Watered (lineTake s o p i d) := by
  obtain ⟨hvalve, hpump⟩ := h.shut hidle
  unfold lineTake; dsimp only
  generalize ht : setValve (s.modLine _) p .opened = t
  have htaken : Watered t := by
    rw [← ht]
    refine ⟨fun q => ?_, ?_, fun _ => rfl⟩
    · by_cases hq : q = p
      · subst hq; simp [State.lineView, setValve, LineStage.dispensing]
      · have hshut := hvalve q
        simpa [State.lineView, setValve, hq, Ne.symm hq] using hshut
    · simpa [State.lineView, setValve] using hpump
  split
  · exact watered_endReservoirEmpty htaken
  · exact htaken

theorem watered_lineTakeCall (h : Watered s) (hidle : s.line.stage.dispensing = false) (c : Ch) :
    Watered (lineTakeCall s c) := by
  unfold lineTakeCall; dsimp only
  split
  · exact h
  · generalize ht : State.modCall _ c _ = t
    have hmarked : Watered t := by rw [← ht]; simpa [Watered] using h
    exact watered_lineTake hmarked (by rw [← ht]; exact hidle) _ _ _ _

/-- The line serves the next requester once its watering has ended (R147). -/
theorem watered_lineNext (h : Watered s) (hidle : s.line.stage.dispensing = false) : Watered (lineNext s) := by
  unfold lineNext; dsimp only
  generalize ht : s.modLine _ = t
  have hcleared : Watered t := by
    rw [← ht]
    exact watered_idle h hidle hidle rfl rfl
  have hstill : t.line.stage.dispensing = false := by rw [← ht]; exact hidle
  split
  · exact watered_lineTakeCall hcleared hstill _
  · exact watered_idle (t := (t.modLine _).wantAdmission) hcleared hstill rfl rfl rfl

/-! ### Stops, pulses, the end of a watering -/

theorem watered_lineStop (h : Watered s) : Watered (lineStop s) := by
  unfold lineStop
  split
  · exact watered_closeLine h _
  · exact h

theorem watered_lineHalt (h : Watered s) : Watered (lineHalt s) := by
  unfold lineHalt
  split
  · exact watered_closeLine h _
  · exact h

theorem watered_lineResLow (h : Watered s) : Watered (lineResLow s) := by
  unfold lineResLow
  split
  · exact watered_endReservoirEmpty h
  · exact h

theorem watered_overvolume (h : Watered s) : Watered (overvolume s) := by
  unfold overvolume
  split
  · exact h
  · exact watered_closeLine (s := (setWaterLock s _).event ..) h _

theorem watered_pulseTests (h : Watered s) : Watered (pulseTests s) := by
  unfold pulseTests
  split
  · split
    · exact watered_closeLine h _
    · exact h
  split
  · exact watered_overvolume h
  split
  next hfull => exact watered_enterPause h ((dispensing_iff _).2 (.inr (.inl hfull.1)))
  next => exact h

theorem watered_linePulse (h : Watered s) : Watered (linePulse s) := by
  unfold linePulse; dsimp only
  generalize ht : setAccount s _ = t
  have hset : Watered t := by rw [← ht, Watered, lineView_setAccount]; exact h
  have hcounted : Watered (countPulse t) := hset
  split
  · split
    · exact watered_pulseTests hcounted
    · exact hcounted
  · exact hset

/-- The end of a standalone round leaves the line's stage and outputs to what follows (R147). -/
@[simp] theorem lineView_endLineRound (s : State) : (endLineRound s).lineView = s.lineView := by
  unfold endLineRound; dsimp only
  split <;> rfl

@[simp] theorem lineView_handDoseEnd (s : State) (d : DoseEnd) : (handDoseEnd s d).lineView = s.lineView := by
  unfold handDoseEnd; split <;> rfl

/-- The hand-on at the end of CLOSING finds the line shut (R147). -/
theorem watered_closingEnd (h : Watered s) (hstage : s.line.stage = .closing) : Watered (closingEnd s) := by
  have hafter : ∀ t : State, t.lineView = s.lineView → Watered t ∧ t.line.stage.dispensing = false := by
    intro t ht
    have hst : t.line.stage = .closing := (congrArg LineView.stage ht).trans hstage
    exact ⟨by rw [Watered, ht]; exact h, by rw [hst]; rfl⟩
  have hnext : ∀ t : State, t.lineView = s.lineView → Watered (lineNext t) := fun t ht =>
    watered_lineNext (hafter t ht).1 (hafter t ht).2
  have hmanual : ∀ t : State, t.lineView = s.lineView →
      Watered (if t.line.claimEnded then lineNext t else backToManual t) := by
    intro t ht
    split
    · exact hnext t ht
    · exact watered_idle (t := backToManual t) (hafter t ht).1 (hafter t ht).2 rfl rfl rfl
  unfold closingEnd; dsimp only
  split
  · exact hnext _ (lineView_endLineRound s)
  · exact hnext _ (lineView_lineReturn s _ _)
  · split
    · exact hmanual _ (lineView_handDoseEnd s _)
    · exact hmanual _ rfl
  · exact hnext _ rfl

/-- The line at a Restart (R156). -/
theorem watered_restartLine (h : Watered s) : Watered (restartLine s) := by
  have hend : ∀ host : Bool, Watered
      (if host = true then (closeLine s .stopped).modLine fun l => { l with claimEnded := true }
        else closeLine s .cancelled) := by
    intro host
    split
    · rw [Watered, lineView_modLine _ _ rfl rfl]; exact watered_closeLine h _
    · exact watered_closeLine h _
  unfold restartLine; dsimp only
  split
  next => exact hend _
  next => exact hend _
  next => exact hend _
  next => split <;> exact h
  next hstage => exact watered_lineNext h (by rw [hstage]; rfl)
  next => exact h

/-! ### The channels' causes and calls -/

theorem watered_askStop (h : Watered s) (c : Ch) : Watered (askStop s c) := by
  unfold askStop
  split
  · exact h
  · exact watered_lineStop (s := s.modCall c _) h

/-- A cut of a SERVING call stops the line, any other leaves it alone (R110). -/
theorem watered_cutRound (h : Watered s) (c : Ch) (defer h2 : Bool) : Watered (cutRound s c defer h2) := by
  unfold cutRound; dsimp only
  split
  · simpa [Watered] using h
  · split
    · split
      · exact h
      · split
        · exact h
        · exact watered_askStop (s := (cutFlags s c defer).modCall c _) h c
    · simpa [Watered] using h
  · exact h

theorem watered_readingCause (h : Watered s) (c : Ch) (o : Outcome) : Watered (readingCause s c o) := by
  have habort : Watered (abortRound s c o) := by simpa [Watered] using h
  unfold readingCause
  split
  next => exact habort
  next => exact habort
  next => exact habort
  next => exact watered_cutRound h c _ _
  next => exact watered_cutRound h c _ _
  next => exact h
  next => exact h

theorem watered_suspendingCause (h : Watered s) (c : Ch) (cause : Cause) : Watered (suspendingCause s c cause) := by
  have hback : Watered (enterBack (keepFinalCell s c) c (.suspended cause)) := by simpa [Watered] using h
  unfold suspendingCause
  split
  next => exact hback
  next => exact hback
  next => exact hback
  next => exact watered_cutRound h c _ _
  next => exact watered_cutRound h c _ _
  next => exact h
  next => exact h

/-- What is done to one item after another keeps the law. -/
theorem watered_foldl {α : Type} (f : State → α → State) (hf : ∀ t a, Watered t → Watered (f t a)) (l : List α)
    {s : State} (h : Watered s) : Watered (l.foldl f s) := by
  induction l generalizing s with
  | nil => exact h
  | cons a l ih => exact ih (hf s a h)

theorem watered_deliverCause (h : Watered s) (cause : Cause) (concerns : Stage → Bool) :
    Watered (deliverCause s cause concerns) :=
  watered_foldl _ (fun t c ht => by
    split
    · exact watered_suspendingCause ht c cause
    · exact ht) _ h

theorem watered_channelScan (h : Watered s) (p : Pos) : Watered (channelScan s p) := by
  unfold channelScan
  split
  · exact h
  split
  · split
    · exact watered_readingCause h _ _
    · split
      case h_1 | h_2 => split <;> simpa [Watered] using h
      all_goals exact h
  · exact h

theorem watered_channelPilot (h : Watered s) (p : Pos) : Watered (channelPilot s p) := by
  unfold channelPilot; dsimp only
  split
  · exact h
  split
  · split
    · exact watered_readingCause (s := (s.modCtx _ _).event ..) h _ _
    · exact h
  · split
    · exact watered_readingCause h _ _
    · exact h

theorem watered_disagreement (h : Watered s) (c : Ch) (p : Pos) (k : Contactor) (l : Option Level) :
    Watered (disagreement s c p k l) := by
  unfold disagreement
  split
  · split
    · split
      · exact h
      · exact watered_askStop (s := (contactorFault s c p k l).modCall c _) h c
    · simpa [Watered] using h
  · simpa [Watered] using h

theorem watered_channelFeedback (h : Watered s) (p : Pos) (k : Contactor) (l : Option Level) :
    Watered (channelFeedback s p k l) := by
  unfold channelFeedback; dsimp only
  split
  · exact h
  split
  · split <;> simpa [Watered] using h
  · split
    · exact watered_disagreement h _ p k l
    · exact h

/-- A channel that enters WATER is served at once by a FREE line alone (R111). -/
theorem watered_enterWater (h : Watered s) (c : Ch) : Watered (enterWater s c) := by
  unfold enterWater; dsimp only
  split
  · exact h
  split
  · simpa [Watered] using h
  · generalize ht : setStage (s.modChan c _) c .water = t
    have hpushed : Watered t := by rw [← ht]; simpa [Watered] using h
    split
    next hfree =>
      have hstage : t.line.stage = .free := by simpa using (Bool.and_eq_true_iff.mp hfree).1
      exact watered_lineTakeCall hpushed (by rw [hstage]; rfl) c
    next => exact hpushed

theorem watered_settleEnd (h : Watered s) (c : Ch) : Watered (settleEnd s c) := by
  unfold settleEnd
  split
  · exact h
  split
  · exact watered_enterWater h c
  · simpa [Watered] using h

/-! ### Round Admission -/

/-- An entry of kind WATER that is admitted finds the line FREE (R86, R88). -/
theorem watered_admitEntry (h : Watered s) (e : Entry) (hpasses : entryBlocked s e = .none) :
    Watered (admitEntry s e) := by
  unfold admitEntry giveLine; dsimp only
  generalize ht : markRoundOpen _ _ _ = t
  have hmarked : Watered t := by rw [← ht]; exact h
  split
  next hkind =>
    have hwater : waterBlocked s e.string e.notBefore = .none := by simpa only [entryBlocked, hkind] using hpasses
    obtain ⟨-, hline, -⟩ := tests_of_waterBlocked s _ _ hwater
    have hfree : t.line.stage = .free := by rw [← ht]; exact ((lineTest_iff s).1 hline).1
    exact watered_lineTake (s := t.modSit _ _) hmarked (by rw [modSit_line, hfree]; rfl) _ _ _ _
  all_goals split <;> simpa [Watered] using hmarked

theorem watered_evaluatePasses (n : Nat) (h : Watered s) : Watered (evaluatePasses n s) := by
  induction n generalizing s with
  | zero => exact h
  | succ n ih =>
    unfold evaluatePasses
    split
    · exact ih (by simpa [Watered] using h)
    next e hnext =>
      obtain ⟨e', -, heq, -⟩ | ⟨e', heq, hpasses⟩ := nextCandidate_spec hnext
      · cases heq
      · obtain rfl : e = e' := Sum.inr.inj heq
        exact ih (watered_admitEntry h e hpasses)
    · exact h

theorem watered_evaluate (h : Watered s) : Watered (evaluate s) := by
  unfold evaluate
  split
  · exact h
  · exact watered_evaluatePasses _ h

/-! ### Site Permissions and the settling of a step -/

theorem watered_reserveTest (h : Watered s) : Watered (reserveTest s) := by
  unfold reserveTest; dsimp only
  split
  · exact h
  · generalize ht : (if s.perm.breach = true then s else _) = t
    have hbreach : Watered t := by
      rw [← ht]
      split <;> exact h
    split
    · exact hbreach
    · split
      · exact watered_suspendingCause hbreach _ _
      · exact hbreach

theorem watered_settleWith (n : Nat) (h : Watered s) : Watered (settleWith n s) := by
  induction n generalizing s with
  | zero => exact h
  | succ n ih =>
    unfold settleWith
    split
    · exact ih (watered_reserveTest (s := { s with due := { s.due with reserve := false } }) h)
    · split
      · exact ih (watered_evaluate (s := { s with due := { s.due with admission := false } }) h)
      · exact h

theorem watered_settle (h : Watered s) : Watered (settle s) := watered_settleWith 16 h

theorem watered_recomputeSurplus (h : Watered s) : Watered (recomputeSurplus s) := by
  unfold recomputeSurplus surplusLost; dsimp only
  generalize ht : ({ s with supply := _ } : State) = t
  have hsurplus : Watered t := by rw [← ht]; exact h
  split
  · exact h
  split
  · exact hsurplus
  split
  · exact hsurplus
  split
  · exact watered_deliverCause hsurplus _ _
  · exact hsurplus

theorem watered_h2Start (h : Watered s) : Watered (h2Start s) := by
  unfold h2Start; dsimp only
  generalize ht : disableChargers _ = t
  have hdisabled : Watered t := by rw [← ht, Watered, lineView_disableChargers]; exact h
  have hhalted : Watered (lineHalt (deliverCause t .h2 Stage.active)) :=
    watered_lineHalt (watered_deliverCause hdisabled .h2 Stage.active)
  simpa [Watered] using hhalted

theorem watered_h2Delivered (h : Watered s) : Watered (h2Delivered s) := by
  unfold h2Delivered
  split
  · split
    · exact h
    · exact watered_h2Start h
  · split
    · simpa [Watered] using h
    · exact h
  · exact h

theorem watered_ventFails (h : Watered s) : Watered (ventFails s) :=
  watered_deliverCause (s := (s.modPerm _).event ..) h _ _

end

end Sys2Proof.Machine
end

-- ==== Proofs: every command keeps the line's outputs ====
section
/-! PROOFS. Samples, resets, settings and requests keep the law of the line's outputs, and so does every step (O57). -/

namespace Sys2Proof.Machine

open Sys2Proof.Safety

section
variable {s : State}

/-! ### Samples and deliveries -/

theorem watered_deliver (h : Watered s) (i : InputId) (k : DeliveryKind) : Watered (deliver s i k) := by
  unfold deliver; dsimp only
  split
  next p =>
    have hstring : Watered (stringKf s p) := by simpa [Watered] using h
    exact watered_channelFeedback hstring p .kf _
  next p =>
    have hstring : Watered (stringKe s p) := by simpa [Watered] using h
    exact watered_channelFeedback hstring p .ke _
  next p => exact watered_channelFeedback h p .ks _
  next => simpa [Watered] using h
  next => exact watered_recomputeSurplus h
  next => exact watered_h2Delivered h
  next => exact watered_lineResLow h

theorem watered_sampleInput (h : Watered s) (i : InputId) (l : Level) : Watered (sampleInput s i l) := by
  unfold sampleInput; dsimp only
  generalize ht : ({ s with inp := _ } : State) = t
  have hsampled : Watered t := by rw [← ht]; exact h
  split
  · exact watered_settle (watered_deliver hsampled i _)
  · exact hsampled

theorem watered_sampleInputs (levels : BitVec 35) (l : List InputId) (n : Nat) (h : Watered s) :
    Watered (sampleInputs levels n l s) := by
  induction l generalizing n s with
  | nil => exact h
  | cons i l ih => exact ih (n + 1) (watered_sampleInput h i _)

theorem watered_completeScan (h : Watered s) (p : Pos) (mvs : List Nat) : Watered (completeScan s p mvs) := by
  rw [completeScan_eq]
  refine watered_channelScan ?_ p
  rw [Watered, lineView_recomputeSense]
  exact h

@[simp] theorem lineView_sampleCurrents (s : State) (dA : Eight Int) :
    (sampleCurrents s dA).lineView = s.lineView := by
  rw [sampleCurrents_eq, lineView_chargeSample, lineView_chargeSample,
    lineView_foldl _ _ fun t p => lineView_throughputAdd t p _]
  rfl

theorem watered_completePilot (h : Watered s) (p : Pos) (nTh nRef : Nat) : Watered (completePilot s p nTh nRef) := by
  have hsense : Watered (recomputeSense (recomputeComp (pilotStored s p nTh nRef) p) p) := by
    rw [Watered, lineView_recomputeSense, lineView_recomputeComp]; exact h
  exact watered_channelPilot hsense p

@[simp] theorem lineView_completeAmbient (s : State) (nTh nRef : Nat) :
    (completeAmbient s nTh nRef).lineView = s.lineView := by
  have hall := lineView_foldl (ambientStored s nTh nRef)
    (fun s p => if ambientConcerns s p then recomputeComp s p else s) (fun t p => by split <;> simp) Pos.all
  have hdone : ∀ t : State, (cycleDone t).lineView = t.lineView := fun _ => rfl
  rw [completeAmbient_eq, hdone, lineView_computeFloat, hall]
  rfl

/-! ### Resets -/

/-- A reset leaves the valves CLOSED, the pump OFF and the line FREE (R6, R136). -/
theorem watered_afterReset (s : State) (store : Store) : Watered (afterReset s store) :=
  LineView.Shut.law ⟨fun p => by cases p <;> exact Contact.noConfusion, rfl⟩ rfl

theorem watered_restartReset (s : State) : Watered (restartReset s) := watered_afterReset s s.store

/-! ### Commands -/

/-- A command's answer meets the law. -/
def KeepsWatered (o : Host.Outcome State Fault Refusal) : Prop := ∀ t, o = .next t → Watered t

theorem keepsWatered_next (h : Watered s) : KeepsWatered (.next s) := by
  rintro t ⟨⟩
  exact h

theorem keepsWatered_settled (h : Watered s) : KeepsWatered (settled s) := keepsWatered_next (watered_settle h)

/-- A command that acts on a condition, and otherwise changes nothing. -/
theorem keepsWatered_ite {c : Prop} [Decidable c] {o : Host.Outcome State Fault Refusal} (h : Watered s)
    (hact : c → KeepsWatered o) : KeepsWatered (if c then o else .next s) := by
  split
  next hc => exact hact hc
  next => exact keepsWatered_next h

/-- A request is served by a rule that keeps the law (R181, R182). -/
theorem keepsWatered_serve (h : Watered s) (mine : Frame → Bool) (fits : Nat → Bool) {act : State → Frame → State}
    (hact : ∀ t f, Watered t → Watered (act t f)) : KeepsWatered (serve s mine fits act) := by
  unfold serve
  split
  · exact keepsWatered_next h
  split
  · split
    · exact keepsWatered_next h
    · split
      · exact keepsWatered_settled (hact _ _ h)
      · exact keepsWatered_next h
  · exact keepsWatered_next h

/-- A request whose rule leaves the line alone. -/
theorem keepsWatered_report (h : Watered s) (mine : Frame → Bool) (fits : Nat → Bool) {act : State → Frame → State}
    (hact : ∀ t f, (act t f).lineView = t.lineView) : KeepsWatered (serve s mine fits act) :=
  keepsWatered_serve h mine fits fun t f ht => by rw [Watered, hact]; exact ht

theorem keepsWatered_serveKind (h : Watered s) (kind : Byte) (n : Nat) {act : State → Frame → State}
    (hact : ∀ t f, Watered t → Watered (act t f)) : KeepsWatered (serveKind s kind n act) :=
  keepsWatered_serve h _ _ hact

theorem keepsWatered_reportKind (h : Watered s) (kind : Byte) (n : Nat) {act : State → Frame → State}
    (hact : ∀ t f, (act t f).lineView = t.lineView) : KeepsWatered (serveKind s kind n act) :=
  keepsWatered_report h _ _ hact

/-! #### The requests' rules -/

theorem lineView_readStatusReply (f : Frame) : (readStatusReply s f).lineView = s.lineView := by
  unfold readStatusReply; split <;> rfl

theorem lineView_readStringReply (f : Frame) : (readStringReply s f).lineView = s.lineView := by
  unfold readStringReply; split <;> rfl

theorem lineView_readCellsReply (f : Frame) : (readCellsReply s f).lineView = s.lineView := by
  unfold readCellsReply
  split
  · rfl
  · split
    · split <;> rfl
    · rfl

theorem lineView_readSettingReply (f : Frame) : (readSettingReply s f).lineView = s.lineView := by
  unfold readSettingReply; split <;> rfl

theorem lineView_submitTests (f : Frame) (b : Submission) (k : Kind) (c : RoundClass) (p : Pos) :
    (submitTests s f b k c p).lineView = s.lineView := by
  unfold submitTests; dsimp only
  split
  · rfl
  split
  · rfl
  split
  · rfl
  split
  · rfl
  split <;> rfl

theorem lineView_serveSubmitRound (f : Frame) : (serveSubmitRound s f).lineView = s.lineView := by
  unfold serveSubmitRound; dsimp only
  split
  · split
    · rfl
    split
    · rfl
    split
    · rfl
    · exact lineView_submitTests ..
  · rfl

/-- A cancel reaches the line through a channel's cut or as the stop of a standalone watering (R107, R146). -/
theorem watered_serveCancelRound (h : Watered s) (f : Frame) : Watered (serveCancelRound s f) := by
  unfold serveCancelRound cancelHeld cancelOnLine cancelOnChannel; dsimp only
  split
  · exact h
  split
  · exact h
  · exact h
  · split
    · rw [Watered, lineView_endHeld]; exact h
    · exact h
  · split
    · split
      · exact h
      · exact h
      all_goals exact watered_readingCause (s := cancelReply s f .ok .activeChannel) h _ _
    · exact h
  · split
    · exact watered_closeLine (s := cancelReply s f .ok .activeLine) h _
    · exact h

theorem watered_serveSupplyGrant (h : Watered s) (f : Frame) : Watered (serveSupplyGrant s f) :=
  watered_recomputeSurplus (s := { s with supply := _ }) h

/-- A line that is claimed was FREE, and stays shut (R149). -/
theorem watered_serveClaimLine (h : Watered s) (f : Frame) : Watered (serveClaimLine s f) := by
  unfold serveClaimLine
  split
  · exact h
  split
  next hfree => exact watered_idle (t := reply (s.modLine _) ..) h (by rw [hfree]; rfl) rfl rfl rfl
  next => exact h

/-- A line that is released is in MANUAL, in CLOSING, or ends its dose (R150). -/
theorem watered_serveReleaseLine (h : Watered s) (f : Frame) : Watered (serveReleaseLine s f) := by
  have hstopped : Watered ((closeLine s .stopped).modLine fun l => { l with claimEnded := true }) := by
    rw [Watered, lineView_modLine _ _ rfl rfl]; exact watered_closeLine h _
  unfold serveReleaseLine; dsimp only
  split
  · exact h
  · rw [Watered, lineView_reply]
    split
    next hmanual => exact watered_lineNext h (by rw [hmanual]; rfl)
    next => exact h
    all_goals exact hstopped

/-- A manual dose is taken by a line in MANUAL (R151). -/
theorem watered_serveManualDose (h : Watered s) (f : Frame) : Watered (serveManualDose s f) := by
  unfold serveManualDose; dsimp only
  split
  · exact h
  split
  · exact h
  split
  · exact h
  next hmanual =>
    have hstage : s.line.stage = .manual := by
      simp only [Bool.or_eq_true, bne_iff_ne, not_or, not_not] at hmanual
      exact hmanual.1
    split
    · exact h
    split
    · exact h
    split
    · exact h
    · exact watered_lineTake h (by rw [hstage]; rfl) _ _ _ _

theorem lineView_serveRefill (f : Frame) : (serveRefill s f).lineView = s.lineView := by simp [serveRefill]

theorem lineView_serveClearWeak (f : Frame) : (serveClearWeak s f).lineView = s.lineView := by
  unfold serveClearWeak; dsimp only
  split <;> rfl

theorem lineView_serveReleaseLock (f : Frame) : (serveReleaseLock s f).lineView = s.lineView := by
  unfold serveReleaseLock; dsimp only
  split
  · rfl
  split
  · rfl
  · split <;> rfl

theorem lineView_serveSetNoticeMaster (f : Frame) : (serveSetNoticeMaster s f).lineView = s.lineView := by
  unfold serveSetNoticeMaster; dsimp only
  split <;> rfl

theorem lineView_serveClearConditions (f : Frame) : (serveClearConditions s f).lineView = s.lineView := by
  unfold serveClearConditions; dsimp only
  split
  · rfl
  · rw [lineView_reply, lineView_foldl _ relatch fun _ c => by cases c <;> rfl,
      lineView_foldl _ clearLatch fun _ _ => rfl]

theorem lineView_serveReadLog (f : Frame) : (serveReadLog s f).lineView = s.lineView := by
  unfold serveReadLog; dsimp only
  split
  · rfl
  split
  · rfl
  · split <;> rfl

theorem watered_serveRestart (h : Watered s) (f : Frame) : Watered (serveRestart s f) := by
  refine watered_restartLine ?_
  rw [Watered, lineView_restartChannel, lineView_restartChannel, lineView_interruptHeld]
  exact h

theorem lineView_serveSetSetting (f : Frame) : (serveSetSetting s f).lineView = s.lineView := by
  unfold serveSetSetting acceptSetting; dsimp only
  split
  · rfl
  split
  · rfl
  split
  · rfl
  · rw [lineView_reply]
    split
    · rfl
    · exact lineView_applySetting { s with store := { s.store with defaulted := false } } _ _

/-! #### Events and timed rows -/

theorem keepsWatered_execResetN (s : State) : KeepsWatered (execResetN s) := by
  obtain ⟨n, store, hreset, -⟩ := execResetN_cases s
  rw [hreset]
  exact keepsWatered_next (watered_afterReset _ store)

theorem keepsWatered_execScanCompletion (h : Watered s) (mvs : List Nat) : KeepsWatered (execScanCompletion mvs s) := by
  unfold execScanCompletion
  split
  · exact keepsWatered_ite h fun _ => keepsWatered_settled (watered_completeScan h _ mvs)
  · exact keepsWatered_next h

theorem keepsWatered_execConversionCompletion (h : Watered s) (gateTh gateRef : Nat) :
    KeepsWatered (execConversionCompletion gateTh gateRef s) := by
  refine keepsWatered_ite h fun _ => ?_
  have hticked : Watered (conversionTick s) := h
  dsimp only
  split
  · exact keepsWatered_settled (watered_completePilot hticked _ _ _)
  · exact keepsWatered_settled (by rw [Watered, lineView_completeAmbient]; exact hticked)

theorem keepsWatered_execTachEdge (h : Watered s) (t : Nat) : KeepsWatered (execTachEdge t s) := by
  refine keepsWatered_ite h fun _ => ?_
  split
  · exact keepsWatered_next h
  · dsimp only
    split
    · exact keepsWatered_next h
    · exact keepsWatered_settled (by rw [Watered, lineView_speedDelivered]; exact h)

theorem keepsWatered_execTachTimeout (h : Watered s) : KeepsWatered (execTachTimeout s) := by
  unfold execTachTimeout
  split
  · exact keepsWatered_next h
  · exact keepsWatered_ite h fun _ => keepsWatered_settled (by rw [Watered, lineView_speedDelivered]; exact h)

theorem keepsWatered_execTransferOutTimeout (h : Watered s) (c : Ch) : KeepsWatered (execTransferOutTimeout c s) := by
  unfold execTransferOutTimeout
  split
  · exact keepsWatered_settled (by simpa [Watered] using h)
  · exact keepsWatered_next h

theorem keepsWatered_execTransferBackTimeout (h : Watered s) (c : Ch) :
    KeepsWatered (execTransferBackTimeout c s) := by
  unfold execTransferBackTimeout
  split
  · exact keepsWatered_settled (by simpa [Watered] using h)
  · exact keepsWatered_next h

theorem keepsWatered_execGiveUp (h : Watered s) (c : Ch) : KeepsWatered (execGiveUp c s) := by
  unfold execGiveUp
  split
  · exact keepsWatered_ite h fun _ => keepsWatered_settled (by simpa [Watered] using h)
  · exact keepsWatered_next h

theorem keepsWatered_execAgeMinute (h : Watered s) (p : Pos) : KeepsWatered (execAgeMinute p s) := by
  unfold execAgeMinute
  split
  · exact keepsWatered_ite h fun _ => keepsWatered_next h
  · split
    · exact keepsWatered_ite h fun _ => keepsWatered_settled (by simpa [Watered] using h)
    · exact keepsWatered_next h

/-- The two entries to DOSING act in PRIMING and in PAUSE (R139, R142). -/
theorem keepsWatered_enterDosing (h : Watered s) {c : Prop} [Decidable c]
    (hstage : c → s.line.stage = .priming ∨ s.line.stage = .pause) :
    KeepsWatered (if c then settled (enterDosing s) else .next s) :=
  keepsWatered_ite h fun hc => keepsWatered_settled
    (watered_enterDosing h ((dispensing_iff _).2 ((hstage hc).imp_right .inr)))

theorem keepsWatered_execManualDoseEnd (h : Watered s) : KeepsWatered (execManualDoseEnd s) := by
  unfold execManualDoseEnd
  split
  · exact keepsWatered_ite h fun _ => keepsWatered_next h
  · exact keepsWatered_next h

theorem keepsWatered_execNotice (h : Watered s) : KeepsWatered (execNotice s) := by
  refine keepsWatered_ite h fun _ => ?_
  split
  · split <;> exact keepsWatered_next h
  · exact keepsWatered_next h

theorem keepsWatered_execLogRecord (h : Watered s) : KeepsWatered (execLogRecord s) := by
  unfold execLogRecord; dsimp only
  split
  · exact keepsWatered_next h
  split
  · exact keepsWatered_next h
  · split <;> exact keepsWatered_next h

theorem keepsWatered_execLogEnd (h : Watered s) : KeepsWatered (execLogEnd s) := by
  unfold execLogEnd
  split
  · exact keepsWatered_next h
  · split <;> exact keepsWatered_next h

/-! #### Requests with their rules written in the command -/

theorem keepsWatered_execUnknownKind (h : Watered s) : KeepsWatered (execUnknownKind s) := by
  unfold execUnknownKind
  exact keepsWatered_report h _ _ fun _ _ => rfl

theorem keepsWatered_execIdentify (h : Watered s) : KeepsWatered (execIdentify s) := by
  unfold execIdentify
  exact keepsWatered_reportKind h _ _ fun _ _ => rfl

theorem keepsWatered_execSetClock (h : Watered s) : KeepsWatered (execSetClock s) := by
  unfold execSetClock
  exact keepsWatered_reportKind h _ _ fun _ _ => rfl

theorem keepsWatered_execReadTemperatureDetail (h : Watered s) : KeepsWatered (execReadTemperatureDetail s) := by
  unfold execReadTemperatureDetail
  exact keepsWatered_report h _ _ fun _ _ => rfl

theorem keepsWatered_execReadPlant (h : Watered s) : KeepsWatered (execReadPlant s) := by
  unfold execReadPlant
  exact keepsWatered_reportKind h _ _ fun _ _ => rfl

theorem keepsWatered_execClearConditions (h : Watered s) : KeepsWatered (execClearConditions s) := by
  unfold execClearConditions
  exact keepsWatered_report h _ _ fun _ f => lineView_serveClearConditions f

theorem keepsWatered_execReadTemperatures (h : Watered s) : KeepsWatered (execReadTemperatures s) := by
  unfold execReadTemperatures
  exact keepsWatered_report h _ _ fun _ _ => by split <;> rfl

theorem keepsWatered_execReadQueue (h : Watered s) : KeepsWatered (execReadQueue s) := by
  unfold execReadQueue
  exact keepsWatered_reportKind h _ _ fun _ _ => by dsimp only; split <;> rfl

theorem keepsWatered_execReadHeld (h : Watered s) : KeepsWatered (execReadHeld s) := by
  unfold execReadHeld
  exact keepsWatered_report h _ _ fun _ _ => by split <;> rfl

theorem keepsWatered_execReadHeldDetail (h : Watered s) : KeepsWatered (execReadHeldDetail s) := by
  unfold execReadHeldDetail
  exact keepsWatered_report h _ _ fun _ _ => by split <;> rfl

theorem keepsWatered_execReadWeak (h : Watered s) : KeepsWatered (execReadWeak s) := by
  unfold execReadWeak
  exact keepsWatered_reportKind h _ _ fun _ _ => by dsimp only; split <;> rfl

theorem keepsWatered_execReadConditions (h : Watered s) : KeepsWatered (execReadConditions s) := by
  unfold execReadConditions
  refine keepsWatered_reportKind h _ _ fun _ _ => ?_
  dsimp only
  split
  · rfl
  · split <;> rfl

/-! #### The whole table -/

/-- Every command keeps the law of the line's outputs. -/
theorem keepsWatered_exec (h : Watered s) (i : Instr) : KeepsWatered (exec i s) := by
  have hwhen : ∀ (c : Prop) [Decidable c] (t : State), Watered t → KeepsWatered (if c then settled t else .next s) :=
    fun c _ t ht => keepsWatered_ite h fun _ => keepsWatered_settled ht
  have hsame : ∀ t : State, t.lineView = s.lineView → Watered t := fun t ht => by rw [Watered, ht]; exact h
  cases i with
  | powerOn => exact keepsWatered_next (watered_afterReset s _)
  | resetN => exact keepsWatered_execResetN s
  | resetRelease => exact hwhen _ _ (by rw [Watered, lineView_initialTests, lineView_recoverRecords]; exact h)
  | ready => exact keepsWatered_ite h fun _ => keepsWatered_next h
  | sampleInstant levels =>
    exact keepsWatered_ite h fun _ => keepsWatered_next (watered_sampleInputs levels _ _ (s := sampleTick s) h)
  | slotStart => exact keepsWatered_ite h fun _ => keepsWatered_next h
  | scanCompletion cells => exact keepsWatered_execScanCompletion h cells
  | currentSample amps => exact hwhen _ _ (hsame _ (by rw [lineView_sampleCurrents, lineView_tickSecond]))
  | conversionCompletion gateTh gateRef => exact keepsWatered_execConversionCompletion h gateTh gateRef
  | flowPulse => exact hwhen _ _ (watered_linePulse (s := { s with flow := _ }) h)
  | flowRest => exact keepsWatered_next h
  | tachEdge atMicros => exact keepsWatered_execTachEdge h atMicros
  | tachTimeout => exact keepsWatered_execTachTimeout h
  | hourRollover p => exact hwhen _ _ (hsame _ (lineView_hourRollover s p))
  | grantCountdown => exact hwhen _ _ (watered_recomputeSurplus (s := { s with supply := _ }) h)
  | minuteEvaluation => exact hwhen _ _ h
  | transferOutTimeout c => exact keepsWatered_execTransferOutTimeout h c
  | transferBackTimeout c => exact keepsWatered_execTransferBackTimeout h c
  | rampStep c => exact hwhen _ _ (hsame _ (lineView_rampStep s c))
  | holdMinute c => exact hwhen _ _ (hsame _ (lineView_holdMinute s c))
  | settleEnd c => exact hwhen _ _ (watered_settleEnd h c)
  | giveUp c => exact keepsWatered_execGiveUp h c
  | ageMinute p => exact keepsWatered_execAgeMinute h p
  | runOnExpiry => exact hwhen _ _ (hsame _ (by simp))
  | lowSpeedExpiry => exact hwhen _ _ (watered_ventFails h)
  | recoveryExpiry => exact hwhen _ _ (hsame _ (lineView_ventRecovers s))
  | purgeEnd => exact hwhen _ _ (hsame _ (by simp))
  | graceExpiry => exact hwhen _ _ (watered_deliverCause (s := s.modPerm _) h _ _)
  | primingEnd => exact keepsWatered_enterDosing h fun hc => .inl hc.1
  | primeTimeout => exact hwhen _ _ (watered_closeLine h _)
  | flowStop => exact hwhen _ _ (watered_closeLine h _)
  | pauseEnd => exact keepsWatered_enterDosing h fun hc => .inr hc.1
  | closingEnd => exact keepsWatered_ite h fun hc => keepsWatered_settled (watered_closingEnd h hc.1)
  | manualDoseEnd => exact keepsWatered_execManualDoseEnd h
  | notice => exact keepsWatered_execNotice h
  | logRecord => exact keepsWatered_execLogRecord h
  | logEnd => exact keepsWatered_execLogEnd h
  | messageSent => exact keepsWatered_next h
  | frameReceived byte => exact keepsWatered_ite h fun _ => keepsWatered_next (hsame _ (lineView_completeFrame s byte))
  | unknownKind => exact keepsWatered_execUnknownKind h
  | identify => exact keepsWatered_execIdentify h
  | readStatus => exact keepsWatered_reportKind h _ _ fun _ f => lineView_readStatusReply f
  | setClock => exact keepsWatered_execSetClock h
  | readString => exact keepsWatered_reportKind h _ _ fun _ f => lineView_readStringReply f
  | readCells => exact keepsWatered_reportKind h _ _ fun _ f => lineView_readCellsReply f
  | readTemperatures => exact keepsWatered_execReadTemperatures h
  | readTemperatureDetail => exact keepsWatered_execReadTemperatureDetail h
  | readPlant => exact keepsWatered_execReadPlant h
  | setSetting => exact keepsWatered_reportKind h _ _ fun _ f => lineView_serveSetSetting f
  | storeWriteEnd => exact keepsWatered_ite h fun _ => keepsWatered_next h
  | readSetting => exact keepsWatered_reportKind h _ _ fun _ f => lineView_readSettingReply f
  | submitRound => exact keepsWatered_reportKind h _ _ fun _ f => lineView_serveSubmitRound f
  | cancelRound => exact keepsWatered_serveKind h _ _ fun _ f ht => watered_serveCancelRound ht f
  | readQueue => exact keepsWatered_execReadQueue h
  | readHeld => exact keepsWatered_execReadHeld h
  | readHeldDetail => exact keepsWatered_execReadHeldDetail h
  | supplyGrant => exact keepsWatered_serveKind h _ _ fun _ f ht => watered_serveSupplyGrant ht f
  | claimLine => exact keepsWatered_serveKind h _ _ fun _ f ht => watered_serveClaimLine ht f
  | releaseLine => exact keepsWatered_serveKind h _ _ fun _ f ht => watered_serveReleaseLine ht f
  | manualDose => exact keepsWatered_serveKind h _ _ fun _ f ht => watered_serveManualDose ht f
  | refill => exact keepsWatered_reportKind h _ _ fun _ f => lineView_serveRefill f
  | readWeak => exact keepsWatered_execReadWeak h
  | clearWeak => exact keepsWatered_reportKind h _ _ fun _ f => lineView_serveClearWeak f
  | releaseLock => exact keepsWatered_reportKind h _ _ fun _ f => lineView_serveReleaseLock f
  | setNoticeMaster => exact keepsWatered_reportKind h _ _ fun _ f => lineView_serveSetNoticeMaster f
  | readConditions => exact keepsWatered_execReadConditions h
  | clearConditions => exact keepsWatered_execClearConditions h
  | readLog => exact keepsWatered_reportKind h _ _ fun _ f => lineView_serveReadLog f
  | stopLog => exact keepsWatered_reportKind h _ _ fun _ _ => rfl
  | restart => exact keepsWatered_serveKind h _ _ fun _ f ht => watered_serveRestart ht f
  | finalStep =>
    exact hwhen _ _ (by
      rw [Watered, lineView_initialTests, lineView_recoverRecords]; exact watered_restartReset _)
  | receivedByte byte => exact keepsWatered_ite h fun _ => keepsWatered_next (hsame _ (lineView_framerByte s byte))

/-- Every step keeps the law of the line's outputs. -/
theorem keepsWatered_step (h : Watered s) : KeepsWatered (step s) := by
  unfold step
  split
  next i rest _ => exact keepsWatered_exec (s := { s with pending := rest }) h i
  next =>
    refine keepsWatered_next ?_
    rcases passTime_cases s with hsame | ⟨-, hmoved⟩
    · rw [hsame]; exact h
    · rw [hmoved]; exact h

end

/-- Settles O57: every command opens a valve or runs the pump only with the stage that asks for it. -/
theorem lineOutputsAreKept : Obligations.LineOutputsAreKept := fun s t h hstep =>
  (lineOutputs_iff t).2 (keepsWatered_step ((lineOutputs_iff s).1 h) t hstep)

end Sys2Proof.Machine
end

-- ==== Proofs: the stages of a watering ====
section
/-! PROOFS. The timed stage changes of a watering, and its endings by time and by RES_LOW (O38). -/

namespace Sys2Proof.Machine

open Sys2Proof.Safety

section
variable (s : State)

/-! ### Stage entries (R137, R139) -/

/-- The line of a new dose (R139). -/
def doseBegun (s : State) : State :=
  { s with
    line := { s.line with stage := .dosing, timer := 0, doses := s.line.doses + 1, doseMl := 0 }
    out := { s.out with pump := true } }

/-- A dose below the 256th begins (R139). -/
theorem enterDosing_of_count (hdoses : s.line.doses < 255) : enterDosing s = doseBegun s := by
  simp [enterDosing, countDose, hdoses, doseBegun, setPump, State.modLine]

/-- A watering closed with an outcome, its string's valve CLOSED (R137). -/
def lineClosed (s : State) (p : Pos) (o : Outcome) : State :=
  { s with
    line := { s.line with stage := .closing, timer := 0, outcome := some o }
    out := { s.out with pump := false, valve := s.out.valve.set p .closed } }

/-- The end of a watering of a string (R137). -/
theorem closeLine_of_string (p : Pos) (o : Outcome) (hstring : s.line.string = some p) :
    closeLine s o = lineClosed s p o := by
  rw [← closeLine_frame, closeLine_out s o p hstring]
  rfl

/-- The outcome of a failed priming is the probe's (R141). -/
theorem primeOutcome_of_string (p : Pos) (hstring : s.line.string = some p) :
    primeOutcome s = if presents s (.level p) = .inactive then .alreadyFull else .blocked := by
  simp only [primeOutcome, hstring]

/-- The flow-stop age of a watering that has had a pulse (R141). -/
theorem flowStopAge_of_flow (r : Nat) (hflow : s.line.flowRef = some r) :
    flowStopAge s = s.base.runSec - max r (s.base.runSec - s.line.timer) := by
  simp only [flowStopAge, hflow, Option.getD_some]

/-! ### RES_LOW (R144) -/

/-- RES_LOW does nothing at a line that dispenses nothing (R144). -/
theorem lineResLow_of_idle (h : s.line.stage.dispensing = false) : lineResLow s = s := by simp [lineResLow, h]

/-- The latch of a watering that ends RESERVOIR_EMPTY (R144, R171). -/
def emptyLatch (s : State) (p : Pos) : LatchDetail :=
  { string := p.num, value := s.line.ml, captured := s.inp.resLow.captured, time := s.stamp, again := 0,
    pending := true }

/-- A watering ended RESERVOIR_EMPTY, with its event latched (R144). -/
def lineEmptied (s : State) (p : Pos) : State :=
  { lineClosed s p .reservoirEmpty with
    latches := { s.latches with reservoirEmpty := some (emptyLatch s p) } }

/-- RES_LOW ends a watering RESERVOIR_EMPTY with its event (R144). -/
theorem lineResLow_of_dispensing (p : Pos) (hlow : presents s .resLow = .active)
    (hstage : s.line.stage.dispensing = true) (hstring : s.line.string = some p)
    (hlatch : s.latches.reservoirEmpty = none) : lineResLow s = lineEmptied s p := by
  have hends : lineResLow s = endReservoirEmpty s := by simp [lineResLow, hlow, hstage]
  have hvalue : (s.line.string.map Pos.num).getD 0 = p.num := by rw [hstring]; rfl
  rw [hends, endReservoirEmpty, hvalue, event_of_clear s .reservoirEmpty _ _ _ hlatch]
  exact closeLine_of_string _ p _ hstring

/-- A RES_LOW delivery settles with the line as it left it, where no round is a candidate (R13, R144). -/
theorem settle_resLow (k : DeliveryKind) (t : State) (hline : lineResLow s = t) (hsettled : Settled t)
    (hnone : NoCandidates t) : settle (deliver s .resLow k) = t := by
  have hdelivered : deliver s .resLow k = (lineResLow s).wantAdmission := rfl
  rw [hdelivered, hline]
  exact settle_wantAdmission t hsettled hnone

end

/-- Settles O38: each row's time has come, and RES_LOW's delivery ends a watering that dispenses. -/
theorem lineStagesAreTimed : Obligations.LineStagesAreTimed := by
  refine ⟨fun s hstage htimer hdoses hsettled => ?_, fun s hstage htimer hdoses hsettled => ?_,
    fun s p hstage hstring hdry htimer hsettled => ?_, fun s p r hstage hstring hflow href hage hsettled => ?_,
    fun s levels k hphase hsettled hnone honly => ⟨fun p hstage hstring hlatch => ?_, fun hidle => ?_⟩⟩
  · have hexec : exec .primingEnd s = settled (enterDosing s) := if_pos ⟨hstage, htimer⟩
    rw [hexec, enterDosing_of_count s hdoses]
    exact settled_of_settled (doseBegun s) hsettled
  · have hexec : exec .pauseEnd s = settled (enterDosing s) := if_pos ⟨hstage, htimer⟩
    rw [hexec, enterDosing_of_count s hdoses]
    exact settled_of_settled (doseBegun s) hsettled
  · have hexec : exec .primeTimeout s = settled (closeLine s (primeOutcome s)) := if_pos ⟨hstage, hdry, htimer⟩
    rw [hexec, closeLine_of_string s p _ hstring, primeOutcome_of_string s p hstring]
    exact settled_of_settled (lineClosed s p _) hsettled
  · have hexec : exec .flowStop s = settled (closeLine s .filled) :=
      if_pos ⟨hstage, hflow, by rw [flowStopAge_of_flow s r href]; exact hage⟩
    rw [hexec, closeLine_of_string s p _ hstring]
    exact settled_of_settled (lineClosed s p _) hsettled
  · obtain ⟨n, hcaptured, hn, hresult⟩ :=
      execSampleInstant_of_onlyAccepts s levels .resLow k .active hphase honly
    have hlow : presents (acceptedAt s n) .resLow = .active := (hn .resLow).trans (if_pos rfl)
    have hemptied : lineResLow (acceptedAt s n) = lineEmptied (acceptedAt s n) p :=
      lineResLow_of_dispensing (acceptedAt s n) p hlow hstage hstring hlatch
    obtain ⟨n', hexec, hsamples⟩ :=
      hresult _ (settle_resLow (acceptedAt s n) k _ hemptied hsettled hnone) rfl
    refine ⟨_, hexec, ⟨hsamples, rfl⟩, ?_⟩
    have hlevel : n.resLow.captured = (n'.get .resLow).captured := by rw [hsamples, ← hcaptured]; rfl
    dsimp only
    rw [← hlevel]
    rfl
  · refine sampleInstant_of_delivery s s levels .resLow k _ hphase honly fun n hn => ?_
    exact settle_resLow (acceptedAt s n) k _ (lineResLow_of_idle (acceptedAt s n) hidle) hsettled hnone

end Sys2Proof.Machine
end

-- ==== Proofs: the end of CLOSING and the pulses ====
section
/-! PROOFS. The hand-on at the end of CLOSING (O39), and the volume tests of a pulse in DOSING (O40). -/

namespace Sys2Proof.Machine

open Sys2Proof.Safety

/-! ### The end of CLOSING (R147, R152) -/

section
variable (s : State)

/-- The line given back with nobody waiting; its counters and its outcome stand (R147, assumption 11). -/
def lineFreed : State :=
  { s with
    line :=
      { s.line with
        stage := .free, owner := none, string := none, identity := none, dose := none, timer := 0
        claimEnded := false } }

/-- With nobody waiting the line becomes FREE and asks for an evaluation (R147). -/
theorem lineNext_of_nobody (h : s.line.waiting = []) : lineNext s = (lineFreed s).wantAdmission := lineNext_free s h

/-- The record of the standalone round that ends on the line (R147, R158). -/
def lineRecord (p : Pos) (i : RoundIdentity) (o : Outcome) : Record :=
  waterRecord s p i o { ml := s.line.ml, doses := s.line.doses, outcome := o }

/-- A standalone round ended: its string FLOAT and its record written (R147, R161). -/
def lineRoundEnded (p : Pos) (i : RoundIdentity) (o : Outcome) : State :=
  writeRecord (s.modSit p fun t => { t with role := .float, assigned := none }) (lineRecord s p i o)

/-- Outside a Restart a standalone round ends with the line's outcome (R147). -/
theorem endLineRound_of_round (p : Pos) (i : RoundIdentity) (o : Outcome) (hstring : s.line.string = some p)
    (hidentity : s.line.identity = some i) (houtcome : s.line.outcome = some o) (hrunning : s.restartAt = none) :
    endLineRound s = lineRoundEnded s p i o := by
  have hresult : lineResult s = { ml := s.line.ml, doses := s.line.doses, outcome := o } := by
    rw [lineResult, houtcome]; rfl
  have hquiet : restarting (s.modSit p fun t => { t with role := .float, assigned := none }) = false := by
    simp [restarting, hrunning]
  unfold endLineRound
  rw [hstring, hidentity]
  dsimp only
  rw [hquiet, hresult]
  rfl

/-- The line in MANUAL again, with the string, the dose and the counters cleared (R147). -/
def manualLine : Line :=
  { s.line with
    stage := .manual, string := none, dose := none, ml := 0, pulses := 0, doses := 0, doseMl := 0, timer := 0 }

/-- The message that reports the manual dose on the line (R152). -/
def lineDoseEnd (p : Pos) (d : ManualDose) (o : Outcome) : DoseEnd :=
  { tag := d.tag, string := p, target := d.target, ml := s.line.ml, pulses := s.line.pulses, outcome := o }

/-- A free place in the Outbound Queue (R181). -/
theorem freePlaces_pos (hroom : s.link.outbound.length < 8) : 0 < freePlaces s := by
  simp only [freePlaces, Config.outboundCap]
  omega

/-- A claimed line reports its dose while the Outbound Queue has room, and returns to MANUAL (R147, R152). -/
theorem closingEnd_of_dose (p : Pos) (d : ManualDose) (o : Outcome) (howner : s.line.owner = some .host)
    (hstring : s.line.string = some p) (hdose : s.line.dose = some d) (houtcome : s.line.outcome = some o)
    (hclaimed : s.line.claimEnded = false) (hroom : s.link.outbound.length < 8) :
    closingEnd s = { placeMessage s (doseEndFrame (lineDoseEnd s p d o)) with line := manualLine s } := by
  have hform : formDoseEnd s = some (lineDoseEnd s p d o) := by
    simp [formDoseEnd, hstring, hdose, houtcome, lineDoseEnd]
  have hplaced : handDoseEnd s (lineDoseEnd s p d o) = placeMessage s (doseEndFrame (lineDoseEnd s p d o)) :=
    if_pos (freePlaces_pos s hroom)
  have hstill : (placeMessage s (doseEndFrame (lineDoseEnd s p d o))).line.claimEnded = false := hclaimed
  unfold closingEnd
  rw [howner, hform]
  dsimp only
  rw [hplaced, hstill]
  rfl

end

/-- Settles O39: the round's record and the line's return, the dose's message, and the held message. -/
theorem closingHandsOn : Obligations.ClosingHandsOn := by
  refine ⟨fun s p i o hstage htimer howner hstring hidentity houtcome hnobody hrunning hnone hsettled => ?_,
    fun s p d o hstage htimer howner hstring hdose houtcome hclaimed hroom hsettled => ?_, fun s d hheld hroom => ?_⟩
  · have hended : closingEnd s = (lineFreed (lineRoundEnded s p i o)).wantAdmission := by
      rw [← lineNext_of_nobody (lineRoundEnded s p i o) hnobody,
        ← endLineRound_of_round s p i o hstring hidentity houtcome hrunning]
      simp only [closingEnd, howner]
    have hexec : exec .closingEnd s = .next (lineFreed (lineRoundEnded s p i o)) := by
      have hdue : exec .closingEnd s = settled (closingEnd s) := if_pos ⟨hstage, htimer⟩
      rw [hdue, hended, settled, settle_wantAdmission (lineFreed (lineRoundEnded s p i o)) hsettled hnone]
    refine ⟨_, hexec, rfl, rfl, rfl, ?_, rfl⟩
    exact List.getLast?_concat
  · have hexec : exec .closingEnd s = settled (closingEnd s) := if_pos ⟨hstage, htimer⟩
    rw [hexec, closingEnd_of_dose s p d o howner hstring hdose houtcome hclaimed hroom]
    exact settled_of_settled _ hsettled
  · have hexec : exec .manualDoseEnd s = execManualDoseEnd s := rfl
    rw [hexec, execManualDoseEnd, hheld]
    exact if_pos (freePlaces_pos s hroom)

/-! ### A pulse in DOSING (R140, R143, R137) -/

section
variable (s : State)

/-- A pulse taken from the account and counted toward the watering (R140, R153). -/
def pulseCounted : State := countPulse (setAccount s (s.reservoir.account - s.cfg.flowMlPerPulse))

/-- A pulse in DOSING advances the watering's counters and is its flow reference (R140, R141). -/
theorem pulseCounted_line (hstage : s.line.stage = .dosing) :
    (pulseCounted s).line =
      { s.line with
        pulses := min 65535 (s.line.pulses + 1), ml := min 65535 (s.line.ml + s.cfg.flowMlPerPulse)
        flowRef := some s.base.runSec, doseMl := min 65535 (s.line.doseMl + s.cfg.flowMlPerPulse) } := by
  unfold pulseCounted
  rw [← setAccount_frame]
  simp [countPulse, hstage, satAdd, Config.max16]

/-- A counted pulse leaves the histories, the outputs and the settings alone (R140). -/
theorem pulseCounted_kept :
    (pulseCounted s).hist = s.hist ∧ (pulseCounted s).out = s.out ∧ (pulseCounted s).cfg = s.cfg := by
  unfold pulseCounted
  rw [← setAccount_frame]
  exact ⟨rfl, rfl, rfl⟩

/-- A pulse in DOSING is counted and tested while the outcome is absent (R140). -/
theorem linePulse_of_dosing (hstage : s.line.stage = .dosing) (houtcome : s.line.outcome = none) :
    linePulse s = pulseTests (pulseCounted s) := by
  have hframe := setAccount_frame s (s.reservoir.account - s.cfg.flowMlPerPulse)
  have hwatering : (setAccount s (s.reservoir.account - s.cfg.flowMlPerPulse)).line.stage.watering = true := by
    rw [← hframe, hstage]; rfl
  have hopen : (pulseCounted s).line.outcome.isNone = true := by
    rw [pulseCounted_line s hstage, houtcome]; rfl
  unfold linePulse; dsimp only
  rw [if_pos hwatering]
  exact if_pos hopen

/-- The tests of a pulse change the line's stage, its timer and its outcome at most. -/
theorem pulseTests_line :
    { (pulseTests s).line with stage := s.line.stage, timer := s.line.timer, outcome := s.line.outcome } = s.line := by
  have hclosed : ∀ (t : State) (o : Outcome), t.line = s.line → { (closeLine t o).line with
      stage := s.line.stage, timer := s.line.timer, outcome := s.line.outcome } = s.line := by
    intro t o ht
    rw [← closeLine_frame, ht]
  unfold pulseTests overvolume
  split
  · split
    · exact hclosed s _ rfl
    · rfl
  split
  · split
    · rfl
    · exact hclosed _ _ rfl
  split <;> rfl

/-- A manual dose is tested against its target alone (R140). -/
theorem pulseTests_of_host (d : ManualDose) (howner : s.line.owner = some .host) (hdose : s.line.dose = some d) :
    pulseTests s = if d.target ≤ s.line.ml then closeLine s .delivered else s := by
  rw [pulseTests, if_pos howner, hdose]
  rfl

/-- A watering that reaches WATER_MAX_ML ends OVERVOLUME, with WATER_LOCK set and the event made (R143). -/
theorem pulseTests_of_full (p : Pos) (howner : s.line.owner ≠ some .host) (hstring : s.line.string = some p)
    (hfull : s.cfg.waterMaxMl ≤ s.line.ml) :
    pulseTests s = lineClosed ((setWaterLock s p).event .overvolume p.num s.line.ml none) p .overvolume := by
  rw [pulseTests, if_neg howner, if_pos hfull, overvolume, hstring]
  exact closeLine_of_string _ p _ hstring

/-- Below WATER_MAX_ML a full dose enters PAUSE (R140, R137). -/
theorem pulseTests_of_dose (howner : s.line.owner ≠ some .host) (hbelow : s.line.ml < s.cfg.waterMaxMl)
    (hstage : s.line.stage = .dosing) (hdose : s.cfg.doseMl ≤ s.line.doseMl) : pulseTests s = enterPause s := by
  rw [pulseTests, if_neg howner, if_neg (by omega), if_pos ⟨hstage, hdose⟩]

/-- Below WATER_MAX_ML and DOSE_ML a pulse ends nothing (R140). -/
theorem pulseTests_of_part (howner : s.line.owner ≠ some .host) (hbelow : s.line.ml < s.cfg.waterMaxMl)
    (hdose : s.line.doseMl < s.cfg.doseMl) : pulseTests s = s := by
  rw [pulseTests, if_neg howner, if_neg (by omega), if_neg (by omega)]

end

/-- Settles O40: the pulse is counted, and the tests of its owner read the new counters. -/
theorem pulsesMeetTheirTests : Obligations.PulsesMeetTheirTests := by
  rintro s p ml dose hstage hstring houtcome rfl rfl
  have hline := pulseCounted_line s hstage
  obtain ⟨hhist, hout, hcfg⟩ := pulseCounted_kept s
  have htests := pulseTests_line (pulseCounted s)
  rw [linePulse_of_dosing s hstage houtcome]
  generalize pulseCounted s = u at hline hhist hout hcfg htests ⊢
  have hml : u.line.ml = min 65535 (s.line.ml + s.cfg.flowMlPerPulse) := by rw [hline]
  have hdose : u.line.doseMl = min 65535 (s.line.doseMl + s.cfg.flowMlPerPulse) := by rw [hline]
  have hsame : u.line.stage = .dosing ∧ u.line.string = some p ∧ u.line.owner = s.line.owner
      ∧ u.line.outcome = none ∧ u.line.dose = s.line.dose := by
    rw [hline]; exact ⟨hstage, hstring, rfl, houtcome, rfl⟩
  obtain ⟨hstage', hstring', howner', houtcome', hdose'⟩ := hsame
  rw [← hml, ← hdose, ← hcfg, ← hhist, ← hout, ← howner', ← hdose']
  refine ⟨(congrArg Line.ml htests :), ?_, ?_, (congrArg Line.doseMl htests :), fun howner hfull => ?_,
    fun howner hbelow hfull => ?_, fun howner hbelow hpart => ?_, fun d howner hd => ?_⟩
  · exact (congrArg Line.pulses htests :).trans (by rw [hline])
  · exact (congrArg Line.flowRef htests :).trans (by rw [hline])
  · rw [pulseTests_of_full u p howner hstring' hfull]
    exact ⟨rfl, rfl, rfl, rfl⟩
  · rw [pulseTests_of_dose u howner hbelow hstage' hfull]
    exact ⟨rfl, houtcome', rfl, rfl⟩
  · rw [pulseTests_of_part u howner hbelow hpart]
    exact ⟨hstage', houtcome', rfl, rfl⟩
  · rw [pulseTests_of_host u d howner hd]
    refine ⟨fun hfull => ?_, fun hpart => ?_⟩
    · rw [if_pos hfull, closeLine_of_string u p _ hstring']
      exact ⟨rfl, rfl, rfl, rfl⟩
    · rw [if_neg (by omega)]
      exact ⟨hstage', rfl⟩

end Sys2Proof.Machine
end

-- ==== Proofs: the host's use of the line and its books ====
section
/-! PROOFS. Claim Line, Release Line and Manual Dose (O49); Refill, Clear Weak and Release Lock (O50). -/

namespace Sys2Proof.Machine

open Sys2Proof.Safety

/-! ### Replies once the frame is taken (R181) -/

/-- A reply placed on a settled state that the request's rule has changed beside the link. -/
theorem settled_reply (s t : State) (f : Frame) (rest : List Frame) (st : Status) (payload : List Byte)
    (hlink : t.link = (requestTaken s rest).link) (hbelow : f.kind.toNat < 128) (hsettled : Settled t) :
    settled (reply t f st payload) =
      .next { t with link := answered s rest (replyTo f (BitVec.ofNat 8 st.code) 0 payload) } := by
  rw [reply_link t f st payload hbelow, hlink]
  exact settled_of_settled _ hsettled

/-- A reply placed with an evaluation asked for, which finds no candidate (R80). -/
theorem settled_reply_wantAdmission (s t : State) (f : Frame) (rest : List Frame) (st : Status) (payload : List Byte)
    (hlink : t.link = (requestTaken s rest).link) (hbelow : f.kind.toNat < 128) (hsettled : Settled t)
    (hnone : NoCandidates t) :
    settled (reply t.wantAdmission f st payload) =
      .next { t with link := answered s rest (replyTo f (BitVec.ofNat 8 st.code) 0 payload) } := by
  have hadmit := settle_wantAdmission (reply t f st payload) hsettled hnone
  have hcomm : reply t.wantAdmission f st payload = (reply t f st payload).wantAdmission := rfl
  rw [settled, hcomm, hadmit, reply_link t f st payload hbelow, hlink]
  rfl

/-- A REFUSED reply to a request below KIND 0x80 (R178). -/
theorem settled_refuse (s : State) (f : Frame) (rest : List Frame) (r : Reason) (hbelow : f.kind.toNat < 128)
    (hsettled : Settled s) :
    settled (refuse (requestTaken s rest) f r) =
      .next { s with link := answered s rest (replyTo f 6 (BitVec.ofNat 8 r.code) []) } := by
  have hreply : replyFrame f .refused r.code [] = replyTo f 6 (BitVec.ofNat 8 r.code) [] := by
    simp [replyFrame, replyKind, replyTo, Nat.not_le.mpr hbelow, u8, Status.code]
  rw [refuse, hreply]
  exact settled_of_settled _ hsettled

/-- The status of a value that may have been clamped (R178). -/
theorem status_code_of_clamp (c : Prop) [Decidable c] :
    BitVec.ofNat 8 (if c then Status.ok else Status.clamped).code = if c then 0 else 1 := by
  split <;> rfl

/-- The state that a request finds is the one with its frame taken (R181). -/
theorem afterTaking_of_taking {s : State} {f : Frame} {rest : List Frame} (h : Taking s f rest) :
    afterTaking s = requestTaken s rest ∧ Settled s := by
  obtain ⟨-, -, -, hinbound, hsettled⟩ := h
  exact ⟨afterTaking_eq s f rest hinbound, hsettled⟩

/-! ### Claim Line, Release Line, Manual Dose (R149 to R151) -/

section
variable (s : State) (f : Frame)

/-- A line is claimed while the host owns it and its claim has not ended (R149, R150). -/
theorem lineClaimed_iff : lineClaimed s = true ↔ s.line.owner = some .host ∧ s.line.claimEnded = false := by
  simp [lineClaimed]

/-- A line is not claimed without the host as its owner, or once its claim has ended (R150). -/
theorem lineClaimed_false_iff :
    lineClaimed s = false ↔ s.line.owner ≠ some .host ∨ s.line.claimEnded = true := by
  rw [← Bool.not_eq_true, lineClaimed_iff, not_and_or, Bool.not_eq_false]

/-- While the hydrogen state is not clear the line is not claimed (R149). -/
theorem serveClaimLine_of_h2 (h : h2Clear s = false) : serveClaimLine s f = refuse s f .h2 := by
  simp [serveClaimLine, h]

/-- The line in the host's hands (R149). -/
def claimedLine : State := { s with line := { s.line with stage := .manual, owner := some .host, timer := 0 } }

/-- A FREE line is claimed (R149). -/
theorem serveClaimLine_of_free (h : h2Clear s = true) (hstage : s.line.stage = .free) :
    serveClaimLine s f = reply (claimedLine s) f .ok [0] := by
  rw [serveClaimLine, if_neg (by simp [h]), if_pos hstage]
  rfl

/-- A line that is claimed already is BUSY (R149). -/
theorem serveClaimLine_of_manual (h : h2Clear s = true) (hstage : s.line.stage = .manual)
    (hstring : s.line.string = none) (howner : s.line.owner = some .host) :
    serveClaimLine s f = reply s f .busy [1, 0, 0, 1, 3] := by
  rw [serveClaimLine, if_neg (by simp [h]), if_neg (by simp [hstage]), hstage, hstring, howner]
  rfl

/-- A line that is not claimed is not released (R150). -/
theorem serveReleaseLine_of_unclaimed (h : lineClaimed s = false) : serveReleaseLine s f = refuse s f .notOwner := by
  simp [serveReleaseLine, h]

/-- A claimed line in MANUAL that nobody waits for is given back (R150). -/
theorem serveReleaseLine_of_manual (hclaimed : lineClaimed s = true) (hstage : s.line.stage = .manual)
    (hnobody : s.line.waiting = []) :
    serveReleaseLine s f = reply (lineFreed s).wantAdmission f .ok [0] := by
  unfold serveReleaseLine; dsimp only
  rw [if_neg (by simp [hclaimed]), hstage]
  dsimp only
  rw [lineNext_of_nobody s hnobody]
  rfl

/-- The line with a manual dose taken and its string's valve open (R151, R138). -/
def doseTaken (p : Pos) (d : ManualDose) : State :=
  { s with
    line :=
      { s.line with
        stage := .priming, owner := some .host, string := some p, identity := none, dose := some d, ml := 0
        pulses := 0, doses := 0, doseMl := 0, outcome := none, timer := 0, flowRef := none }
    out := { s.out with valve := s.out.valve.set p .opened } }

/-- A claimed line's record after its release: the claim-ended mark was clear (R150). -/
theorem lineFreed_of_claimed (hclaim : s.line.claimEnded = false) :
    lineFreed s =
      { s with
        line :=
          { s.line with
            stage := .free, owner := none, string := none, identity := none, dose := none, timer := 0 } } := by
  simp only [lineFreed, hclaim]

/-- A manual dose leaves the line with the host (R151). -/
theorem doseTaken_of_host (p : Pos) (d : ManualDose) (howner : s.line.owner = some .host) :
    doseTaken s p d =
      { s with
        line :=
          { s.line with
            stage := .priming, string := some p, identity := none, dose := some d, ml := 0, pulses := 0
            doses := 0, doseMl := 0, outcome := none, timer := 0, flowRef := none }
        out := { s.out with valve := s.out.valve.set p .opened } } := by
  simp only [doseTaken, howner]

/-- A manual dose that passes every test is taken with its volume clamped (R151). -/
theorem serveManualDose_of_ready (p : Pos) (v : Nat) (hstring : Pos.ofNum (field f.body 0 1) = some p)
    (hvolume : field f.body 1 2 = v) (hclaimed : lineClaimed s = true) (hstage : s.line.stage = .manual)
    (hreported : s.line.pendingEnd = none) (h2 : h2Clear s = true) (hfitted : fitted s p = true)
    (hunlocked : (s.hist.get p).waterLock = none) (hlow : presents s .resLow ≠ .active) :
    serveManualDose s f =
      reply (doseTaken s p { tag := f.tag, target := clampVolume s v }) f
        (if clampVolume s v = v then .ok else .clamped) (u16 (clampVolume s v)) := by
  unfold serveManualDose; dsimp only
  rw [hstring, hvolume]
  dsimp only
  rw [if_neg (by simp [hclaimed]), if_neg (by simp [hstage, hreported]), if_neg (by simp [h2]),
    if_neg (by simp [hfitted]), if_neg (by simp [hunlocked]), lineTake_priming s .host p none _ hlow]
  rfl

end

/-- Settles O49: each request's tests pick its answer, and a released line leaves nothing to admit. -/
theorem hostUsesTheLine : Obligations.HostUsesTheLine := by
  intro s f rest htaking
  obtain ⟨htaken, hsettled⟩ := afterTaking_of_taking htaking
  refine ⟨fun hkind hbody => ?_, fun hkind hbody => ?_,
    fun p v w hkind hv hbody howner hclaim hstage hreported h2 hfitted hunlocked hlow hw => ?_⟩
  · have hbelow : f.kind.toNat < 128 := by rw [hkind]; decide
    have hexec : exec .claimLine s = settled (serveClaimLine (requestTaken s rest) f) :=
      htaken ▸ serveKind_taken s _ _ _ f rest htaking hkind (by rw [hbody]; rfl)
    rw [hexec]
    refine ⟨fun h2 => ?_, fun h2 hstage => ?_, fun h2 hstage hstring howner => ?_⟩
    · rw [serveClaimLine_of_h2 (requestTaken s rest) f h2]
      exact settled_refuse s f rest _ hbelow hsettled
    · rw [serveClaimLine_of_free (requestTaken s rest) f h2 hstage]
      exact settled_reply s (claimedLine (requestTaken s rest)) f rest _ _ rfl hbelow hsettled
    · rw [serveClaimLine_of_manual (requestTaken s rest) f h2 hstage hstring howner]
      exact settled_reply s (requestTaken s rest) f rest _ _ rfl hbelow hsettled
  · have hbelow : f.kind.toNat < 128 := by rw [hkind]; decide
    have hexec : exec .releaseLine s = settled (serveReleaseLine (requestTaken s rest) f) :=
      htaken ▸ serveKind_taken s _ _ _ f rest htaking hkind (by rw [hbody]; rfl)
    rw [hexec]
    refine ⟨fun hnot => ?_, fun howner hclaim hstage hnobody hnone => ?_⟩
    · rw [serveReleaseLine_of_unclaimed (requestTaken s rest) f ((lineClaimed_false_iff s).2 hnot)]
      exact settled_refuse s f rest _ hbelow hsettled
    · rw [serveReleaseLine_of_manual (requestTaken s rest) f ((lineClaimed_iff s).2 ⟨howner, hclaim⟩) hstage hnobody,
        lineFreed_of_claimed (requestTaken s rest) hclaim]
      exact settled_reply_wantAdmission s _ f rest _ _ rfl hbelow hsettled hnone
  · have hbelow : f.kind.toNat < 128 := by rw [hkind]; decide
    have hexec : exec .manualDose s = settled (serveManualDose (requestTaken s rest) f) :=
      htaken ▸ serveKind_taken s _ _ _ f rest htaking hkind (by rw [hbody]; rfl)
    have hstring : Pos.ofNum (field f.body 0 1) = some p := by rw [hbody]; cases p <;> rfl
    have hvolume : field f.body 1 2 = v := by rw [hbody]; exact field_u16 v hv
    subst hw
    rw [hexec, serveManualDose_of_ready (requestTaken s rest) f p v hstring hvolume
        ((lineClaimed_iff s).2 ⟨howner, hclaim⟩) hstage hreported h2 hfitted hunlocked hlow,
      doseTaken_of_host (requestTaken s rest) p _ howner, ← status_code_of_clamp]
    exact settled_reply s _ f rest _ _ rfl hbelow hsettled

/-! ### Refill, Clear Weak, Release Lock (R155, R169, R65) -/

/-- Four bytes of a body read back (R178). -/
theorem field_u32 (n : Nat) (h : n < 4294967296) : field (u32 n) 0 4 = n := by
  simp [field, u32, ofBytes]
  omega

section
variable (s : State) (f : Frame)

/-- A state with a new account, tested, and its latches (R153, R154). -/
def accountTested (w : Nat) (l : Latches) : State :=
  { s with reservoir := { account := w, low := decide (w < s.cfg.reservoirLowMl) }, latches := l }

/-- A new account may latch RESERVOIR_LOW, and no other condition (R153, R154). -/
theorem setAccount_eq_accountTested (w : Nat) :
    ∃ l : Latches, setAccount s w = accountTested s w l ∧ ∀ c, c ≠ .reservoirLow → l.get c = s.latches.get c :=
  ⟨(setAccount s w).latches, (setAccount_frame s w).symm, fun c hc => reservoirTest_latches_other _ c hc⟩

/-- Refill's rule for a volume (R155). -/
theorem serveRefill_of_volume (v : Nat) (hvolume : field f.body 0 4 = v) :
    serveRefill s f =
      reply (setAccount s (min v s.cfg.reservoirCapMl)).wantAdmission f
        (if min v s.cfg.reservoirCapMl = v then .ok else .clamped) (u32 (min v s.cfg.reservoirCapMl)) := by
  subst hvolume; rfl

/-- The weak cells that Clear Weak leaves, 0 standing for every string (R169). -/
def weakKept (n : Nat) : List WeakEntry :=
  s.weak.entries.filter fun e => decide (n ≠ 0) && decide (e.string.num ≠ n)

/-- The Weak Cell List after Clear Weak (R169). -/
def weakCleared (n : Nat) : State :=
  { s with weak :=
      { entries := weakKept s n
        gen := (s.weak.gen + (s.weak.entries.length - (weakKept s n).length)) % 256 } }

/-- Clear Weak's rule for a string's number or 0 (R169). -/
theorem serveClearWeak_of_number (n : Nat) (hnumber : field f.body 0 1 = n) (hn : n ≤ 8) :
    serveClearWeak s f =
      reply (weakCleared s n) f .ok (u8 (s.weak.entries.length - (weakKept s n).length)) := by
  have hkept : (s.weak.entries.filter fun e => !((n == 0) || (e.string.num == n))) = weakKept s n := by
    refine List.filter_congr fun e _ => ?_
    by_cases hzero : n = 0 <;> by_cases hown : e.string.num = n <;> simp [hzero, hown]
  unfold serveClearWeak
  rw [hnumber]
  dsimp only
  rw [if_neg (by omega), hkept]
  rfl

/-- The locks that a selector leaves: 0 names EQ_LOCK, 1 WATER_LOCK, 2 both (R65). -/
def locksReleased (p : Pos) (sel : Nat) : StringHistory :=
  { s.hist.get p with
    eqLock := if sel = 1 then (s.hist.get p).eqLock else none
    waterLock := if sel = 0 then (s.hist.get p).waterLock else none }

/-- Release Lock's rule for a fitted string that no lock is left on (R65). -/
theorem serveReleaseLock_of_fitted (p : Pos) (sel : Nat) (hstring : Pos.ofNum (field f.body 0 1) = some p)
    (hselector : field f.body 1 1 = sel) (hsel : sel ≤ 2) (hfitted : fitted s p = true)
    (heq : (locksReleased s p sel).eqLock = none) (hwater : (locksReleased s p sel).waterLock = none) :
    serveReleaseLock s f =
      reply { s with hist := s.hist.set p (locksReleased s p sel) } f .ok [0, 0, 0, 0] := by
  have hread : (s.modHist p fun _ => locksReleased s p sel).hist.get p = locksReleased s p sel := by simp
  unfold serveReleaseLock
  rw [hstring, hselector]
  dsimp only
  rw [if_neg (by omega), if_pos hfitted]
  change reply (s.modHist p fun _ => locksReleased s p sel) f .ok
    (opt 1 _ ((s.modHist p fun _ => locksReleased s p sel).hist.get p).eqLock
      ++ opt 1 _ ((s.modHist p fun _ => locksReleased s p sel).hist.get p).waterLock) = _
  rw [hread, heq, hwater]
  rfl

end

/-- Settles O50: the account, the list and the locks as each request's rule leaves them. -/
theorem hostKeepsTheBooks : Obligations.HostKeepsTheBooks := by
  intro s f rest htaking
  obtain ⟨htaken, hsettled⟩ := afterTaking_of_taking htaking
  refine ⟨fun v w hkind hv hbody hnone hw => ?_, fun n hkind hn hbody => ?_, fun p hkind hfitted => ?_⟩
  · have hbelow : f.kind.toNat < 128 := by rw [hkind]; decide
    have hexec : exec .refill s = settled (serveRefill (requestTaken s rest) f) :=
      htaken ▸ serveKind_taken s _ _ _ f rest htaking hkind (by rw [hbody]; rfl)
    have hvolume : field f.body 0 4 = v := by rw [hbody]; exact field_u32 v hv
    subst hw
    obtain ⟨l, haccount, hother⟩ := setAccount_eq_accountTested (requestTaken s rest) (min v s.cfg.reservoirCapMl)
    have hserved := serveRefill_of_volume (requestTaken s rest) f v hvolume
    rw [show (requestTaken s rest).cfg = s.cfg from rfl, haccount] at hserved
    rw [hexec, hserved, ← status_code_of_clamp]
    exact ⟨_, settled_reply_wantAdmission s (accountTested (requestTaken s rest) _ l) f rest _ _ rfl hbelow hsettled
      hnone, rfl, rfl, hother, rfl⟩
  · have hbelow : f.kind.toNat < 128 := by rw [hkind]; decide
    have hexec : exec .clearWeak s = settled (serveClearWeak (requestTaken s rest) f) :=
      htaken ▸ serveKind_taken s _ _ _ f rest htaking hkind (by rw [hbody]; rfl)
    have hnumber : field f.body 0 1 = n := by
      rw [hbody]
      simp [field, ofBytes]
      omega
    rw [hexec, serveClearWeak_of_number _ f n hnumber hn]
    exact ⟨_, settled_reply s (weakCleared (requestTaken s rest) n) f rest _ _ rfl hbelow hsettled, rfl, rfl, rfl, rfl⟩
  · have hbelow : f.kind.toNat < 128 := by rw [hkind]; decide
    have hreleased : ∀ sel, sel ≤ 2 → f.body = [BitVec.ofNat 8 p.num, BitVec.ofNat 8 sel] →
        (locksReleased s p sel).eqLock = none → (locksReleased s p sel).waterLock = none →
        exec .releaseLock s = .next
          { s with
            hist := s.hist.set p (locksReleased s p sel)
            link := answered s rest (replyTo f 0 0 [0, 0, 0, 0]) } := by
      intro sel hsel hbody heq hwater
      have hexec : exec .releaseLock s = settled (serveReleaseLock (requestTaken s rest) f) :=
        htaken ▸ serveKind_taken s _ _ _ f rest htaking hkind (by rw [hbody]; rfl)
      have hstring : Pos.ofNum (field f.body 0 1) = some p := by rw [hbody]; cases p <;> rfl
      have hselector : field f.body 1 1 = sel := by
        rw [hbody]
        simp [field, ofBytes]
        omega
      rw [hexec, serveReleaseLock_of_fitted (requestTaken s rest) f p sel hstring hselector hsel hfitted heq hwater]
      exact settled_reply s _ f rest _ _ rfl hbelow hsettled
    refine ⟨fun hbody => ?_, fun hbody heq => ?_, fun hbody hwater => ?_⟩
    · exact hreleased 2 (by decide) hbody rfl rfl
    · rw [hreleased 1 (by decide) hbody heq rfl]
      rfl
    · rw [hreleased 0 (by decide) hbody rfl hwater]
      rfl

end Sys2Proof.Machine
end

-- ==== Proofs: the log's seqs and the operations that write no record ====
section
/-! PROOFS. What the order of the log's seqs (R161) is a law of, the writing of a record, which keeps it, and the
operations of the blocks that write no record. One lemma per operation, in the order of the definitions. -/

namespace Sys2Proof.Machine

open Sys2Proof.Safety

/-! ### The order of the seqs and the writing of a record (R161) -/

/-- The seqs of a log's records run up to next_seq, in order, modulo 65,536 (R161). -/
def Log.InOrder (l : Log) : Prop :=
  l.nextSeq < 65536 ∧ l.ring.length ≤ 64
    ∧ ∀ k : Nat, k < l.ring.length →
        (l.ring[k]?).map (·.seq) = some ((l.nextSeq + 65536 - l.ring.length + k) % 65536)

/-- The log of a state is in order. -/
abbrev Numbered (s : State) : Prop := s.log.InOrder

/-- The law of the seqs looks at the log alone. -/
theorem seqsInOrder_iff (s : State) : SeqsInOrder s ↔ Numbered s := Iff.rfl

/-- A log that takes a record: the oldest of a full ring goes, the new one carries next_seq (R161). -/
def Log.append (l : Log) (r : Record) : Log :=
  { l with
    ring := l.ring.drop (l.ring.length + 1 - 64) ++ [{ r with seq := l.nextSeq }]
    nextSeq := (l.nextSeq + 1) % 65536 }

theorem writeRecord_eq_append (s : State) (r : Record) : (writeRecord s r).log = s.log.append r := rfl

/-- The records that a full ring keeps stand one place nearer to its start, as far from next_seq as before and the
new record makes it (R161). -/
theorem Log.InOrder.append {l : Log} (h : l.InOrder) (r : Record) : (l.append r).InOrder := by
  obtain ⟨hnext, hlength, hseqs⟩ := h
  have hkept : (l.ring.drop (l.ring.length + 1 - 64)).length = min l.ring.length 63 := by
    rw [List.length_drop]; omega
  have hring : (l.append r).ring.length = min l.ring.length 63 + 1 := by
    rw [Log.append, List.length_append, hkept, List.length_singleton]
  refine ⟨Nat.mod_lt _ (by decide), by omega, fun k hk => ?_⟩
  rw [hring] at hk ⊢
  show ((l.ring.drop (l.ring.length + 1 - 64) ++ [{ r with seq := l.nextSeq }])[k]?).map (·.seq)
    = some (((l.nextSeq + 1) % 65536 + 65536 - (min l.ring.length 63 + 1) + k) % 65536)
  rcases Nat.lt_or_ge k (min l.ring.length 63) with hold | hnew
  · rw [List.getElem?_append_left (by omega), List.getElem?_drop, hseqs _ (by omega)]
    congr 1
    omega
  · rw [List.getElem?_append_right (by omega), hkept, show k - min l.ring.length 63 = 0 by omega]
    simp only [List.getElem?_cons_zero, Option.map_some]
    congr 1
    omega

section
variable {s : State}

theorem numbered_writeRecord (h : Numbered s) (r : Record) : Numbered (writeRecord s r) := by
  rw [Numbered, writeRecord_eq_append]
  exact h.append r

/-- What is done to one item after another keeps the order. -/
theorem numbered_foldl {α : Type} (f : State → α → State) (hf : ∀ t a, Numbered t → Numbered (f t a))
    (l : List α) {s : State} (h : Numbered s) : Numbered (l.foldl f s) := by
  induction l generalizing s with
  | nil => exact h
  | cons a l ih => exact ih (hf s a h)

end

section
variable (s : State)

/-- What is done to one item after another without a record leaves the log alone. -/
theorem log_foldl {α : Type} (f : State → α → State) (hf : ∀ t a, (f t a).log = t.log) (l : List α) :
    (l.foldl f s).log = s.log := by
  induction l generalizing s with
  | nil => rfl
  | cons a l ih => rw [List.foldl_cons, ih, hf]

/-! ### Outputs, Site Permissions, stages -/

@[simp] theorem recomputeOnBus_log (p : Pos) : (recomputeOnBus s p).log = s.log := by rw [← recomputeOnBus_frame]
@[simp] theorem commandKf_log (p : Pos) (k : Contact) : (commandKf s p k).log = s.log := by rw [← commandKf_frame]
@[simp] theorem ventMonitor_log : (ventMonitor s).log = s.log := by rw [← ventMonitor_frame]
@[simp] theorem recomputeFan_log : (recomputeFan s).log = s.log := by rw [← recomputeFan_frame]
@[simp] theorem stageDelivered_log (st : Stage) : (stageDelivered s st).log = s.log := by
  rw [← stageDelivered_frame]
@[simp] theorem writeDirect_log (c : Ch) : (writeDirect s c).log = s.log := by rw [← writeDirect_frame]
@[simp] theorem writeHysteresis_log (c : Ch) : (writeHysteresis s c).log = s.log := by rw [← writeHysteresis_frame]
@[simp] theorem setStage_log (c : Ch) (st : Stage) : (setStage s c st).log = s.log := by rw [← setStage_frame]
@[simp] theorem computeFloat_log : (computeFloat s).log = s.log := by rw [computeFloat_eq]
@[simp] theorem disableChargers_log : (disableChargers s).log = s.log :=
  log_foldl s _ (fun t c => by split <;> rfl) _

/-! ### The lists and the link -/

@[simp] theorem removeEntries_log (p : Pos) : (removeEntries s p).log = s.log := rfl
@[simp] theorem offer_log (p : Pos) (k : Kind) (o : Origin) (tag : Byte) : (offer s p k o tag).1.log = s.log := by
  rw [← offer_frame]
@[simp] theorem removeHeld_log (e : Held) : (removeHeld s e).log = s.log := rfl
@[simp] theorem weakOffer_log (p : Pos) (cell deficit : Nat) : (weakOffer s p cell deficit).1.log = s.log := by
  rw [← weakOffer_frame]
@[simp] theorem reply_log (f : Frame) (st : Status) (l : List Byte) : (reply s f st l).log = s.log := rfl

/-! ### The line and the account -/

@[simp] theorem withdrawCall_log (c : Ch) : (withdrawCall s c).log = s.log := rfl
@[simp] theorem enterDosing_log : (enterDosing s).log = s.log := by unfold enterDosing countDose; split <;> rfl
@[simp] theorem closeLine_log (o : Outcome) : (closeLine s o).log = s.log := by rw [← closeLine_frame]
@[simp] theorem lineTake_log (o : Owner) (p : Pos) (i : Option RoundIdentity) (d : Option ManualDose) :
    (lineTake s o p i d).log = s.log := by
  rw [← lineTake_frame]
@[simp] theorem lineTakeCall_log (c : Ch) : (lineTakeCall s c).log = s.log := by rw [← lineTakeCall_frame]
@[simp] theorem lineNext_log : (lineNext s).log = s.log := by
  unfold lineNext; dsimp only
  split
  · exact lineTakeCall_log _ _
  · rfl
@[simp] theorem lineStop_log : (lineStop s).log = s.log := by
  unfold lineStop
  split
  · exact closeLine_log s _
  · rfl
@[simp] theorem lineHalt_log : (lineHalt s).log = s.log := by
  unfold lineHalt
  split
  · exact closeLine_log s _
  · rfl
@[simp] theorem reservoirTest_log : (reservoirTest s).log = s.log := by rw [← reservoirTest_frame]
@[simp] theorem setAccount_log (n : Nat) : (setAccount s n).log = s.log := by rw [setAccount, reservoirTest_log]
@[simp] theorem pulseTests_log : (pulseTests s).log = s.log := by
  unfold pulseTests overvolume
  split
  · split
    · exact closeLine_log s _
    · rfl
  split
  · split
    · rfl
    · simp [setWaterLock]
  · split <;> rfl
@[simp] theorem linePulse_log : (linePulse s).log = s.log := by
  unfold linePulse; dsimp only
  split
  · split
    · simp [countPulse]
    · simp [countPulse]
  · exact setAccount_log s _
@[simp] theorem lineResLow_log : (lineResLow s).log = s.log := by
  unfold lineResLow
  split
  · simp [endReservoirEmpty]
  · rfl
@[simp] theorem handDoseEnd_log (d : DoseEnd) : (handDoseEnd s d).log = s.log := by
  unfold handDoseEnd; split <;> rfl
@[simp] theorem restartLine_log : (restartLine s).log = s.log := by
  unfold restartLine; dsimp only
  split
  · split <;> simp
  · split <;> simp
  · split <;> simp
  · split <;> rfl
  · exact lineNext_log s
  · rfl

/-! ### The String Table -/

@[simp] theorem dueRise_log (p : Pos) : (dueRise s p).log = s.log := by
  unfold dueRise; dsimp only; split <;> simp
@[simp] theorem dueEvaluate_log (p : Pos) : (dueEvaluate s p).log = s.log := by
  unfold dueEvaluate
  split
  · split
    · rfl
    · exact dueRise_log s p
  · rfl
@[simp] theorem dueEvaluateAll_log : (dueEvaluateAll s).log = s.log :=
  log_foldl s _ (fun t p => by
    split
    · exact dueEvaluate_log t p
    · rfl) _
@[simp] theorem hourRollover_log (p : Pos) : (hourRollover s p).log = s.log := by simp [hourRollover]
@[simp] theorem throughputAdd_log (p : Pos) (v : Int) : (throughputAdd s p v).log = s.log := by
  unfold throughputAdd
  split
  · simp
  · rfl
@[simp] theorem levelDelivered_log (p : Pos) (k : DeliveryKind) : (levelDelivered s p k).log = s.log := by
  unfold levelDelivered; dsimp only
  split
  · split
    · split
      · simp
      · rfl
    · rfl
    · rfl
  · rfl
@[simp] theorem recomputeSense_log (p : Pos) : (recomputeSense s p).log = s.log := by rw [← recomputeSense_frame]
@[simp] theorem setEqLock_log (p : Pos) (r : EqLockReason) : (setEqLock s p r).log = s.log := rfl
@[simp] theorem markRoundOpen_log (p : Pos) (k : Kind) : (markRoundOpen s p k).log = s.log := rfl
@[simp] theorem historyUpdate_log (p : Pos) : (historyUpdate s p).log = s.log := rfl
@[simp] theorem enterIsolated_log (p : Pos) (r : Isolation) : (enterIsolated s p r).log = s.log := rfl
@[simp] theorem kfStuckTest_log (p : Pos) : (kfStuckTest s p).log = s.log := by
  unfold kfStuckTest; split <;> rfl
@[simp] theorem stringKf_log (p : Pos) : (stringKf s p).log = s.log := by simp [stringKf]
@[simp] theorem stringKe_log (p : Pos) : (stringKe s p).log = s.log := by
  unfold stringKe
  split
  · simp
  · rfl
@[simp] theorem removePosition_log (p : Pos) : (removePosition s p).log = s.log := by simp [removePosition]
@[simp] theorem addPosition_log (p : Pos) : (addPosition s p).log = s.log := by simp [addPosition]
@[simp] theorem changeFitted_log (n : Nat) : (changeFitted s n).log = s.log := by
  unfold changeFitted; dsimp only
  rw [log_foldl, log_foldl]
  · intro t p
    split
    · exact removePosition_log t p
    · rfl
  · intro t p
    split
    · exact addPosition_log t p
    · rfl

/-! ### Ramp, hold, the transfer out -/

@[simp] theorem keepFinalCell_log (c : Ch) : (keepFinalCell s c).log = s.log := by
  unfold keepFinalCell; split <;> rfl
@[simp] theorem cutFlags_log (c : Ch) (defer : Bool) : (cutFlags s c defer).log = s.log := rfl
@[simp] theorem contactorFault_log (c : Ch) (p : Pos) (k : Contactor) (l : Option Level) :
    (contactorFault s c p k l).log = s.log := rfl
@[simp] theorem askStop_log (c : Ch) : (askStop s c).log = s.log := by
  unfold askStop
  split
  · rfl
  · simp
@[simp] theorem targetTest_log (c : Ch) : (targetTest s c).log = s.log := by
  unfold targetTest enterHold; dsimp only
  split
  · split
    · simp
    · rfl
  · rfl
@[simp] theorem enterRamp_log (c : Ch) : (enterRamp s c).log = s.log := by simp [enterRamp]
@[simp] theorem rampStep_log (c : Ch) : (rampStep s c).log = s.log := by simp [rampStep]
@[simp] theorem finish_log (c : Ch) (o : Outcome) : (finish s c o).log = s.log := by
  unfold finish
  split
  · rfl
  · simp
@[simp] theorem screenCell_log (c : Ch) (p : Pos) (mean cell mv : Nat) :
    (screenCell s c p mean cell mv).log = s.log := by
  unfold screenCell; dsimp only
  split
  · split <;> simp
  · rfl
@[simp] theorem screenFrom_log (c : Ch) (p : Pos) (mean n : Nat) (l : List CellEntry) :
    (screenFrom c p mean n l s).log = s.log := by
  induction l generalizing n s with
  | nil => rfl
  | cons e l ih => rw [screenFrom, ih, screenCell_log]
@[simp] theorem screenCells_log (c : Ch) (p : Pos) : (screenCells s c p).log = s.log := by
  unfold screenCells
  split
  · exact screenFrom_log s c p _ _ _
  · rfl
@[simp] theorem holdLimitTest_log (c : Ch) : (holdLimitTest s c).log = s.log := by
  unfold holdLimitTest
  split
  · rfl
  split
  · exact finish_log s c _
  · rfl
@[simp] theorem chargeSample_log (c : Ch) (amps : Eight Int) : (chargeSample s c amps).log = s.log := by
  unfold chargeSample; dsimp only
  split
  · rfl
  split
  · split
    · simp
    · rfl
  · rfl
@[simp] theorem holdback_log (c : Ch) (x : Context) : (holdback s c x).log = s.log := by simp [holdback]
@[simp] theorem recomputeComp_log (p : Pos) : (recomputeComp s p).log = s.log := by
  unfold recomputeComp; dsimp only
  split
  · simp
  · rfl
@[simp] theorem outStep4_log (c : Ch) : (outStep4 s c).log = s.log := by
  unfold outStep4; dsimp only
  split
  · rfl
  · split <;> simp
@[simp] theorem outStep3_log (c : Ch) : (outStep3 s c).log = s.log := by
  unfold outStep3; dsimp only
  split
  · rfl
  · split <;> simp
@[simp] theorem outStep2_log (c : Ch) : (outStep2 s c).log = s.log := by
  unfold outStep2; dsimp only
  split
  · rfl
  · split <;> simp
@[simp] theorem giveChannel_log (c : Ch) (x : Context) : (giveChannel s c x).log = s.log := by
  simp [giveChannel, startTransferOut]

/-! ### Round Admission (R88, R89) -/

/-- An admission begins a round, and writes no record. -/
@[simp] theorem admitEntry_log (e : Entry) : (admitEntry s e).log = s.log := by
  unfold admitEntry giveLine; dsimp only
  split
  · simp
  all_goals split <;> simp
@[simp] theorem admitHeld_log (e : Held) : (admitHeld s e).log = s.log := by
  unfold admitHeld
  split
  · simp
  · rfl
@[simp] theorem evaluatePasses_log (n : Nat) : (evaluatePasses n s).log = s.log := by
  induction n generalizing s with
  | zero => rfl
  | succ n ih =>
    unfold evaluatePasses
    split
    · rw [ih, admitHeld_log]
    · rw [ih, admitEntry_log]
    · rfl
@[simp] theorem evaluate_log : (evaluate s).log = s.log := by
  unfold evaluate
  split
  · rfl
  · exact evaluatePasses_log s _

/-! ### Seconds, settings, the framer, the initial tests -/

@[simp] theorem sampleCurrents_log (dA : Eight Int) : (sampleCurrents s dA).log = s.log := by
  rw [sampleCurrents_eq, chargeSample_log, chargeSample_log, log_foldl _ _ fun t p => throughputAdd_log t p _]
  rfl
@[simp] theorem completeAmbient_log (nTh nRef : Nat) : (completeAmbient s nTh nRef).log = s.log := by
  have hall := log_foldl (ambientStored s nTh nRef)
    (fun s p => if ambientConcerns s p then recomputeComp s p else s) (fun t p => by split <;> simp) Pos.all
  have hdone : ∀ t : State, (cycleDone t).log = t.log := fun _ => rfl
  rw [completeAmbient_eq, hdone, computeFloat_log, hall]
  rfl
@[simp] theorem setpointsChanged_log (floatToo : Bool) : (setpointsChanged s floatToo).log = s.log := by
  have hall : (Pos.all.foldl recomputeComp s).log = s.log := log_foldl s _ recomputeComp_log _
  unfold setpointsChanged; dsimp only
  split
  · rw [computeFloat_log, hall]
  · exact hall
@[simp] theorem completeFrame_log (b : Byte) : (completeFrame s b).log = s.log := by
  unfold completeFrame; dsimp only
  split
  · rfl
  · split <;> rfl
@[simp] theorem framerByte_log (b : Byte) : (framerByte s b).log = s.log := by
  unfold framerByte; dsimp only
  split
  · split <;> rfl
  · split
    · rfl
    · split <;> rfl
  · rfl
  · split
    · exact completeFrame_log s b
    · rfl
@[simp] theorem initialTests_log : (initialTests s).log = s.log := by
  rw [initialTests, reservoirTest_log, dueEvaluateAll_log]

end

end Sys2Proof.Machine
end

-- ==== Proofs: every command keeps the order of the log's seqs ====
section
/-! PROOFS. The operations that can end a round, and so write a record, keep the seqs in order, and so does every step
(O58). -/

namespace Sys2Proof.Machine

open Sys2Proof.Safety

section
variable {s : State}

/-! ### The return to the load bus -/

/-- A round that ends on a channel writes its record (R116). -/
theorem numbered_endRound (h : Numbered s) (c : Ch) (x : Context) (failed : Bool) :
    Numbered (endRound s c x failed) := by
  unfold endRound; dsimp only
  rw [Numbered, stageDelivered_log, writeDirect_log]
  refine numbered_writeRecord ?_ _
  split
  · simpa [Numbered] using h
  · exact h

theorem numbered_suspension (h : Numbered s) (c : Ch) (x : Context) (cause : Cause) :
    Numbered (suspension s c x cause) := by
  unfold suspension; dsimp only
  split
  · exact numbered_endRound (s := s.event ..) h c _ _
  split
  · exact numbered_endRound h c _ _
  · simpa [Numbered] using h

theorem numbered_backComplete (h : Numbered s) (c : Ch) : Numbered (backComplete s c) := by
  have hstopped : Numbered (stopWait s c) := h
  unfold backComplete; dsimp only
  split
  · exact hstopped
  split
  · exact hstopped
  split
  · exact numbered_suspension hstopped c _ _
  all_goals exact numbered_endRound hstopped c _ _

theorem numbered_backStep4 (h : Numbered s) (c : Ch) : Numbered (backStep4 s c) := by
  unfold backStep4
  split
  · exact h
  · exact numbered_backComplete (s := commandKs s _ .a) h c

theorem numbered_backStep3 (h : Numbered s) (c : Ch) : Numbered (backStep3 s c) := by
  unfold backStep3; dsimp only
  split
  · exact h
  next p _ =>
    have hcommanded : Numbered (commandKf s p .closed) := by simpa [Numbered] using h
    split
    · split
      · exact numbered_backStep4 hcommanded c
      · exact hcommanded
    · exact numbered_backStep4 h c

theorem numbered_backStep2 (h : Numbered s) (c : Ch) : Numbered (backStep2 s c) := by
  unfold backStep2; dsimp only
  split
  · exact h
  split
  · split
    · exact numbered_backStep3 (s := commandKe s _ .opened) h c
    · exact h
  · exact numbered_backStep3 h c

theorem numbered_enterBack (h : Numbered s) (c : Ch) (e : Exit) : Numbered (enterBack s c e) :=
  numbered_backStep2 (by simpa [Numbered] using h) c

/-! ### Aborts, cuts, suspending causes -/

theorem numbered_abortRound (h : Numbered s) (c : Ch) (o : Outcome) : Numbered (abortRound s c o) :=
  numbered_enterBack (by simpa [Numbered] using h) c _

theorem numbered_cutRound (h : Numbered s) (c : Ch) (defer h2 : Bool) : Numbered (cutRound s c defer h2) := by
  unfold cutRound; dsimp only
  split
  · exact numbered_enterBack (s := cutFlags s c defer) h c _
  · split
    · split
      · exact h
      · split
        · exact h
        · simpa [Numbered] using h
    · exact numbered_enterBack (s := cutFlags (withdrawCall s c) c defer) h c _
  · exact h

theorem numbered_readingCause (h : Numbered s) (c : Ch) (o : Outcome) : Numbered (readingCause s c o) := by
  unfold readingCause
  split
  next => exact numbered_abortRound h c o
  next => exact numbered_abortRound h c o
  next => exact numbered_abortRound h c o
  next => exact numbered_cutRound h c _ _
  next => exact numbered_cutRound h c _ _
  next => exact h
  next => exact h

theorem numbered_suspendingCause (h : Numbered s) (c : Ch) (cause : Cause) :
    Numbered (suspendingCause s c cause) := by
  have hback : Numbered (enterBack (keepFinalCell s c) c (.suspended cause)) :=
    numbered_enterBack (by simpa [Numbered] using h) c _
  unfold suspendingCause
  split
  next => exact hback
  next => exact hback
  next => exact hback
  next => exact numbered_cutRound h c _ _
  next => exact numbered_cutRound h c _ _
  next => exact h
  next => exact h

theorem numbered_deliverCause (h : Numbered s) (cause : Cause) (concerns : Stage → Bool) :
    Numbered (deliverCause s cause concerns) :=
  numbered_foldl _ (fun t c ht => by
    split
    · exact numbered_suspendingCause ht c cause
    · exact ht) _ h

/-! ### Hold, the readings of the held string -/

/-- A window's end may abort the round for a runaway (R51, R100). -/
theorem numbered_windowEnd (h : Numbered s) (c : Ch) : Numbered (windowEnd s c) := by
  unfold windowEnd runawayAbort; dsimp only
  split
  · exact h
  split
  · simpa [Numbered] using h
  · split
    · exact numbered_abortRound (by simpa [Numbered] using h) c _
    split
    · simpa [Numbered] using h
    · simpa [Numbered] using h

theorem numbered_holdWindow (h : Numbered s) (c : Ch) : Numbered (holdWindow s c) := by
  unfold holdWindow; dsimp only
  split
  · exact h
  split
  · split <;> exact numbered_windowEnd h c
  · exact h

theorem numbered_holdMinute (h : Numbered s) (c : Ch) : Numbered (holdMinute s c) := by
  rw [holdMinute, Numbered, holdLimitTest_log]
  exact numbered_holdWindow (s := s.modCtx c _) h c

theorem numbered_channelScan (h : Numbered s) (p : Pos) : Numbered (channelScan s p) := by
  have hlimit : ∀ (c : Ch) (x : Context) (mv : Nat),
      Numbered (if s.cfg.cellMaxMv < mv then holdback s c x else s) := by
    intro c x mv
    split
    · simpa [Numbered] using h
    · exact h
  unfold channelScan
  split
  · exact h
  split
  · split
    · exact numbered_readingCause h _ _
    · split
      · exact hlimit _ _ _
      · exact hlimit _ _ _
      all_goals exact h
  · exact h

theorem numbered_channelPilot (h : Numbered s) (p : Pos) : Numbered (channelPilot s p) := by
  unfold channelPilot; dsimp only
  split
  · exact h
  split
  · split
    · exact numbered_readingCause (by simpa [Numbered] using h) _ _
    · exact h
  · split
    · exact numbered_readingCause h _ _
    · exact h

/-! ### Contactor feedback, timeouts -/

theorem numbered_disagreement (h : Numbered s) (c : Ch) (p : Pos) (k : Contactor) (l : Option Level) :
    Numbered (disagreement s c p k l) := by
  unfold disagreement
  split
  · split
    · split
      · exact h
      · simpa [Numbered] using h
    · exact numbered_abortRound (s := contactorFault (withdrawCall s c) c p k l) h c _
  · exact numbered_abortRound (s := contactorFault s c p k l) h c _

theorem numbered_nextStep (h : Numbered s) (c : Ch) (k : Contactor) : Numbered (nextStep s c k) := by
  have hstopped : Numbered (stopWait s c) := h
  unfold nextStep; dsimp only
  split
  · rw [Numbered, outStep3_log]; exact hstopped
  · rw [Numbered, outStep4_log]; exact hstopped
  · rw [Numbered, enterRamp_log]; exact hstopped
  · exact numbered_backStep3 hstopped c
  · exact numbered_backStep4 hstopped c
  · exact hstopped

theorem numbered_channelFeedback (h : Numbered s) (p : Pos) (k : Contactor) (l : Option Level) :
    Numbered (channelFeedback s p k l) := by
  unfold channelFeedback; dsimp only
  split
  · exact h
  split
  · split
    · exact numbered_nextStep h _ k
    · exact h
  · split
    · exact numbered_disagreement h _ p k l
    · exact h

theorem numbered_outTimeout (h : Numbered s) (c : Ch) (k : Contactor) : Numbered (outTimeout s c k) := by
  unfold outTimeout
  split
  · exact h
  · exact numbered_abortRound (s := contactorFault s c _ k none) h c _

/-- A return that fails ends its round (R115). -/
theorem numbered_backTimeout (h : Numbered s) (c : Ch) (k : Contactor) : Numbered (backTimeout s c k) := by
  unfold backTimeout; dsimp only
  split
  · exact h
  · exact numbered_endRound (by simpa [Numbered] using h) c _ _

/-! ### Settle, water, a Restart -/

theorem numbered_enterWater (h : Numbered s) (c : Ch) : Numbered (enterWater s c) := by
  unfold enterWater; dsimp only
  split
  · exact h
  split
  · exact numbered_enterBack h c _
  · split <;> simpa [Numbered] using h

theorem numbered_settleEnd (h : Numbered s) (c : Ch) : Numbered (settleEnd s c) := by
  unfold settleEnd
  split
  · exact h
  split
  · exact numbered_enterWater h c
  · exact numbered_enterBack h c _

theorem numbered_giveUp (h : Numbered s) (c : Ch) : Numbered (giveUp s c) :=
  numbered_enterBack (by simpa [Numbered] using h) c _

theorem numbered_lineReturn (h : Numbered s) (c : Ch) (w : WaterResult) : Numbered (lineReturn s c w) := by
  unfold lineReturn; dsimp only
  split
  · exact h
  next k _ =>
    generalize ht : (s.modCtx c _).modChan c _ = t
    have hpopped : Numbered t := by rw [← ht]; exact h
    split
    · split
      · exact numbered_backComplete hpopped c
      · exact hpopped
    · exact numbered_enterBack hpopped c _

theorem numbered_restartChannel (h : Numbered s) (c : Ch) : Numbered (restartChannel s c) := by
  have habort : ∀ waits : Bool,
      Numbered (abortRound (if waits = true then withdrawCall s c else s) c .interrupted) := by
    intro waits
    refine numbered_abortRound ?_ c _
    split <;> exact h
  unfold restartChannel; dsimp only
  split
  · exact h
  · exact h
  all_goals exact habort _

/-! ### Site Permissions and the settling of a step -/

theorem numbered_recomputeSurplus (h : Numbered s) : Numbered (recomputeSurplus s) := by
  unfold recomputeSurplus surplusLost; dsimp only
  split
  · exact h
  split
  · exact h
  split
  · exact h
  split
  · exact numbered_deliverCause (by exact h) _ _
  · exact h

theorem numbered_h2Start (h : Numbered s) : Numbered (h2Start s) := by
  have hcause : Numbered (deliverCause (disableChargers (s.modPerm fun p => { p with h2Active := true })) .h2
      Stage.active) :=
    numbered_deliverCause (by simpa [Numbered] using h) _ _
  simpa [h2Start, Numbered] using hcause

theorem numbered_h2Delivered (h : Numbered s) : Numbered (h2Delivered s) := by
  unfold h2Delivered
  split
  · split
    · exact h
    · exact numbered_h2Start h
  · split
    · simpa [purgeStart, Numbered] using h
    · exact h
  · exact h

theorem numbered_ventFails (h : Numbered s) : Numbered (ventFails s) :=
  numbered_deliverCause (by simpa [Numbered] using h) _ _

/-- A reserve test may suspend the channel that yields (R127). -/
theorem numbered_reserveTest (h : Numbered s) : Numbered (reserveTest s) := by
  unfold reserveTest; dsimp only
  split
  · exact h
  · generalize ht : (if s.perm.breach = true then s else _) = t
    have hbreach : Numbered t := by
      rw [← ht]
      split <;> exact h
    split
    · exact hbreach
    · split
      · exact numbered_suspendingCause hbreach _ _
      · exact hbreach

theorem numbered_settleWith (n : Nat) (h : Numbered s) : Numbered (settleWith n s) := by
  induction n generalizing s with
  | zero => exact h
  | succ n ih =>
    unfold settleWith
    split
    · exact ih (numbered_reserveTest (s := { s with due := { s.due with reserve := false } }) h)
    · split
      · exact ih (by simpa [Numbered] using h)
      · exact h

theorem numbered_settle (h : Numbered s) : Numbered (settle s) := numbered_settleWith 16 h

/-! ### Rounds that end held or on the line -/

/-- A held round that ends writes its record (R131, R133). -/
theorem numbered_endHeld (h : Numbered s) (e : Held) (o : Outcome) : Numbered (endHeld s e o) :=
  numbered_writeRecord (s := (removeHeld s e).modSit _ _) h _

theorem numbered_expireHeld (h : Numbered s) (e : Held) (why : Expiry) : Numbered (expireHeld s e why) :=
  numbered_endHeld (s := s.event ..) h e _

theorem numbered_interruptHeld (h : Numbered s) : Numbered (interruptHeld s) :=
  numbered_foldl _ (fun _ e ht => numbered_endHeld ht e _) _ h

theorem numbered_suspendMaxLowered (h : Numbered s) : Numbered (suspendMaxLowered s) :=
  numbered_foldl _ (fun t e ht => by
    split
    · exact numbered_expireHeld ht e _
    · exact ht) _ h

theorem numbered_heldMinute (h : Numbered s) (e : Held) : Numbered (heldMinute s e) := by
  unfold heldMinute; dsimp only
  split
  · exact numbered_expireHeld (by exact h) _ _
  · exact h

/-- A standalone watering that ends writes its record (R147). -/
theorem numbered_endLineRound (h : Numbered s) : Numbered (endLineRound s) := by
  unfold endLineRound; dsimp only
  split
  · exact numbered_writeRecord (s := s.modSit _ _) h _
  · exact h

theorem numbered_closingEnd (h : Numbered s) : Numbered (closingEnd s) := by
  unfold closingEnd; dsimp only
  split
  · rw [Numbered, lineNext_log]; exact numbered_endLineRound h
  · rw [Numbered, lineNext_log]; exact numbered_lineReturn h _ _
  · split <;> split <;> simpa [backToManual, Numbered] using h
  · rw [Numbered, lineNext_log]; exact h

/-! ### Samples, scans, conversions -/

theorem numbered_deliver (h : Numbered s) (i : InputId) (k : DeliveryKind) : Numbered (deliver s i k) := by
  unfold deliver; dsimp only
  split
  next p => exact numbered_channelFeedback (s := stringKf s p) (by simpa [Numbered] using h) p .kf _
  next p => exact numbered_channelFeedback (s := stringKe s p) (by simpa [Numbered] using h) p .ke _
  next p => exact numbered_channelFeedback h p .ks _
  next p => rw [Numbered, levelDelivered_log]; exact h
  next => exact numbered_recomputeSurplus h
  next => exact numbered_h2Delivered h
  next => simpa [Numbered] using h

theorem numbered_sampleInput (h : Numbered s) (i : InputId) (l : Level) : Numbered (sampleInput s i l) := by
  unfold sampleInput; dsimp only
  split
  · exact numbered_settle (numbered_deliver (by exact h) i _)
  · exact h

theorem numbered_sampleInputs (levels : BitVec 35) (l : List InputId) (n : Nat) (h : Numbered s) :
    Numbered (sampleInputs levels n l s) := by
  induction l generalizing n s with
  | nil => exact h
  | cons i l ih => exact ih (n + 1) (numbered_sampleInput h i _)

theorem numbered_completeScan (h : Numbered s) (p : Pos) (mvs : List Nat) : Numbered (completeScan s p mvs) := by
  rw [completeScan_eq]
  refine numbered_channelScan ?_ p
  rw [Numbered, recomputeSense_log]
  exact h

theorem numbered_completePilot (h : Numbered s) (p : Pos) (nTh nRef : Nat) :
    Numbered (completePilot s p nTh nRef) := by
  refine numbered_channelPilot (s := recomputeSense (recomputeComp (pilotStored s p nTh nRef) p) p) ?_ p
  rw [Numbered, recomputeSense_log, recomputeComp_log]
  exact h

/-! ### The requests' rules -/

theorem numbered_submitTests (h : Numbered s) (f : Frame) (b : Submission) (k : Kind) (c : RoundClass) (p : Pos) :
    Numbered (submitTests s f b k c p) := by
  unfold submitTests; dsimp only
  split
  · exact h
  split
  · exact h
  split
  · exact h
  split
  · exact h
  split <;> exact h

theorem numbered_serveSubmitRound (h : Numbered s) (f : Frame) : Numbered (serveSubmitRound s f) := by
  unfold serveSubmitRound; dsimp only
  split
  · split
    · exact h
    split
    · exact h
    split
    · exact h
    · exact numbered_submitTests h f _ _ _ _
  · exact h

theorem numbered_cancelOnChannel (h : Numbered s) (f : Frame) (c : Ch) : Numbered (cancelOnChannel s f c) := by
  unfold cancelOnChannel
  split
  · exact h
  · exact h
  all_goals exact numbered_readingCause (s := cancelReply s f .ok .activeChannel) h c _

theorem numbered_cancelHeld (h : Numbered s) (f : Frame) (p : Pos) : Numbered (cancelHeld s f p) := by
  unfold cancelHeld; dsimp only
  split
  · exact numbered_endHeld (s := cancelReply s f .ok .held) h _ _
  · exact h

theorem numbered_cancelOnLine (h : Numbered s) (f : Frame) : Numbered (cancelOnLine s f) := by
  unfold cancelOnLine
  split
  · rw [Numbered, closeLine_log]; exact h
  · exact h

theorem numbered_serveCancelRound (h : Numbered s) (f : Frame) : Numbered (serveCancelRound s f) := by
  unfold serveCancelRound
  split
  · exact h
  split
  · exact h
  · exact h
  · exact numbered_cancelHeld h f _
  · split
    · exact numbered_cancelOnChannel h f _
    · exact h
  · exact numbered_cancelOnLine h f

theorem numbered_serveSupplyGrant (h : Numbered s) (f : Frame) : Numbered (serveSupplyGrant s f) :=
  numbered_recomputeSurplus (s := { s with supply := _ }) h

theorem numbered_serveClaimLine (h : Numbered s) (f : Frame) : Numbered (serveClaimLine s f) := by
  unfold serveClaimLine
  split
  · exact h
  split <;> exact h

theorem numbered_serveReleaseLine (h : Numbered s) (f : Frame) : Numbered (serveReleaseLine s f) := by
  unfold serveReleaseLine; dsimp only
  split
  · exact h
  · rw [Numbered, reply_log]
    split <;> simpa using h

theorem numbered_serveManualDose (h : Numbered s) (f : Frame) : Numbered (serveManualDose s f) := by
  unfold serveManualDose; dsimp only
  split
  · exact h
  split
  · exact h
  split
  · exact h
  split
  · exact h
  split
  · exact h
  split
  · exact h
  · rw [Numbered, reply_log, lineTake_log]; exact h

theorem numbered_serveRefill (h : Numbered s) (f : Frame) : Numbered (serveRefill s f) := by
  rw [serveRefill, Numbered, reply_log, wantAdmission_log, setAccount_log]; exact h

theorem numbered_serveClearWeak (h : Numbered s) (f : Frame) : Numbered (serveClearWeak s f) := by
  unfold serveClearWeak; dsimp only
  split <;> exact h

theorem numbered_serveReleaseLock (h : Numbered s) (f : Frame) : Numbered (serveReleaseLock s f) := by
  unfold serveReleaseLock; dsimp only
  split
  · exact h
  split
  · exact h
  split <;> exact h

theorem numbered_serveSetNoticeMaster (h : Numbered s) (f : Frame) : Numbered (serveSetNoticeMaster s f) := by
  unfold serveSetNoticeMaster; dsimp only
  split <;> exact h

theorem numbered_serveClearConditions (h : Numbered s) (f : Frame) : Numbered (serveClearConditions s f) := by
  unfold serveClearConditions; dsimp only
  split
  · exact h
  · rw [Numbered, reply_log, log_foldl _ relatch fun _ c => by cases c <;> rfl, log_foldl _ clearLatch fun _ _ => rfl]
    exact h

/-- A transfer reads the ring and leaves it as it is (R164). -/
theorem numbered_serveReadLog (h : Numbered s) (f : Frame) : Numbered (serveReadLog s f) := by
  unfold serveReadLog; dsimp only
  split
  · exact h
  split
  · exact h
  split <;> exact h

/-- A Restart ends the held rounds, and takes the channels to their return (R190). -/
theorem numbered_serveRestart (h : Numbered s) (f : Frame) : Numbered (serveRestart s f) := by
  rw [serveRestart, Numbered, restartLine_log]
  exact numbered_restartChannel (numbered_restartChannel
    (numbered_interruptHeld (s := { reply s f .ok [] with restartAt := _ }) h) .a) .b

theorem numbered_applySetting (h : Numbered s) (i : SettingId) (v : Nat) : Numbered (applySetting s i v) := by
  have hset : Numbered (setWorking s i v) := h
  have hpoints : ∀ floatToo, Numbered (setpointsChanged (setWorking s i v) floatToo) := fun floatToo => by
    rw [Numbered, setpointsChanged_log]; exact hset
  have hdue : Numbered (dueEvaluateAll (setWorking s i v)) := by rw [Numbered, dueEvaluateAll_log]; exact hset
  unfold applySetting; dsimp only
  split
  next => rw [Numbered, changeFitted_log]; exact h
  next => exact hset
  next => exact hpoints _
  next => exact hpoints _
  next => exact hpoints _
  next => exact hpoints _
  next => exact hpoints _
  next => exact numbered_foldl _ (fun t c ht => by split <;> exact ht) _ hset
  next => exact numbered_foldl _ (fun t c ht => by split <;> exact ht) _ hset
  next => exact numbered_suspendMaxLowered hset
  next => exact hset
  next => exact hset
  next => exact hset
  next => rw [Numbered, ventMonitor_log]; exact hset
  next => rw [Numbered, setAccount_log]; exact hset
  next => rw [Numbered, reservoirTest_log]; exact hset
  next => exact hdue
  next => exact hdue
  next => exact numbered_foldl _ (fun t i ht => by split <;> exact ht) _ hset
  all_goals exact hset

theorem numbered_serveSetSetting (h : Numbered s) (f : Frame) : Numbered (serveSetSetting s f) := by
  unfold serveSetSetting acceptSetting; dsimp only
  split
  · exact h
  split
  · exact h
  split
  · exact h
  · rw [Numbered, reply_log]
    split
    · exact h
    · exact numbered_applySetting (s := { s with store := { s.store with defaulted := false } }) h _ _

/-! ### Resets and start-up -/

/-- A reset keeps the ring and next_seq (R161). -/
theorem numbered_afterReset (h : Numbered s) (store : Store) : Numbered (afterReset s store) := h

theorem numbered_recoverRecords (h : Numbered s) : Numbered (recoverRecords s) :=
  numbered_foldl _ (fun t p ht => by
    split
    · exact numbered_writeRecord ht _
    · exact ht) _ h

theorem numbered_owedByChannel (h : Numbered s) (c : Ch) : Numbered (owedByChannel s c) := by
  unfold owedByChannel
  split
  · exact h
  split
  · exact numbered_writeRecord h _
  · exact h

theorem numbered_owedByLine (h : Numbered s) : Numbered (owedByLine s) := by
  unfold owedByLine
  split
  · exact numbered_writeRecord h _
  · exact h

/-- Initialisation writes the records of the markers that stand (R162, R189). -/
theorem numbered_initialised (h : Numbered s) : Numbered (initialTests (recoverRecords s)) := by
  rw [Numbered, initialTests_log]
  exact numbered_recoverRecords h

/-! ### Commands -/

/-- A command's answer has the log in order. -/
def KeepsNumbered (o : Host.Outcome State Fault Refusal) : Prop := ∀ t, o = .next t → Numbered t

theorem keepsNumbered_next (h : Numbered s) : KeepsNumbered (.next s) := by
  rintro t ⟨⟩
  exact h

theorem keepsNumbered_settled (h : Numbered s) : KeepsNumbered (settled s) := keepsNumbered_next (numbered_settle h)

/-- A command that acts on a condition, and otherwise changes nothing. -/
theorem keepsNumbered_ite {c : Prop} [Decidable c] {o : Host.Outcome State Fault Refusal} (h : Numbered s)
    (hact : KeepsNumbered o) : KeepsNumbered (if c then o else .next s) := by
  split
  · exact hact
  · exact keepsNumbered_next h

/-- A request is served by a rule that keeps the order (R181, R182). -/
theorem keepsNumbered_serve (h : Numbered s) (mine : Frame → Bool) (fits : Nat → Bool)
    {act : State → Frame → State} (hact : ∀ t f, Numbered t → Numbered (act t f)) :
    KeepsNumbered (serve s mine fits act) := by
  unfold serve
  split
  · exact keepsNumbered_next h
  split
  · split
    · exact keepsNumbered_next h
    · split
      · exact keepsNumbered_settled (hact _ _ h)
      · exact keepsNumbered_next h
  · exact keepsNumbered_next h

theorem keepsNumbered_serveKind (h : Numbered s) (kind : Byte) (n : Nat) {act : State → Frame → State}
    (hact : ∀ t f, Numbered t → Numbered (act t f)) : KeepsNumbered (serveKind s kind n act) :=
  keepsNumbered_serve h _ _ hact

/-! #### Events and timed rows -/

theorem keepsNumbered_execResetN (h : Numbered s) : KeepsNumbered (execResetN s) := by
  obtain ⟨n, store, hreset, -⟩ := execResetN_cases s
  rw [hreset]
  exact keepsNumbered_next (numbered_afterReset (s := { s with freeDrawn := n }) h store)

theorem keepsNumbered_execResetRelease (h : Numbered s) : KeepsNumbered (execResetRelease s) :=
  keepsNumbered_ite h (keepsNumbered_settled
    (numbered_initialised (s := loadSettings { s with phase := .initialising }) h))

/-- The final step writes the records owed before it resets the part (R163, R190). -/
theorem keepsNumbered_execFinalStep (h : Numbered s) : KeepsNumbered (execFinalStep s) := by
  have howed : Numbered (owedByLine (owedByChannel (owedByChannel s .a) .b)) :=
    numbered_owedByLine (numbered_owedByChannel (numbered_owedByChannel h .a) .b)
  exact keepsNumbered_ite h (keepsNumbered_settled
    (numbered_initialised (s := restartReset (owedByLine (owedByChannel (owedByChannel s .a) .b))) howed))

theorem keepsNumbered_execScanCompletion (h : Numbered s) (mvs : List Nat) :
    KeepsNumbered (execScanCompletion mvs s) := by
  unfold execScanCompletion
  split
  · exact keepsNumbered_ite h (keepsNumbered_settled (numbered_completeScan h _ mvs))
  · exact keepsNumbered_next h

theorem keepsNumbered_execCurrentSample (h : Numbered s) (dA : Eight Int) :
    KeepsNumbered (execCurrentSample dA s) :=
  keepsNumbered_ite h (keepsNumbered_settled (by rw [Numbered, sampleCurrents_log]; exact h))

theorem keepsNumbered_execConversionCompletion (h : Numbered s) (gateTh gateRef : Nat) :
    KeepsNumbered (execConversionCompletion gateTh gateRef s) := by
  refine keepsNumbered_ite h ?_
  have hticked : Numbered (conversionTick s) := h
  dsimp only
  split
  · exact keepsNumbered_settled (numbered_completePilot hticked _ _ _)
  · exact keepsNumbered_settled (by rw [Numbered, completeAmbient_log]; exact hticked)

theorem keepsNumbered_execFlowPulse (h : Numbered s) : KeepsNumbered (execFlowPulse s) :=
  keepsNumbered_ite h (keepsNumbered_settled (by rw [Numbered, linePulse_log]; exact h))

/-- A speed delivery reaches the vent monitor alone (R122). -/
theorem numbered_speedDelivered (h : Numbered s) (rpm : Nat) : Numbered (speedDelivered s rpm) := by
  rw [speedDelivered, Numbered, ventMonitor_log]
  exact h

theorem keepsNumbered_execTachEdge (h : Numbered s) (n : Nat) : KeepsNumbered (execTachEdge n s) := by
  refine keepsNumbered_ite h ?_
  split
  · exact keepsNumbered_next h
  · dsimp only
    split
    · exact keepsNumbered_next h
    · exact keepsNumbered_settled (numbered_speedDelivered (by exact h) _)

theorem keepsNumbered_execTachTimeout (h : Numbered s) : KeepsNumbered (execTachTimeout s) := by
  unfold execTachTimeout
  split
  · exact keepsNumbered_next h
  · exact keepsNumbered_ite h (keepsNumbered_settled (numbered_speedDelivered (by exact h) _))

theorem keepsNumbered_execTransferOutTimeout (h : Numbered s) (c : Ch) :
    KeepsNumbered (execTransferOutTimeout c s) := by
  unfold execTransferOutTimeout
  split
  · exact keepsNumbered_settled (numbered_outTimeout (s := atLeastMs s _) h c _)
  · exact keepsNumbered_next h

theorem keepsNumbered_execTransferBackTimeout (h : Numbered s) (c : Ch) :
    KeepsNumbered (execTransferBackTimeout c s) := by
  unfold execTransferBackTimeout
  split
  · exact keepsNumbered_settled (numbered_backTimeout (s := atLeastMs s _) h c _)
  · exact keepsNumbered_next h

theorem keepsNumbered_execGiveUp (h : Numbered s) (c : Ch) : KeepsNumbered (execGiveUp c s) := by
  unfold execGiveUp
  split
  · exact keepsNumbered_ite h (keepsNumbered_settled (numbered_giveUp h c))
  · exact keepsNumbered_next h

theorem keepsNumbered_execAgeMinute (h : Numbered s) (p : Pos) : KeepsNumbered (execAgeMinute p s) := by
  unfold execAgeMinute
  split
  · exact keepsNumbered_ite h (keepsNumbered_next h)
  · split
    · exact keepsNumbered_ite h (keepsNumbered_settled (numbered_heldMinute h _))
    · exact keepsNumbered_next h

/-! #### Messages -/

theorem keepsNumbered_execManualDoseEnd (h : Numbered s) : KeepsNumbered (execManualDoseEnd s) := by
  unfold execManualDoseEnd
  split
  · exact keepsNumbered_ite h (keepsNumbered_next h)
  · exact keepsNumbered_next h

theorem keepsNumbered_execNotice (h : Numbered s) : KeepsNumbered (execNotice s) := by
  refine keepsNumbered_ite h ?_
  split
  · split <;> exact keepsNumbered_next h
  · exact keepsNumbered_next h

theorem keepsNumbered_execLogRecord (h : Numbered s) : KeepsNumbered (execLogRecord s) := by
  unfold execLogRecord; dsimp only
  split
  · exact keepsNumbered_next h
  split
  · exact keepsNumbered_next h
  · split <;> exact keepsNumbered_next h

theorem keepsNumbered_execLogEnd (h : Numbered s) : KeepsNumbered (execLogEnd s) := by
  unfold execLogEnd
  split
  · exact keepsNumbered_next h
  · split <;> exact keepsNumbered_next h

/-! #### The requests that report -/

theorem keepsNumbered_execUnknownKind (h : Numbered s) : KeepsNumbered (execUnknownKind s) := by
  unfold execUnknownKind
  exact keepsNumbered_serve h _ _ fun _ _ ht => ht

theorem keepsNumbered_execIdentify (h : Numbered s) : KeepsNumbered (execIdentify s) := by
  unfold execIdentify
  exact keepsNumbered_serveKind h _ _ fun _ _ ht => ht

theorem keepsNumbered_execReadStatus (h : Numbered s) : KeepsNumbered (execReadStatus s) := by
  unfold execReadStatus readStatusReply
  exact keepsNumbered_serveKind h _ _ fun _ _ ht => by split <;> exact ht

theorem keepsNumbered_execSetClock (h : Numbered s) : KeepsNumbered (execSetClock s) := by
  unfold execSetClock
  exact keepsNumbered_serveKind h _ _ fun _ _ ht => ht

theorem keepsNumbered_execReadString (h : Numbered s) : KeepsNumbered (execReadString s) := by
  unfold execReadString readStringReply
  exact keepsNumbered_serveKind h _ _ fun _ _ ht => by split <;> exact ht

theorem keepsNumbered_execReadCells (h : Numbered s) : KeepsNumbered (execReadCells s) := by
  unfold execReadCells readCellsReply
  refine keepsNumbered_serveKind h _ _ fun _ _ ht => ?_
  split
  · exact ht
  · split
    · split <;> exact ht
    · exact ht

theorem keepsNumbered_execReadTemperatures (h : Numbered s) : KeepsNumbered (execReadTemperatures s) := by
  unfold execReadTemperatures
  exact keepsNumbered_serve h _ _ fun _ _ ht => by split <;> exact ht

theorem keepsNumbered_execReadTemperatureDetail (h : Numbered s) : KeepsNumbered (execReadTemperatureDetail s) := by
  unfold execReadTemperatureDetail
  exact keepsNumbered_serve h _ _ fun _ _ ht => ht

theorem keepsNumbered_execReadPlant (h : Numbered s) : KeepsNumbered (execReadPlant s) := by
  unfold execReadPlant
  exact keepsNumbered_serveKind h _ _ fun _ _ ht => ht

theorem keepsNumbered_execReadSetting (h : Numbered s) : KeepsNumbered (execReadSetting s) := by
  unfold execReadSetting readSettingReply
  exact keepsNumbered_serveKind h _ _ fun _ _ ht => by split <;> exact ht

theorem keepsNumbered_execReadQueue (h : Numbered s) : KeepsNumbered (execReadQueue s) := by
  unfold execReadQueue
  exact keepsNumbered_serveKind h _ _ fun _ _ ht => by dsimp only; split <;> exact ht

theorem keepsNumbered_execReadHeld (h : Numbered s) : KeepsNumbered (execReadHeld s) := by
  unfold execReadHeld
  exact keepsNumbered_serve h _ _ fun _ _ ht => by split <;> exact ht

theorem keepsNumbered_execReadHeldDetail (h : Numbered s) : KeepsNumbered (execReadHeldDetail s) := by
  unfold execReadHeldDetail
  exact keepsNumbered_serve h _ _ fun _ _ ht => by split <;> exact ht

theorem keepsNumbered_execReadWeak (h : Numbered s) : KeepsNumbered (execReadWeak s) := by
  unfold execReadWeak
  exact keepsNumbered_serveKind h _ _ fun _ _ ht => by dsimp only; split <;> exact ht

theorem keepsNumbered_execReadConditions (h : Numbered s) : KeepsNumbered (execReadConditions s) := by
  unfold execReadConditions
  refine keepsNumbered_serveKind h _ _ fun _ _ ht => ?_
  dsimp only
  split
  · exact ht
  · split <;> exact ht

theorem keepsNumbered_execClearConditions (h : Numbered s) : KeepsNumbered (execClearConditions s) :=
  keepsNumbered_serve h _ _ fun _ f ht => numbered_serveClearConditions ht f

/-! #### The whole table -/

/-- Every command keeps the log in order. -/
theorem keepsNumbered_exec (h : Numbered s) (i : Instr) : KeepsNumbered (exec i s) := by
  have hwhen : ∀ (c : Prop) [Decidable c] (t : State), Numbered t →
      KeepsNumbered (if c then settled t else .next s) :=
    fun c _ t ht => keepsNumbered_ite h (keepsNumbered_settled ht)
  have hsame : ∀ t : State, t.log = s.log → Numbered t := fun t ht => by rw [Numbered, ht]; exact h
  cases i with
  | powerOn => exact keepsNumbered_next (numbered_afterReset h _)
  | resetN => exact keepsNumbered_execResetN h
  | resetRelease => exact keepsNumbered_execResetRelease h
  | ready => exact keepsNumbered_ite h (keepsNumbered_next h)
  | sampleInstant levels =>
    exact keepsNumbered_ite h (keepsNumbered_next (numbered_sampleInputs levels _ _ (s := sampleTick s) h))
  | slotStart => exact keepsNumbered_ite h (keepsNumbered_next h)
  | scanCompletion cells => exact keepsNumbered_execScanCompletion h cells
  | currentSample amps => exact keepsNumbered_execCurrentSample h amps
  | conversionCompletion gateTh gateRef => exact keepsNumbered_execConversionCompletion h gateTh gateRef
  | flowPulse => exact keepsNumbered_execFlowPulse h
  | flowRest => exact keepsNumbered_next h
  | tachEdge atMicros => exact keepsNumbered_execTachEdge h atMicros
  | tachTimeout => exact keepsNumbered_execTachTimeout h
  | hourRollover p => exact hwhen _ _ (hsame _ (hourRollover_log s p))
  | grantCountdown => exact hwhen _ _ (numbered_recomputeSurplus (s := { s with supply := _ }) h)
  | minuteEvaluation => exact hwhen _ _ h
  | transferOutTimeout c => exact keepsNumbered_execTransferOutTimeout h c
  | transferBackTimeout c => exact keepsNumbered_execTransferBackTimeout h c
  | rampStep c => exact hwhen _ _ (hsame _ (rampStep_log s c))
  | holdMinute c => exact hwhen _ _ (numbered_holdMinute h c)
  | settleEnd c => exact hwhen _ _ (numbered_settleEnd h c)
  | giveUp c => exact keepsNumbered_execGiveUp h c
  | ageMinute p => exact keepsNumbered_execAgeMinute h p
  | runOnExpiry => exact hwhen _ _ (hsame _ (recomputeFan_log _))
  | lowSpeedExpiry => exact hwhen _ _ (numbered_ventFails h)
  | recoveryExpiry => exact hwhen _ _ (hsame _ (ventMonitor_log _))
  | purgeEnd => exact hwhen _ _ (hsame _ (recomputeFan_log _))
  | graceExpiry => exact hwhen _ _ (numbered_deliverCause (s := s.modPerm _) h _ _)
  | primingEnd => exact hwhen _ _ (hsame _ (enterDosing_log s))
  | primeTimeout => exact hwhen _ _ (hsame _ (closeLine_log s _))
  | flowStop => exact hwhen _ _ (hsame _ (closeLine_log s _))
  | pauseEnd => exact hwhen _ _ (hsame _ (enterDosing_log s))
  | closingEnd => exact hwhen _ _ (numbered_closingEnd h)
  | manualDoseEnd => exact keepsNumbered_execManualDoseEnd h
  | notice => exact keepsNumbered_execNotice h
  | logRecord => exact keepsNumbered_execLogRecord h
  | logEnd => exact keepsNumbered_execLogEnd h
  | messageSent => exact keepsNumbered_next h
  | frameReceived byte => exact keepsNumbered_ite h (keepsNumbered_next (hsame _ (completeFrame_log s byte)))
  | unknownKind => exact keepsNumbered_execUnknownKind h
  | identify => exact keepsNumbered_execIdentify h
  | readStatus => exact keepsNumbered_execReadStatus h
  | setClock => exact keepsNumbered_execSetClock h
  | readString => exact keepsNumbered_execReadString h
  | readCells => exact keepsNumbered_execReadCells h
  | readTemperatures => exact keepsNumbered_execReadTemperatures h
  | readTemperatureDetail => exact keepsNumbered_execReadTemperatureDetail h
  | readPlant => exact keepsNumbered_execReadPlant h
  | setSetting => exact keepsNumbered_serveKind h _ _ fun _ f ht => numbered_serveSetSetting ht f
  | storeWriteEnd => exact keepsNumbered_ite h (keepsNumbered_next h)
  | readSetting => exact keepsNumbered_execReadSetting h
  | submitRound => exact keepsNumbered_serveKind h _ _ fun _ f ht => numbered_serveSubmitRound ht f
  | cancelRound => exact keepsNumbered_serveKind h _ _ fun _ f ht => numbered_serveCancelRound ht f
  | readQueue => exact keepsNumbered_execReadQueue h
  | readHeld => exact keepsNumbered_execReadHeld h
  | readHeldDetail => exact keepsNumbered_execReadHeldDetail h
  | supplyGrant => exact keepsNumbered_serveKind h _ _ fun _ f ht => numbered_serveSupplyGrant ht f
  | claimLine => exact keepsNumbered_serveKind h _ _ fun _ f ht => numbered_serveClaimLine ht f
  | releaseLine => exact keepsNumbered_serveKind h _ _ fun _ f ht => numbered_serveReleaseLine ht f
  | manualDose => exact keepsNumbered_serveKind h _ _ fun _ f ht => numbered_serveManualDose ht f
  | refill => exact keepsNumbered_serveKind h _ _ fun _ f ht => numbered_serveRefill ht f
  | readWeak => exact keepsNumbered_execReadWeak h
  | clearWeak => exact keepsNumbered_serveKind h _ _ fun _ f ht => numbered_serveClearWeak ht f
  | releaseLock => exact keepsNumbered_serveKind h _ _ fun _ f ht => numbered_serveReleaseLock ht f
  | setNoticeMaster => exact keepsNumbered_serveKind h _ _ fun _ f ht => numbered_serveSetNoticeMaster ht f
  | readConditions => exact keepsNumbered_execReadConditions h
  | clearConditions => exact keepsNumbered_execClearConditions h
  | readLog => exact keepsNumbered_serveKind h _ _ fun _ f ht => numbered_serveReadLog ht f
  | stopLog => exact keepsNumbered_serveKind h _ _ fun _ _ ht => ht
  | restart => exact keepsNumbered_serveKind h _ _ fun _ f ht => numbered_serveRestart ht f
  | finalStep => exact keepsNumbered_execFinalStep h
  | receivedByte byte => exact keepsNumbered_ite h (keepsNumbered_next (hsame _ (framerByte_log s byte)))

/-- Every step keeps the log in order. -/
theorem keepsNumbered_step (h : Numbered s) : KeepsNumbered (step s) := by
  unfold step
  split
  next i rest _ => exact keepsNumbered_exec (s := { s with pending := rest }) h i
  next =>
    refine keepsNumbered_next ?_
    rcases passTime_cases s with hsame | ⟨-, hmoved⟩
    · rw [hsame]; exact h
    · rw [hmoved]; exact h

end

/-- Settles O58: what a step writes to the log is records appended under next_seq. -/
theorem seqsAreKeptInOrder : Obligations.SeqsAreKeptInOrder := fun s t h hstep =>
  (seqsInOrder_iff t).2 (keepsNumbered_step ((seqsInOrder_iff s).1 h) t hstep)

end Sys2Proof.Machine
end

-- ==== Proofs: the recovery of markers and the log's transfer ====
section
/-! PROOFS. The recovery of the markers that stand at initialisation (O4); Read Log and Stop Log (O52). -/

namespace Sys2Proof.Machine

open Sys2Proof.Safety

/-! ### The recovery of markers (R162) -/

/-- The recovery at one position: a marker that stands becomes a recovered record. -/
def recoverMarker (s : State) (p : Pos) : State :=
  match (s.hist.get p).roundOpen with
  | some m => writeRecord s (recoveredRecord p m)
  | none => s

theorem recoverRecords_eq_foldl (s : State) : recoverRecords s = Pos.all.foldl recoverMarker s := rfl

section
variable (s : State) (p : Pos)

theorem recoverMarker_of_clear (h : (s.hist.get p).roundOpen = none) : recoverMarker s p = s := by
  rw [recoverMarker, h]

theorem recoverMarker_of_standing (m : RoundOpen) (h : (s.hist.get p).roundOpen = some m) :
    recoverMarker s p = writeRecord s (recoveredRecord p m) := by
  rw [recoverMarker, h]

/-- A record written for a string clears its marker and leaves the markers of the others (R161). -/
theorem writeRecord_recovered_roundOpen (m : RoundOpen) (q : Pos) :
    ((writeRecord s (recoveredRecord p m)).hist.get q).roundOpen =
      if q = p then none else (s.hist.get q).roundOpen := by
  have hhist : (writeRecord s (recoveredRecord p m)).hist = s.hist.set p { s.hist.get p with roundOpen := none } := rfl
  rw [hhist]
  split
  next heq => rw [heq, eight_get_set_same]
  next hne => rw [eight_get_set_other _ _ _ _ hne]

theorem recoverMarker_roundOpen (q : Pos) :
    ((recoverMarker s p).hist.get q).roundOpen = if q = p then none else (s.hist.get q).roundOpen := by
  cases hmarker : (s.hist.get p).roundOpen with
  | some m => rw [recoverMarker_of_standing s p m hmarker, writeRecord_recovered_roundOpen]
  | none =>
    rw [recoverMarker_of_clear s p hmarker]
    split
    next heq => rw [heq, hmarker]
    next => rfl

/-- A position has no marker left once its turn has come, or if it had none. -/
theorem foldl_recoverMarker_clears (l : List Pos) (h : p ∈ l ∨ (s.hist.get p).roundOpen = none) :
    ((l.foldl recoverMarker s).hist.get p).roundOpen = none := by
  induction l generalizing s with
  | nil => exact h.resolve_left List.not_mem_nil
  | cons q l ih =>
    refine ih (recoverMarker s q) ?_
    rw [recoverMarker_roundOpen]
    by_cases hq : p = q
    · exact .inr (if_pos hq)
    · rw [if_neg hq]
      exact h.imp_left fun hmem => (List.mem_cons.1 hmem).resolve_left hq

/-- Without a marker the recovery does nothing. -/
theorem foldl_recoverMarker_of_clear (l : List Pos) (h : ∀ q, (s.hist.get q).roundOpen = none) :
    l.foldl recoverMarker s = s := by
  induction l with
  | nil => rfl
  | cons q l ih => rw [List.foldl_cons, recoverMarker_of_clear s q (h q), ih]

/-- A single marker is written when the turn of its position comes, and nothing else is. -/
theorem foldl_recoverMarker_of_single (m : RoundOpen) (hmarker : (s.hist.get p).roundOpen = some m)
    (hothers : ∀ q, q ≠ p → (s.hist.get q).roundOpen = none) (l : List Pos) (hmem : p ∈ l) :
    l.foldl recoverMarker s = writeRecord s (recoveredRecord p m) := by
  induction l with
  | nil => cases hmem
  | cons q l ih =>
    rw [List.foldl_cons]
    by_cases hq : q = p
    · rw [hq, recoverMarker_of_standing s p m hmarker]
      refine foldl_recoverMarker_of_clear _ l fun r => ?_
      rw [writeRecord_recovered_roundOpen]
      split
      next => rfl
      next hr => exact hothers r hr
    · rw [recoverMarker_of_clear s q (hothers q hq)]
      exact ih ((List.mem_cons.1 hmem).resolve_left (Ne.symm hq))

end

/-- The newest record of the ring is the one written last, under the next_seq it found (R161). -/
theorem writeRecord_getLast (s : State) (r : Record) :
    (writeRecord s r).log.ring.getLast? = some { r with seq := s.log.nextSeq } := by
  rw [writeRecord_log]
  exact List.getLast?_concat

/-- Settles O4: each position's marker is cleared at its turn, and a single one is the only record written. -/
theorem markersAreRecovered : Obligations.MarkersAreRecovered := by
  refine ⟨fun s p => ?_, fun s p m hmarker hothers => ?_⟩
  · rw [recoverRecords_eq_foldl]
    exact foldl_recoverMarker_clears s p _ (.inl (pos_mem_all p))
  · have hwritten : recoverRecords s = writeRecord s (recoveredRecord p m) := by
      rw [recoverRecords_eq_foldl]
      exact foldl_recoverMarker_of_single s p m hmarker hothers _ (pos_mem_all p)
    rw [hwritten, writeRecord_getLast]
    exact ⟨rfl, rfl⟩

/-! ### Read Log and Stop Log (R164, R166) -/

/-- A count of 1 to 64 in a Read Log body, behind the seq (R164). -/
theorem field_count (a n : Nat) (h : n ≤ 64) : field (u16 a ++ [BitVec.ofNat 8 n]) 2 1 = n := by
  simp [field, u16, ofBytes]
  omega

/-- The seq at the start of a Read Log body (R164). -/
theorem field_seq (a : Nat) (b : Byte) (h : a < 65536) : field (u16 a ++ [b]) 0 2 = a :=
  field_u16 a h

section
variable (s : State) (f : Frame)

/-- A seq that the ring holds gives a range without a gap that starts there (R164). -/
theorem logRange_of_held (a n back : Nat) (hback : back = (s.log.nextSeq + 65536 - a) % 65536) (hpos : 1 ≤ back)
    (hheld : back ≤ s.log.ring.length) (hring : s.log.ring.length ≤ 64) :
    logRange s a n = some { n := min n back, gap := false, first := a } := by
  unfold logRange; dsimp only
  rw [← hback, if_neg (by omega), if_neg (by omega), if_pos hheld]

/-- A log with a transfer of a number of records from a seq on (R164). -/
def transferStarted (a n : Nat) : State :=
  { s with log := { s.log with transfer := some { tag := f.tag, n := n, next := a, left := n, sent := 0 } } }

/-- A log without a transfer (R166). -/
def transferStopped : State := { s with log := { s.log with transfer := none } }

/-- A count in its range finds a running transfer BUSY (R164). -/
theorem serveReadLog_of_running (n : Nat) (hcount : field f.body 2 1 = n) (hpos : 1 ≤ n) (hmax : n ≤ 64)
    (hrunning : s.log.transfer.isSome = true) : serveReadLog s f = reply s f .busy [] := by
  unfold serveReadLog; dsimp only
  rw [hcount, if_neg (by omega), if_pos hrunning]

/-- Read Log of a seq that is held starts a transfer of the records asked for, as far as they reach (R164). -/
theorem serveReadLog_of_held (a n back : Nat) (hseq : field f.body 0 2 = a) (hcount : field f.body 2 1 = n)
    (hpos : 1 ≤ n) (hmax : n ≤ 64) (hidle : s.log.transfer = none)
    (hback : back = (s.log.nextSeq + 65536 - a) % 65536) (hbehind : 1 ≤ back) (hheld : back ≤ s.log.ring.length)
    (hring : s.log.ring.length ≤ 64) :
    serveReadLog s f =
      reply (transferStarted s f a (min n back)) f .ok
        ([BitVec.ofNat 8 (min n back), 0, 1] ++ u16 a ++ u16 s.log.nextSeq ++ [BitVec.ofNat 8 s.log.ring.length]) := by
  have hsome : 0 < min n back := by omega
  unfold serveReadLog; dsimp only
  rw [hcount, hseq, if_neg (by omega), if_neg (by simp [hidle]), logRange_of_held s a n back hback hbehind hheld hring]
  dsimp only
  rw [if_pos hsome]
  rfl

/-- Stop Log ends the transfer and answers what it has sent, 0 without one (R166). -/
theorem serveStopLog_eq :
    serveStopLog s f =
      reply (transferStopped s) f .ok
        [BitVec.ofNat 8 (match s.log.transfer with | some t => t.sent | none => 0)] := by
  unfold serveStopLog
  cases s.log.transfer <;> rfl

end

/-- Settles O52: each request's rule changes the transfer alone, and its reply leaves nothing to settle. -/
theorem logTransferIsStartedAndStopped : Obligations.LogTransferIsStartedAndStopped := by
  intro s f rest htaking
  obtain ⟨htaken, hsettled⟩ := afterTaking_of_taking htaking
  refine ⟨fun a n back hkind ha hpos hmax hbody => ?_, fun hkind hbody => ?_⟩
  · have hbelow : f.kind.toNat < 128 := by rw [hkind]; decide
    have hexec : exec .readLog s = settled (serveReadLog (requestTaken s rest) f) :=
      htaken ▸ serveKind_taken s _ _ _ f rest htaking hkind (by rw [hbody]; rfl)
    have hcount : field f.body 2 1 = n := by rw [hbody]; exact field_count a n hmax
    have hseq : field f.body 0 2 = a := by rw [hbody]; exact field_seq a _ ha
    rw [hexec]
    refine ⟨fun hrunning => ?_, fun hidle _ hring hbehind hheld hback => ?_⟩
    · rw [serveReadLog_of_running (requestTaken s rest) f n hcount hpos hmax hrunning]
      exact settled_reply s (requestTaken s rest) f rest _ _ rfl hbelow hsettled
    · rw [serveReadLog_of_held (requestTaken s rest) f a n back hseq hcount hpos hmax hidle hback hbehind hheld hring]
      exact settled_reply s (transferStarted (requestTaken s rest) f a (min n back)) f rest _ _ rfl hbelow hsettled
  · have hbelow : f.kind.toNat < 128 := by rw [hkind]; decide
    have hexec : exec .stopLog s = settled (serveStopLog (requestTaken s rest) f) :=
      htaken ▸ serveKind_taken s _ _ _ f rest htaking hkind (by rw [hbody]; rfl)
    rw [hexec, serveStopLog_eq]
    exact settled_reply s (transferStopped (requestTaken s rest)) f rest _ _ rfl hbelow hsettled

end Sys2Proof.Machine
end

-- ==== Proofs: conditions, notices and the messages the part places of itself ====
section
/-! PROOFS. The Notice, Log Record and Log End messages (O43); Set Notice Master and Clear Conditions of one
condition (O51). -/

namespace Sys2Proof.Machine

open Sys2Proof.Safety

/-! ### Conditions and their priority (R170) -/

/-- A condition's number names it. -/
theorem condition_ofNum_num (c : Condition) : Condition.ofNum c.num = some c := by cases c <;> rfl

theorem condition_num_injective : Function.Injective Condition.num := fun c e h =>
  Option.some.inj (by rw [← condition_ofNum_num c, h, condition_ofNum_num e])

/-- A condition's number fits a byte (R174). -/
theorem condition_num_mod (c : Condition) : c.num % 256 = c.num := by cases c <;> rfl

theorem condition_nonMaskable_iff (c : Condition) : c.nonMaskable = true ↔ c.num ≤ 3 := by
  cases c <;> decide

/-- The priority order, cut at a condition. -/
theorem condition_all_split (c : Condition) :
    Condition.all = Condition.all.take (c.num - 1) ++ c :: Condition.all.drop c.num := by
  cases c <;> rfl

/-- What stands before a condition in the priority order has a lower number. -/
theorem condition_num_lt_of_mem_take (c e : Condition) (h : e ∈ Condition.all.take (c.num - 1)) : e.num < c.num := by
  have hbefore : ∀ e ∈ Condition.all.take (c.num - 1), e.num < c.num := by cases c <;> decide
  exact hbefore e h

/-! ### The notice of highest priority (R172) -/

section
variable (s : State) (c : Condition)

theorem sendable_iff : sendable s c = true ↔ ∃ d, Sendable s c d := by
  have hunmasked : (c.nonMaskable || (s.master && enabled s c)) = true ↔
      c.num ≤ 3 ∨ (s.master = true ∧ s.cfg.noticeEnables.testBit (c.num - 1) = true) := by
    rw [Bool.or_eq_true, Bool.and_eq_true, enabled, Bool.or_eq_true, condition_nonMaskable_iff]
    tauto
  unfold sendable Sendable
  cases hlatch : s.latches.get c with
  | none => simp
  | some d => simp only [Bool.and_eq_true, hunmasked, Option.some.injEq, exists_eq_left']

/-- The next notice is for the sendable condition before which none is sendable. -/
theorem nextSendable_of_highest (d : LatchDetail) (hsendable : Sendable s c d)
    (hhighest : ∀ (e : Condition) (d' : LatchDetail), e.num < c.num → ¬ Sendable s e d') :
    nextSendable s = some c := by
  refine List.find?_eq_some_iff_append.2 ⟨(sendable_iff s c).2 ⟨d, hsendable⟩, _, _, condition_all_split c, ?_⟩
  intro e he
  have hnot : ¬ sendable s e = true := fun h =>
    let ⟨d', hd'⟩ := (sendable_iff s e).1 h
    hhighest e d' (condition_num_lt_of_mem_take c e he) hd'
  simpa using hnot

/-- With room in the Outbound Queue the next notice is placed, and its latch is no longer pending. -/
theorem execNotice_of_next (d : LatchDetail) (hroom : s.link.outbound.length < 8) (hnext : nextSendable s = some c)
    (hlatch : s.latches.get c = some d) :
    execNotice s =
      .next (placeMessage { s with latches := s.latches.set c (some { d with pending := false }) }
        (noticeFrame c d)) := by
  rw [execNotice, if_pos (freePlaces_pos s hroom), hnext]
  dsimp only
  rw [hlatch]

end

/-! ### The messages of a log transfer (R165) -/

section
variable (s : State) (t : Transfer)

/-- Two free places in the Outbound Queue (R165). -/
theorem two_le_freePlaces (hroom : s.link.outbound.length ≤ 6) : 2 ≤ freePlaces s := by
  simp only [freePlaces, Config.outboundCap]
  omega

/-- A transfer whose next record has been sent (R165). -/
def recordSent : Transfer :=
  { t with next := (t.next + 1) % 65536, left := t.left - 1, sent := t.sent + 1 }

/-- The examination ends at the next seq when the ring holds it (R165). -/
theorem examine_of_held (r : Record) (hleft : 0 < t.left) (hheld : recordOf s t.next = some r) :
    examine s t.left t = (recordSent t, some r) := by
  obtain ⟨n, hn⟩ : ∃ n, t.left = n + 1 := ⟨t.left - 1, by omega⟩
  rw [hn, examine, if_neg (by omega), hheld]
  rfl

/-- A held record of a transfer that has seqs left is placed (R165). -/
theorem execLogRecord_of_held (r : Record) (htransfer : s.log.transfer = some t) (hleft : 0 < t.left)
    (hroom : s.link.outbound.length ≤ 6) (hheld : recordOf s t.next = some r) :
    execLogRecord s =
      .next (placeMessage { s with log := { s.log with transfer := some (recordSent t) } } (logRecordFrame r)) := by
  have htwo := two_le_freePlaces s hroom
  rw [execLogRecord, htransfer]
  dsimp only
  rw [if_neg (by omega), examine_of_held s t r hleft hheld]

/-- A transfer without seqs left ends with its Log End (R165). -/
theorem execLogEnd_of_done (htransfer : s.log.transfer = some t) (hdone : t.left = 0)
    (hroom : s.link.outbound.length ≤ 6) :
    execLogEnd s = .next (placeMessage (transferStopped s) (logEndFrame t)) := by
  have htwo := two_le_freePlaces s hroom
  rw [execLogEnd, htransfer]
  dsimp only
  rw [if_neg (by omega)]
  rfl

end

/-- Settles O43: the first sendable condition of the priority order, and the transfer's next seq or its end. -/
theorem messagesArePlaced : Obligations.MessagesArePlaced := by
  refine ⟨fun s c d hroom hsendable hhighest => ?_, fun s t r htransfer hleft hroom hheld => ?_,
    fun s t htransfer hdone hroom => ?_⟩
  · have ⟨hlatch, _⟩ := hsendable
    exact execNotice_of_next s c d hroom (nextSendable_of_highest s c d hsendable hhighest) hlatch
  · exact execLogRecord_of_held s t r htransfer hleft hroom hheld
  · exact execLogEnd_of_done s t htransfer hdone hroom

/-! ### Set Notice Master (R173) -/

section
variable (s : State) (f : Frame)

theorem serveSetNoticeMaster_of_value (v : Nat) (hvalue : field f.body 0 1 = v) (hv : v ≤ 1) :
    serveSetNoticeMaster s f = reply { s with master := v == 1 } f .ok (u8 v) := by
  unfold serveSetNoticeMaster
  rw [hvalue]
  exact if_neg (by omega)

/-! ### Clear Conditions of one condition (R174, R175) -/

/-- One set condition named is the set of latches to clear. -/
theorem namedSet_of_single (c : Condition) (hset : (s.latches.get c).isSome = true) :
    namedSet s [BitVec.ofNat 8 c.num] = [c] := by
  have hnamed : ∀ e ∈ Condition.all,
      ((s.latches.get e).isSome && [BitVec.ofNat 8 c.num].any fun n => n.toNat == e.num) = (e == c) := by
    intro e _
    have hnamesIt : ((s.latches.get e).isSome = true ∧ c.num = e.num) ↔ e = c :=
      ⟨fun ⟨_, hnum⟩ => (condition_num_injective hnum).symm, fun he => by subst he; exact ⟨hset, rfl⟩⟩
    rw [Bool.eq_iff_iff]
    simpa [condition_num_mod] using hnamesIt
  rw [namedSet, List.filter_congr hnamed]
  cases c <;> rfl

/-- The set of one condition: its bit (assumption 14). -/
theorem conditionSet_single (c : Condition) : conditionSet [c] = 2 ^ (c.num - 1) := Nat.zero_add _

/-- The rule for one set condition: its latch is cleared, and latched again if its cause persists (R174). -/
theorem serveClearConditions_of_single (c : Condition) (hbody : f.body = [BitVec.ofNat 8 c.num])
    (hset : (s.latches.get c).isSome = true) :
    serveClearConditions s f =
      reply (([c].filter (causePersists s)).foldl relatch (clearLatch s c)) f .ok
        (u16 (2 ^ (c.num - 1)) ++ u16 (conditionSet ([c].filter (causePersists s)))) := by
  have hknown : ([BitVec.ofNat 8 c.num].any fun b => (Condition.ofNum b.toNat).isNone) = false := by
    simp [condition_num_mod, condition_ofNum_num]
  unfold serveClearConditions
  rw [hbody, hknown, namedSet_of_single s c hset]
  dsimp only
  rw [conditionSet_single]
  rfl

/-- Clear Conditions of 1 to 16 numbers is served by its rule (R174, R181). -/
theorem execClearConditions_taken (rest : List Frame) (h : Taking s f rest) (hkind : f.kind = 0x18)
    (hsome : 1 ≤ f.body.length) (hmax : f.body.length ≤ 16) :
    execClearConditions s = settled (serveClearConditions (afterTaking s) f) :=
  serve_taken s _ _ _ f rest h (by simp [hkind]) (by simp [hsome, hmax])

/-- A condition without a persisting cause is cleared (R174). -/
theorem serveClearConditions_of_gone (c : Condition) (hbody : f.body = [BitVec.ofNat 8 c.num])
    (hset : (s.latches.get c).isSome = true) (hgone : causePersists s c = false) :
    serveClearConditions s f = reply (clearLatch s c) f .ok (u16 (2 ^ (c.num - 1)) ++ [0, 0]) := by
  rw [serveClearConditions_of_single s f c hbody hset, List.filter_cons_of_neg (by simp [hgone]), List.filter_nil]
  rfl

/-- A condition whose cause persists is latched again (R175). -/
theorem serveClearConditions_of_persisting (c : Condition) (hbody : f.body = [BitVec.ofNat 8 c.num])
    (hset : (s.latches.get c).isSome = true) (hpersists : causePersists s c = true) :
    serveClearConditions s f =
      reply (relatch (clearLatch s c) c) f .ok (u16 (2 ^ (c.num - 1)) ++ u16 (2 ^ (c.num - 1))) := by
  rw [serveClearConditions_of_single s f c hbody hset, List.filter_cons_of_pos hpersists, List.filter_nil,
    conditionSet_single]
  rfl

/-- VENT_FAIL latched afresh has the fan's speed and a pending notice (R175, R171). -/
theorem relatch_ventFail_of_clear :
    relatch (clearLatch s .ventFail) .ventFail =
      { s with latches := { s.latches with ventFail := (some
          { string := 0, value := s.perm.speed, captured := none, time := s.stamp, again := 0, pending := true }) } } :=
  event_of_clear (clearLatch s .ventFail) .ventFail 0 s.perm.speed none rfl

end

/-- Settles O51: each request's rule changes the master or one latch, and its reply leaves nothing to settle. -/
theorem hostHandlesConditions : Obligations.HostHandlesConditions := by
  intro s f rest htaking
  obtain ⟨htaken, hsettled⟩ := afterTaking_of_taking htaking
  refine ⟨fun hkind hbody => ?_, fun c d hkind hbody hlatch => ?_⟩
  · have hbelow : f.kind.toNat < 128 := by rw [hkind]; decide
    have hmaster : ∀ v : Nat, v ≤ 1 → f.body = [BitVec.ofNat 8 v] →
        exec .setNoticeMaster s = .next
          { s with master := v == 1, link := answered s rest (replyTo f 0 0 [BitVec.ofNat 8 v]) } := by
      intro v hv hvalue
      have hexec : exec .setNoticeMaster s = settled (serveSetNoticeMaster (requestTaken s rest) f) :=
        htaken ▸ serveKind_taken s _ _ _ f rest htaking hkind (by rw [hvalue]; rfl)
      have hfield : field f.body 0 1 = v := by
        rw [hvalue]
        simp [field, ofBytes]
        omega
      rw [hexec, serveSetNoticeMaster_of_value (requestTaken s rest) f v hfield hv]
      exact settled_reply s { requestTaken s rest with master := v == 1 } f rest _ _ rfl hbelow hsettled
    rcases hbody with hoff | hon
    · rw [hmaster 0 (by decide) hoff, hoff]
      rfl
    · rw [hmaster 1 (by decide) hon, hon]
      rfl
  · have hbelow : f.kind.toNat < 128 := by rw [hkind]; decide
    have hset : ((requestTaken s rest).latches.get c).isSome = true := Option.isSome_of_eq_some hlatch
    have hexec : exec .clearConditions s = settled (serveClearConditions (requestTaken s rest) f) :=
      htaken ▸ execClearConditions_taken s f rest htaking hkind (by simp [hbody]) (by simp [hbody])
    rw [hexec]
    refine ⟨fun hgone => ?_, fun hc hfailed => ?_⟩
    · rw [serveClearConditions_of_gone (requestTaken s rest) f c hbody hset hgone]
      exact settled_reply s (clearLatch (requestTaken s rest) c) f rest _ _ rfl hbelow hsettled
    · subst hc
      rw [serveClearConditions_of_persisting (requestTaken s rest) f .ventFail hbody hset hfailed,
        relatch_ventFail_of_clear]
      exact settled_reply s _ f rest _ _ rfl hbelow hsettled

end Sys2Proof.Machine
end

-- ==== Proofs: the operations that leave the settings and the account alone ====
section
/-! PROOFS. What the laws of the settings and of the account look at (O59): the store, the Reservoir Account and the
restarting time. Set Setting, the store's write, pulses, Refill, resets, their release and a Restart alone change
them. One lemma per operation, in the order of the definitions. -/

namespace Sys2Proof.Machine

open Sys2Proof.Safety

/-- What the laws of the settings and of the account look at, the phase aside. -/
structure Ledger where
  store : Store
  account : Nat
  restartAt : Option Nat

/-- The ledger of a state. -/
def State.ledger (s : State) : Ledger :=
  { store := s.store, account := s.reservoir.account, restartAt := s.restartAt }

section
variable (s : State)

/-- A change made item by item that leaves the ledger alone. -/
theorem ledger_foldl {α : Type} (f : State → α → State) (h : ∀ t a, (f t a).ledger = t.ledger) (l : List α) :
    (l.foldl f s).ledger = s.ledger := by
  induction l generalizing s with
  | nil => rfl
  | cons a l ih => rw [List.foldl_cons, ih, h]

/-- The ledger of a state that is written out. -/
@[simp] theorem ledger_mk (phase : Phase) (restartAt : Option Nat) (base : TimerBase) (clock : SiteClock)
    (out : Outputs) (inp : Inputs) (scan : Scanner) (temps : Converter) (flow : FlowCounter) (tach : FanTach)
    (comp : Eight CompRec) (present : Two PresentDemand) (hist : Eight StringHistory) (sit : Eight StringSituation)
    (queue : RoundQueue) (supply : Supply) (chan : Two Channel) (perm : Permissions) (held : HeldList) (line : Line)
    (reservoir : Reservoir) (weak : WeakList) (log : Log) (latches : Latches) (master : Bool) (store : Store)
    (link : Link) (due : Due) (freeDrawn : Nat) (pending : List Instr) :
    State.ledger
      ⟨phase, restartAt, base, clock, out, inp, scan, temps, flow, tach, comp, present, hist, sit, queue, supply,
        chan, perm, held, line, reservoir, weak, log, latches, master, store, link, due, freeDrawn, pending⟩ =
      ⟨store, reservoir.account, restartAt⟩ := rfl

@[simp] theorem ledger_eta : Ledger.mk s.store s.reservoir.account s.restartAt = s.ledger := rfl

/-! #### Plain updates -/

@[simp] theorem modSit_ledger (p : Pos) (f : StringSituation → StringSituation) :
    (s.modSit p f).ledger = s.ledger := rfl
@[simp] theorem modHist_ledger (p : Pos) (f : StringHistory → StringHistory) :
    (s.modHist p f).ledger = s.ledger := rfl
@[simp] theorem modChan_ledger (c : Ch) (f : Channel → Channel) : (s.modChan c f).ledger = s.ledger := rfl
@[simp] theorem modCtx_ledger (c : Ch) (f : Context → Context) : (s.modCtx c f).ledger = s.ledger := rfl
@[simp] theorem modCall_ledger (c : Ch) (f : Call → Call) : (s.modCall c f).ledger = s.ledger := rfl
@[simp] theorem modPerm_ledger (f : Permissions → Permissions) : (s.modPerm f).ledger = s.ledger := rfl
@[simp] theorem modLine_ledger (f : Line → Line) : (s.modLine f).ledger = s.ledger := rfl
@[simp] theorem wantReserve_ledger : s.wantReserve.ledger = s.ledger := rfl
@[simp] theorem wantAdmission_ledger : s.wantAdmission.ledger = s.ledger := rfl
@[simp] theorem setEnable_ledger (c : Ch) (on : Bool) : (setEnable s c on).ledger = s.ledger := rfl
@[simp] theorem setLimit_ledger (c : Ch) (n : Nat) : (setLimit s c n).ledger = s.ledger := rfl
@[simp] theorem commandKe_ledger (p : Pos) (k : Contact) : (commandKe s p k).ledger = s.ledger := rfl
@[simp] theorem commandKs_ledger (p : Pos) (c : Ch) : (commandKs s p c).ledger = s.ledger := rfl
@[simp] theorem setPump_ledger (on : Bool) : (setPump s on).ledger = s.ledger := rfl
@[simp] theorem event_ledger (c : Condition) (n v : Nat) (l : Option Level) :
    (s.event c n v l).ledger = s.ledger := rfl
@[simp] theorem stopWait_ledger (c : Ch) : (stopWait s c).ledger = s.ledger := rfl
@[simp] theorem startWait_ledger (c : Ch) (k : Contactor) : (startWait s c k).ledger = s.ledger := rfl
@[simp] theorem setFramer_ledger (f : Framer) : (setFramer s f).ledger = s.ledger := rfl
@[simp] theorem placeMessage_ledger (f : Frame) : (placeMessage s f).ledger = s.ledger := rfl
@[simp] theorem reply_ledger (f : Frame) (st : Status) (l : List Byte) : (reply s f st l).ledger = s.ledger := rfl
@[simp] theorem refuse_ledger (f : Frame) (r : Reason) : (refuse s f r).ledger = s.ledger := rfl
@[simp] theorem atLeastMs_ledger (n : Nat) : (atLeastMs s n).ledger = s.ledger := rfl
@[simp] theorem writeRecord_ledger (r : Record) : (writeRecord s r).ledger = s.ledger := rfl

/-! #### Shared operations -/

@[simp] theorem recomputeOnBus_ledger (p : Pos) :
    (recomputeOnBus s p).ledger = s.ledger := by rw [← recomputeOnBus_frame]; rfl
@[simp] theorem commandKf_ledger (p : Pos) (k : Contact) :
    (commandKf s p k).ledger = s.ledger := by rw [← commandKf_frame]; rfl
@[simp] theorem ventMonitor_ledger : (ventMonitor s).ledger = s.ledger := by rw [← ventMonitor_frame]; rfl
@[simp] theorem recomputeFan_ledger : (recomputeFan s).ledger = s.ledger := by rw [← recomputeFan_frame]; rfl
@[simp] theorem stageDelivered_ledger (st : Stage) :
    (stageDelivered s st).ledger = s.ledger := by rw [← stageDelivered_frame]; rfl
@[simp] theorem writeDirect_ledger (c : Ch) :
    (writeDirect s c).ledger = s.ledger := by rw [← writeDirect_frame]; rfl
@[simp] theorem writeHysteresis_ledger (c : Ch) :
    (writeHysteresis s c).ledger = s.ledger := by rw [← writeHysteresis_frame]; rfl
@[simp] theorem setStage_ledger (c : Ch) (st : Stage) :
    (setStage s c st).ledger = s.ledger := by rw [← setStage_frame]; rfl
@[simp] theorem removeEntries_ledger (p : Pos) : (removeEntries s p).ledger = s.ledger := rfl
@[simp] theorem offer_ledger (p : Pos) (k : Kind) (o : Origin) (tag : Byte) :
    (offer s p k o tag).1.ledger = s.ledger := by rw [← offer_frame]; rfl
@[simp] theorem computeFloat_ledger : (computeFloat s).ledger = s.ledger := by
  unfold computeFloat writeFloat; dsimp only
  repeat' split
  all_goals simp
@[simp] theorem weakOffer_ledger (p : Pos) (cell deficit : Nat) :
    (weakOffer s p cell deficit).1.ledger = s.ledger := by rw [← weakOffer_frame]; rfl

/-! #### The line -/

@[simp] theorem enterDosing_ledger : (enterDosing s).ledger = s.ledger := by
  unfold enterDosing countDose; dsimp only
  repeat' split
  all_goals simp
@[simp] theorem closeLine_ledger (o : Outcome) : (closeLine s o).ledger = s.ledger := by rw [← closeLine_frame]; rfl
@[simp] theorem endReservoirEmpty_ledger : (endReservoirEmpty s).ledger = s.ledger := by simp [endReservoirEmpty]
@[simp] theorem lineTake_ledger (o : Owner) (p : Pos) (i : Option RoundIdentity) (d : Option ManualDose) :
    (lineTake s o p i d).ledger = s.ledger := by rw [← lineTake_frame]; rfl
@[simp] theorem lineTakeCall_ledger (c : Ch) :
    (lineTakeCall s c).ledger = s.ledger := by rw [← lineTakeCall_frame]; rfl
@[simp] theorem lineNext_ledger : (lineNext s).ledger = s.ledger := by
  unfold lineNext; dsimp only
  repeat' split
  all_goals simp
@[simp] theorem lineStop_ledger : (lineStop s).ledger = s.ledger := by
  unfold lineStop
  repeat' split
  all_goals simp
@[simp] theorem withdrawCall_ledger (c : Ch) : (withdrawCall s c).ledger = s.ledger := rfl

/-! #### The String Table -/

@[simp] theorem dueRise_ledger (p : Pos) : (dueRise s p).ledger = s.ledger := by
  unfold dueRise; dsimp only
  repeat' split
  all_goals simp
@[simp] theorem dueEvaluate_ledger (p : Pos) : (dueEvaluate s p).ledger = s.ledger := by
  unfold dueEvaluate
  repeat' split
  all_goals simp
@[simp] theorem dueEvaluateAll_ledger : (dueEvaluateAll s).ledger = s.ledger :=
  ledger_foldl s _ (fun t x => by split <;> simp) _
@[simp] theorem hourRollover_ledger (p : Pos) : (hourRollover s p).ledger = s.ledger := by simp [hourRollover]
@[simp] theorem throughputAdd_ledger (p : Pos) (v : Int) : (throughputAdd s p v).ledger = s.ledger := by
  unfold throughputAdd
  repeat' split
  all_goals simp
@[simp] theorem levelDelivered_ledger (p : Pos) (k : DeliveryKind) : (levelDelivered s p k).ledger = s.ledger := by
  unfold levelDelivered; dsimp only
  repeat' split
  all_goals simp
@[simp] theorem recomputeSense_ledger (p : Pos) :
    (recomputeSense s p).ledger = s.ledger := by rw [← recomputeSense_frame]; rfl
@[simp] theorem enterIsolated_ledger (p : Pos) (r : Isolation) : (enterIsolated s p r).ledger = s.ledger := rfl
@[simp] theorem kfStuckTest_ledger (p : Pos) : (kfStuckTest s p).ledger = s.ledger := by
  unfold kfStuckTest leaveIsolated
  repeat' split
  all_goals simp
@[simp] theorem stringKf_ledger (p : Pos) : (stringKf s p).ledger = s.ledger := by simp [stringKf]
@[simp] theorem stringKe_ledger (p : Pos) : (stringKe s p).ledger = s.ledger := by
  unfold stringKe
  repeat' split
  all_goals simp
@[simp] theorem historyUpdate_ledger (p : Pos) : (historyUpdate s p).ledger = s.ledger := rfl
@[simp] theorem setEqLock_ledger (p : Pos) (r : EqLockReason) : (setEqLock s p r).ledger = s.ledger := rfl
@[simp] theorem setWaterLock_ledger (p : Pos) : (setWaterLock s p).ledger = s.ledger := rfl
@[simp] theorem markRoundOpen_ledger (p : Pos) (k : Kind) : (markRoundOpen s p k).ledger = s.ledger := rfl
@[simp] theorem removePosition_ledger (p : Pos) : (removePosition s p).ledger = s.ledger := by
  unfold removePosition; dsimp only
  rw [modSit_ledger, recomputeOnBus_ledger]; rfl
@[simp] theorem addPosition_ledger (p : Pos) : (addPosition s p).ledger = s.ledger := by simp [addPosition]

/-! #### The return to the load bus -/

@[simp] theorem endRound_ledger (c : Ch) (x : Context) (failed : Bool) :
    (endRound s c x failed).ledger = s.ledger := by
  unfold endRound; dsimp only
  repeat' split
  all_goals simp
@[simp] theorem suspension_ledger (c : Ch) (x : Context) (cause : Cause) :
    (suspension s c x cause).ledger = s.ledger := by
  unfold suspension; dsimp only
  repeat' split
  all_goals simp
@[simp] theorem backComplete_ledger (c : Ch) : (backComplete s c).ledger = s.ledger := by
  unfold backComplete; dsimp only
  repeat' split
  all_goals simp
@[simp] theorem backStep4_ledger (c : Ch) : (backStep4 s c).ledger = s.ledger := by
  unfold backStep4
  repeat' split
  all_goals simp
@[simp] theorem backStep3_ledger (c : Ch) : (backStep3 s c).ledger = s.ledger := by
  unfold backStep3; dsimp only
  repeat' split
  all_goals simp
@[simp] theorem backStep2_ledger (c : Ch) : (backStep2 s c).ledger = s.ledger := by
  unfold backStep2; dsimp only
  repeat' split
  all_goals simp
@[simp] theorem enterBack_ledger (c : Ch) (e : Exit) : (enterBack s c e).ledger = s.ledger := by simp [enterBack]

/-! #### Aborts, cuts, suspending causes -/

@[simp] theorem keepFinalCell_ledger (c : Ch) : (keepFinalCell s c).ledger = s.ledger := by
  unfold keepFinalCell
  repeat' split
  all_goals simp
@[simp] theorem abortRound_ledger (c : Ch) (o : Outcome) :
    (abortRound s c o).ledger = s.ledger := by simp [abortRound]
@[simp] theorem askStop_ledger (c : Ch) : (askStop s c).ledger = s.ledger := by
  unfold askStop
  repeat' split
  all_goals simp
@[simp] theorem cutRound_ledger (c : Ch) (defer h2 : Bool) : (cutRound s c defer h2).ledger = s.ledger := by
  unfold cutRound cutFlags; dsimp only
  repeat' split
  all_goals simp
@[simp] theorem readingCause_ledger (c : Ch) (o : Outcome) : (readingCause s c o).ledger = s.ledger := by
  unfold readingCause
  repeat' split
  all_goals simp
@[simp] theorem suspendingCause_ledger (c : Ch) (cause : Cause) :
    (suspendingCause s c cause).ledger = s.ledger := by
  unfold suspendingCause
  repeat' split
  all_goals simp
@[simp] theorem deliverCause_ledger (cause : Cause) (concerns : Stage → Bool) :
    (deliverCause s cause concerns).ledger = s.ledger :=
  ledger_foldl s _ (fun t x => by split <;> simp) _

/-! #### Ramp and hold -/

@[simp] theorem targetTest_ledger (c : Ch) : (targetTest s c).ledger = s.ledger := by
  unfold targetTest enterHold; dsimp only
  repeat' split
  all_goals simp
@[simp] theorem enterRamp_ledger (c : Ch) : (enterRamp s c).ledger = s.ledger := by simp [enterRamp]
@[simp] theorem rampStep_ledger (c : Ch) : (rampStep s c).ledger = s.ledger := by simp [rampStep]
@[simp] theorem finish_ledger (c : Ch) (o : Outcome) : (finish s c o).ledger = s.ledger := by
  unfold finish; dsimp only
  repeat' split
  all_goals simp
@[simp] theorem screenCell_ledger (c : Ch) (p : Pos) (mean cell mv : Nat) :
    (screenCell s c p mean cell mv).ledger = s.ledger := by
  unfold screenCell; dsimp only
  repeat' split
  all_goals simp
@[simp] theorem screenFrom_ledger (c : Ch) (p : Pos) (mean n : Nat) (l : List CellEntry) :
    (screenFrom c p mean n l s).ledger = s.ledger := by
  induction l generalizing n s with
  | nil => rfl
  | cons e l ih => rw [screenFrom, ih, screenCell_ledger]
@[simp] theorem screenCells_ledger (c : Ch) (p : Pos) : (screenCells s c p).ledger = s.ledger := by
  unfold screenCells
  repeat' split
  all_goals simp
@[simp] theorem windowEnd_ledger (c : Ch) : (windowEnd s c).ledger = s.ledger := by
  unfold windowEnd runawayAbort; dsimp only
  repeat' split
  all_goals simp
@[simp] theorem holdWindow_ledger (c : Ch) : (holdWindow s c).ledger = s.ledger := by
  unfold holdWindow; dsimp only
  repeat' split
  all_goals simp
@[simp] theorem holdLimitTest_ledger (c : Ch) : (holdLimitTest s c).ledger = s.ledger := by
  unfold holdLimitTest
  repeat' split
  all_goals simp
@[simp] theorem holdMinute_ledger (c : Ch) : (holdMinute s c).ledger = s.ledger := by simp [holdMinute]
@[simp] theorem chargeSample_ledger (c : Ch) (amps : Eight Int) : (chargeSample s c amps).ledger = s.ledger := by
  unfold chargeSample; dsimp only
  repeat' split
  all_goals simp

/-! #### Readings of the held string -/

@[simp] theorem holdback_ledger (c : Ch) (x : Context) : (holdback s c x).ledger = s.ledger := by simp [holdback]
@[simp] theorem channelScan_ledger (p : Pos) : (channelScan s p).ledger = s.ledger := by
  unfold channelScan
  repeat' split
  all_goals simp
@[simp] theorem channelPilot_ledger (p : Pos) : (channelPilot s p).ledger = s.ledger := by
  unfold channelPilot; dsimp only
  repeat' split
  all_goals simp
@[simp] theorem recomputeComp_ledger (p : Pos) : (recomputeComp s p).ledger = s.ledger := by
  unfold recomputeComp; dsimp only
  split
  · rw [targetTest_ledger, writeHysteresis_ledger]; rfl
  · rfl

/-! #### Leaving the load bus -/

@[simp] theorem outStep4_ledger (c : Ch) : (outStep4 s c).ledger = s.ledger := by
  unfold outStep4; dsimp only
  repeat' split
  all_goals simp
@[simp] theorem outStep3_ledger (c : Ch) : (outStep3 s c).ledger = s.ledger := by
  unfold outStep3; dsimp only
  repeat' split
  all_goals simp
@[simp] theorem outStep2_ledger (c : Ch) : (outStep2 s c).ledger = s.ledger := by
  unfold outStep2; dsimp only
  repeat' split
  all_goals simp
@[simp] theorem startTransferOut_ledger (c : Ch) :
    (startTransferOut s c).ledger = s.ledger := by simp [startTransferOut]

/-! #### Contactor feedback, timeouts -/

@[simp] theorem contactorFault_ledger (c : Ch) (p : Pos) (k : Contactor) (l : Option Level) :
    (contactorFault s c p k l).ledger = s.ledger := rfl
@[simp] theorem disagreement_ledger (c : Ch) (p : Pos) (k : Contactor) (l : Option Level) :
    (disagreement s c p k l).ledger = s.ledger := by
  unfold disagreement
  repeat' split
  all_goals simp
@[simp] theorem nextStep_ledger (c : Ch) (k : Contactor) : (nextStep s c k).ledger = s.ledger := by
  unfold nextStep; dsimp only
  repeat' split
  all_goals simp
@[simp] theorem channelFeedback_ledger (p : Pos) (k : Contactor) (l : Option Level) :
    (channelFeedback s p k l).ledger = s.ledger := by
  unfold channelFeedback; dsimp only
  repeat' split
  all_goals simp
@[simp] theorem outTimeout_ledger (c : Ch) (k : Contactor) : (outTimeout s c k).ledger = s.ledger := by
  unfold outTimeout
  repeat' split
  all_goals simp
@[simp] theorem backTimeout_ledger (c : Ch) (k : Contactor) : (backTimeout s c k).ledger = s.ledger := by
  unfold backTimeout; dsimp only
  repeat' split
  all_goals simp

/-! #### Settle, water, a Restart -/

@[simp] theorem enterWater_ledger (c : Ch) : (enterWater s c).ledger = s.ledger := by
  unfold enterWater; dsimp only
  repeat' split
  all_goals simp
@[simp] theorem settleEnd_ledger (c : Ch) : (settleEnd s c).ledger = s.ledger := by
  unfold settleEnd
  repeat' split
  all_goals simp
@[simp] theorem giveUp_ledger (c : Ch) : (giveUp s c).ledger = s.ledger := by simp [giveUp]
@[simp] theorem lineReturn_ledger (c : Ch) (w : WaterResult) : (lineReturn s c w).ledger = s.ledger := by
  unfold lineReturn; dsimp only
  repeat' split
  all_goals simp
@[simp] theorem restartChannel_ledger (c : Ch) : (restartChannel s c).ledger = s.ledger := by
  unfold restartChannel; dsimp only
  repeat' split
  all_goals simp

/-! #### Round Admission -/

@[simp] theorem giveChannel_ledger (c : Ch) (x : Context) :
    (giveChannel s c x).ledger = s.ledger := by simp [giveChannel]
@[simp] theorem admitEntry_ledger (e : Entry) : (admitEntry s e).ledger = s.ledger := by
  unfold admitEntry giveLine; dsimp only
  repeat' split
  all_goals simp
@[simp] theorem removeHeld_ledger (h : Held) : (removeHeld s h).ledger = s.ledger := rfl
@[simp] theorem admitHeld_ledger (h : Held) : (admitHeld s h).ledger = s.ledger := by
  unfold admitHeld
  repeat' split
  all_goals simp
@[simp] theorem evaluatePasses_ledger (n : Nat) : (evaluatePasses n s).ledger = s.ledger := by
  induction n generalizing s with
  | zero => rfl
  | succ n ih =>
    unfold evaluatePasses
    repeat' split
    all_goals simp [ih]
@[simp] theorem evaluate_ledger : (evaluate s).ledger = s.ledger := by
  unfold evaluate
  repeat' split
  all_goals simp

/-! #### Site Permissions and the settling of a step -/

@[simp] theorem recomputeSurplus_ledger : (recomputeSurplus s).ledger = s.ledger := by
  unfold recomputeSurplus surplusLost surplusBack; dsimp only
  repeat' split
  all_goals simp
@[simp] theorem disableChargers_ledger : (disableChargers s).ledger = s.ledger :=
  ledger_foldl s _ (fun t x => by split <;> simp) _
@[simp] theorem lineHalt_ledger : (lineHalt s).ledger = s.ledger := by
  unfold lineHalt
  repeat' split
  all_goals simp
@[simp] theorem h2Delivered_ledger : (h2Delivered s).ledger = s.ledger := by
  unfold h2Delivered h2Start purgeStart; dsimp only
  repeat' split
  all_goals simp
@[simp] theorem speedDelivered_ledger (n : Nat) : (speedDelivered s n).ledger = s.ledger := by simp [speedDelivered]
@[simp] theorem ventFails_ledger : (ventFails s).ledger = s.ledger := by simp [ventFails]
@[simp] theorem ventRecovers_ledger : (ventRecovers s).ledger = s.ledger := by simp [ventRecovers]
@[simp] theorem reserveTest_ledger : (reserveTest s).ledger = s.ledger := by
  unfold reserveTest; dsimp only
  repeat' split
  all_goals simp
@[simp] theorem settleWith_ledger (n : Nat) : (settleWith n s).ledger = s.ledger := by
  induction n generalizing s with
  | zero => rfl
  | succ n ih =>
    unfold settleWith
    repeat' split
    all_goals simp [ih]
@[simp] theorem settle_ledger : (settle s).ledger = s.ledger := settleWith_ledger s 16
@[simp] theorem endHeld_ledger (h : Held) (o : Outcome) : (endHeld s h o).ledger = s.ledger := by simp [endHeld]
@[simp] theorem expireHeld_ledger (h : Held) (why : Expiry) :
    (expireHeld s h why).ledger = s.ledger := by simp [expireHeld]
@[simp] theorem interruptHeld_ledger : (interruptHeld s).ledger = s.ledger :=
  ledger_foldl s _ (fun t h => endHeld_ledger t h _) _
@[simp] theorem suspendMaxLowered_ledger : (suspendMaxLowered s).ledger = s.ledger :=
  ledger_foldl s _ (fun t x => by split <;> simp) _
@[simp] theorem heldMinute_ledger (h : Held) : (heldMinute s h).ledger = s.ledger := by
  unfold heldMinute; dsimp only
  repeat' split
  all_goals simp

/-! #### The account's test and the end of a watering -/

@[simp] theorem reservoirTest_ledger : (reservoirTest s).ledger = s.ledger := by rw [← reservoirTest_frame]; rfl
@[simp] theorem pulseTests_ledger : (pulseTests s).ledger = s.ledger := by
  unfold pulseTests overvolume enterPause
  repeat' split
  all_goals simp
@[simp] theorem lineResLow_ledger : (lineResLow s).ledger = s.ledger := by
  unfold lineResLow
  repeat' split
  all_goals simp
@[simp] theorem endLineRound_ledger : (endLineRound s).ledger = s.ledger := by
  unfold endLineRound; dsimp only
  repeat' split
  all_goals simp
@[simp] theorem handDoseEnd_ledger (d : DoseEnd) : (handDoseEnd s d).ledger = s.ledger := by
  unfold handDoseEnd
  repeat' split
  all_goals simp
@[simp] theorem closingEnd_ledger : (closingEnd s).ledger = s.ledger := by
  unfold closingEnd backToManual; dsimp only
  repeat' split
  all_goals simp
@[simp] theorem restartLine_ledger : (restartLine s).ledger = s.ledger := by
  unfold restartLine; dsimp only
  repeat' split
  all_goals simp

/-! #### Samples, scans, seconds, conversions -/

@[simp] theorem deliver_ledger (i : InputId) (k : DeliveryKind) :
    (deliver s i k).ledger = s.ledger := by cases i <;> simp [deliver]
@[simp] theorem sampleInput_ledger (i : InputId) (l : Level) : (sampleInput s i l).ledger = s.ledger := by
  unfold sampleInput; dsimp only
  repeat' split
  all_goals simp
@[simp] theorem sampleInputs_ledger (levels : BitVec 35) (n : Nat) (l : List InputId) :
    (sampleInputs levels n l s).ledger = s.ledger := by
  induction l generalizing n s with
  | nil => rfl
  | cons e l ih => rw [sampleInputs, ih, sampleInput_ledger]
@[simp] theorem completeScan_ledger (p : Pos) (mvs : List Nat) :
    (completeScan s p mvs).ledger = s.ledger := by simp [completeScan]
@[simp] theorem sampleCurrents_ledger (dA : Eight Int) : (sampleCurrents s dA).ledger = s.ledger := by
  unfold sampleCurrents; dsimp only
  rw [chargeSample_ledger, chargeSample_ledger, ledger_foldl _ _ fun t p => throughputAdd_ledger t p _]
  rfl
@[simp] theorem completePilot_ledger (p : Pos) (nTh nRef : Nat) :
    (completePilot s p nTh nRef).ledger = s.ledger := by simp [completePilot]
@[simp] theorem completeAmbient_ledger (nTh nRef : Nat) : (completeAmbient s nTh nRef).ledger = s.ledger := by
  unfold completeAmbient; dsimp only
  rw [ledger_mk, ledger_eta, computeFloat_ledger, ledger_foldl _ _ fun t p => by split <;> simp]
  rfl

/-! #### The link and the requests' rules -/

@[simp] theorem completeFrame_ledger (b : Byte) : (completeFrame s b).ledger = s.ledger := by
  unfold completeFrame linkError; dsimp only
  repeat' split
  all_goals simp
@[simp] theorem framerByte_ledger (b : Byte) : (framerByte s b).ledger = s.ledger := by
  unfold framerByte linkError; dsimp only
  repeat' split
  all_goals simp
@[simp] theorem setpointsChanged_ledger (floatToo : Bool) : (setpointsChanged s floatToo).ledger = s.ledger := by
  have hall : (Pos.all.foldl recomputeComp s).ledger = s.ledger := ledger_foldl s _ recomputeComp_ledger _
  unfold setpointsChanged; dsimp only
  split <;> simp [hall]
@[simp] theorem limitChanged_ledger : (limitChanged s).ledger = s.ledger :=
  ledger_foldl s _ (fun t x => by split <;> simp) _
@[simp] theorem flatCountChanged_ledger : (flatCountChanged s).ledger = s.ledger :=
  ledger_foldl s _ (fun t x => by split <;> simp) _
@[simp] theorem changePolarity_ledger (old new : Nat) : (changePolarity s old new).ledger = s.ledger :=
  ledger_foldl s _ (fun t x => by split <;> simp) _
@[simp] theorem submitTests_ledger (f : Frame) (b : Submission) (k : Kind) (c : RoundClass) (p : Pos) :
    (submitTests s f b k c p).ledger = s.ledger := by
  unfold submitTests placeEntry; dsimp only
  repeat' split
  all_goals simp
@[simp] theorem serveSubmitRound_ledger (f : Frame) : (serveSubmitRound s f).ledger = s.ledger := by
  unfold serveSubmitRound; dsimp only
  repeat' split
  all_goals simp
@[simp] theorem serveCancelRound_ledger (f : Frame) : (serveCancelRound s f).ledger = s.ledger := by
  unfold serveCancelRound cancelHeld cancelOnLine cancelOnChannel cancelReply; dsimp only
  repeat' split
  all_goals simp
@[simp] theorem serveSupplyGrant_ledger (f : Frame) :
    (serveSupplyGrant s f).ledger = s.ledger := by simp [serveSupplyGrant]
@[simp] theorem serveClaimLine_ledger (f : Frame) : (serveClaimLine s f).ledger = s.ledger := by
  unfold serveClaimLine
  repeat' split
  all_goals simp
@[simp] theorem serveReleaseLine_ledger (f : Frame) : (serveReleaseLine s f).ledger = s.ledger := by
  unfold serveReleaseLine; dsimp only
  repeat' split
  all_goals simp
@[simp] theorem serveManualDose_ledger (f : Frame) : (serveManualDose s f).ledger = s.ledger := by
  unfold serveManualDose; dsimp only
  repeat' split
  all_goals simp
@[simp] theorem serveClearWeak_ledger (f : Frame) : (serveClearWeak s f).ledger = s.ledger := by
  unfold serveClearWeak; dsimp only
  repeat' split
  all_goals simp
@[simp] theorem serveReleaseLock_ledger (f : Frame) : (serveReleaseLock s f).ledger = s.ledger := by
  unfold serveReleaseLock; dsimp only
  repeat' split
  all_goals simp
@[simp] theorem serveSetNoticeMaster_ledger (f : Frame) : (serveSetNoticeMaster s f).ledger = s.ledger := by
  unfold serveSetNoticeMaster; dsimp only
  repeat' split
  all_goals simp
@[simp] theorem serveClearConditions_ledger (f : Frame) : (serveClearConditions s f).ledger = s.ledger := by
  have hrelatch : ∀ (t : State) (c : Condition), (relatch t c).ledger = t.ledger := fun t c => by cases c <;> rfl
  unfold serveClearConditions; dsimp only
  split
  · rfl
  · rw [reply_ledger, ledger_foldl _ relatch hrelatch, ledger_foldl _ clearLatch fun _ _ => rfl]
@[simp] theorem serveReadLog_ledger (f : Frame) : (serveReadLog s f).ledger = s.ledger := by
  unfold serveReadLog; dsimp only
  repeat' split
  all_goals simp

/-! #### The reports -/

@[simp] theorem readStatusReply_ledger (f : Frame) : (readStatusReply s f).ledger = s.ledger := by
  unfold readStatusReply
  repeat' split
  all_goals simp
@[simp] theorem readStringReply_ledger (f : Frame) : (readStringReply s f).ledger = s.ledger := by
  unfold readStringReply
  repeat' split
  all_goals simp
@[simp] theorem readCellsReply_ledger (f : Frame) : (readCellsReply s f).ledger = s.ledger := by
  unfold readCellsReply
  repeat' split
  all_goals simp
@[simp] theorem readSettingReply_ledger (f : Frame) : (readSettingReply s f).ledger = s.ledger := by
  unfold readSettingReply
  repeat' split
  all_goals simp

/-! #### Initialisation -/

@[simp] theorem recoverRecords_ledger : (recoverRecords s).ledger = s.ledger :=
  ledger_foldl s _ (fun t x => by split <;> simp) _
@[simp] theorem owedByChannel_ledger (c : Ch) : (owedByChannel s c).ledger = s.ledger := by
  unfold owedByChannel
  repeat' split
  all_goals simp
@[simp] theorem owedByLine_ledger : (owedByLine s).ledger = s.ledger := by
  unfold owedByLine
  repeat' split
  all_goals simp
@[simp] theorem initialTests_ledger : (initialTests s).ledger = s.ledger := by simp [initialTests]

end

end Sys2Proof.Machine
end

-- ==== Proofs: every command keeps the settings in range and the account within its capacity ====
section
/-! PROOFS. What a command can do to the store and the account, and the laws of the settings and of the account read
off it (O59). -/

namespace Sys2Proof.Machine

open Sys2Proof.Safety

/-! ### Values in range (R184, R185) -/

/-- A value in a setting's range: between its bounds, or a set without an undefined bit, FITTED not empty. -/
def LegalValue (i : SettingId) (v : Nat) : Prop :=
  (i.isSet = false → i.low ≤ v ∧ v ≤ i.high) ∧ (i = .fitted → 1 ≤ v ∧ v ≤ 255)
    ∧ (i = .noticeEnables → v ≤ 65535) ∧ (i = .polarity → v ≤ 127)

theorem settings_get_set (t : Settings) (i j : SettingId) (v : Nat) :
    (t.set i v).get j = if j = i then v else t.get j := by
  by_cases h : j = i
  · subst h; simp
  · rw [if_neg h]
    cases i <;> cases j <;> first | rfl | exact absurd rfl h

/-- Settings are in range just when each value is. -/
theorem inRange_iff (t : Settings) : InRange t ↔ ∀ i : SettingId, LegalValue i (t.get i) := by
  constructor
  · rintro ⟨hnumeric, hlow, hhigh, hnotice, hpolarity⟩ i
    exact ⟨hnumeric i, fun hi => by subst hi; exact ⟨hlow, hhigh⟩, fun hi => by subst hi; exact hnotice,
      fun hi => by subst hi; exact hpolarity⟩
  · intro h
    obtain ⟨-, hfitted, -, -⟩ := h .fitted
    obtain ⟨-, -, hnotice, -⟩ := h .noticeEnables
    obtain ⟨-, -, -, hpolarity⟩ := h .polarity
    obtain ⟨hlow, hhigh⟩ := hfitted rfl
    exact ⟨fun i => (h i).1, hlow, hhigh, hnotice rfl, hpolarity rfl⟩

/-- A legal value leaves the settings in range. -/
theorem inRange_set {t : Settings} (h : InRange t) {i : SettingId} {v : Nat} (hv : LegalValue i v) :
    InRange (t.set i v) := by
  rw [inRange_iff] at h ⊢
  intro j
  rw [settings_get_set]
  split
  next hj => rw [hj]; exact hv
  next => exact h j

/-- A numeric setting takes the nearest value of its range (R185). -/
theorem settingValue_of_numeric (i : SettingId) (v : Nat) (h : i.isSet = false) :
    settingValue i v = max i.low (min i.high v) := by
  cases i with
  | fitted | noticeEnables | polarity => cases h
  | _ => rfl

theorem settingId_low_le_high (i : SettingId) : i.low ≤ i.high := by cases i <;> decide

/-- The value a Set Setting stores, once its tests are passed, is legal (R185). -/
theorem legalValue_settingValue (s : State) (i : SettingId) (v : Nat) (htests : settingRefusal s i v = none) :
    LegalValue i (settingValue i v) := by
  have hdefined : definedBits i v = true := by
    by_contra hundefined
    rw [settingRefusal, if_pos (by simpa using hundefined)] at htests
    cases htests
  refine ⟨fun hset => ?_, fun hi => ?_, fun hi => ?_, fun hi => ?_⟩
  · have hrange := settingId_low_le_high i
    rw [settingValue_of_numeric i v hset]
    omega
  · subst hi
    have hnonempty : v ≠ 0 := by
      rintro rfl
      simp [settingRefusal] at htests
    have hbits : v < 256 := by simpa [definedBits] using hdefined
    show 1 ≤ v ∧ v ≤ 255
    omega
  · subst hi
    have hbits : v < 65536 := by simpa [definedBits] using hdefined
    show v - v % 8 ≤ 65535
    omega
  · subst hi
    have hbits : v < 128 := by simpa [definedBits] using hdefined
    show v ≤ 127
    omega

/-! ### The operations that change the ledger -/

section
variable (s : State)

theorem setAccount_ledger (v : Nat) : (setAccount s v).ledger = { s.ledger with account := v } := by
  rw [setAccount, reservoirTest_ledger]
  rfl

/-- A pulse takes its volume from the account (R153). -/
theorem linePulse_ledger :
    (linePulse s).ledger = { s.ledger with account := s.reservoir.account - s.cfg.flowMlPerPulse } := by
  unfold linePulse countPulse; dsimp only
  repeat' split
  all_goals simp [setAccount_ledger]

/-- A change of FITTED replaces that working value (R67). -/
theorem changeFitted_ledger (v : Nat) :
    (changeFitted s v).ledger =
      { store := { s.store with working := s.store.working.set .fitted v }
        account := s.reservoir.account, restartAt := s.restartAt } := by
  unfold changeFitted; dsimp only
  rw [ledger_foldl _ _ (fun t p => by split <;> simp), ledger_foldl _ _ (fun t p => by split <;> simp)]
  rfl

/-- What the blocks do at once on a changed setting leaves the store with the new working value, and the account
where it was unless its capacity is set (R153, R185). -/
theorem applySetting_ledger (i : SettingId) (v : Nat) :
    (applySetting s i v).ledger =
      { store := { s.store with working := s.store.working.set i v }
        account := if i = .reservoirCapMl then min s.reservoir.account v else s.reservoir.account
        restartAt := s.restartAt } := by
  have hset : (setWorking s i v).ledger =
      { store := { s.store with working := s.store.working.set i v }
        account := s.reservoir.account, restartAt := s.restartAt } := rfl
  cases i <;> simp [applySetting, hset, setAccount_ledger, changeFitted_ledger]

end

/-! ### What a command can do to the ledger -/

/-- What a command can do to the store, the account and the restarting time, by the phase and the ledger it leaves. -/
inductive LedgerMoves (s : State) (phase : Phase) (l : Ledger) : Prop
  /-- Nothing, or the account falls or is set within its capacity; a Restart starts its time while the part runs. -/
  | kept (hphase : phase = .held ↔ s.phase = .held) (hworking : l.store.working = s.store.working)
      (hstored : l.store.stored = s.store.stored)
      (haccount : l.account ≤ s.reservoir.account ∨ l.account ≤ s.cfg.reservoirCapMl)
      (hrestart : l.restartAt = s.restartAt ∨ s.phase ≠ .held)
  /-- Power-on or RESET_N (R6, R186). -/
  | reset (hphase : phase = .held) (hrestart : l.restartAt = none) (hworking : l.store.working = .default)
      (hstored : l.store.stored = s.store.stored ∨ l.store.stored = s.store.working)
  /-- The load of the settings, or of the defaults (R186). -/
  | loaded (hphase : phase ≠ .held) (hstored : l.store.stored = s.store.stored ∨ l.store.stored = .default)
      (hworking : l.store.working = l.store.stored) (haccount : l.account ≤ l.store.working.reservoirCapMl)
  /-- The final step of a Restart (R190). -/
  | restarted (hrestarting : s.restartAt ≠ none) (hphase : phase ≠ .held)
      (hworking : l.store.working = s.store.working)
      (hstored : l.store.stored = s.store.working) (haccount : l.account = s.reservoir.account)
  /-- A Set Setting (R185). -/
  | set (i : SettingId) (v : Nat) (hlegal : LegalValue i v) (hrunning : s.phase ≠ .held) (hphase : phase = s.phase)
      (hworking : l.store.working = s.store.working.set i v) (hstored : l.store.stored = s.store.stored)
      (haccount : l.account = if i = .reservoirCapMl then min s.reservoir.account v else s.reservoir.account)
  /-- The end of the store's write (R185). -/
  | written (hphase : phase = s.phase) (hworking : l.store.working = s.store.working)
      (hstored : l.store.stored = s.store.working) (haccount : l.account = s.reservoir.account)
      (hrestart : l.restartAt = s.restartAt)

/-- A command's answer is what a command can do to the ledger. -/
def Moves (s : State) (o : Host.Outcome State Fault Refusal) : Prop :=
  ∀ t, o = .next t → LedgerMoves s t.phase t.ledger

section
variable {s t : State}

theorem LedgerMoves.of_same (hphase : t.phase = s.phase) (hledger : t.ledger = s.ledger) :
    LedgerMoves s t.phase t.ledger := by
  rw [hphase, hledger]
  exact .kept Iff.rfl rfl rfl (.inl le_rfl) (.inl rfl)

theorem moves_next (h : LedgerMoves s t.phase t.ledger) : Moves s (.next t) := by
  rintro u ⟨⟩
  exact h

theorem moves_settled (h : LedgerMoves s t.phase t.ledger) : Moves s (settled t) :=
  moves_next (by rwa [settle_phase, settle_ledger])

theorem moves_stay : Moves s (.next s) := moves_next (.of_same rfl rfl)

/-- A command that acts on a condition, and otherwise changes nothing. -/
theorem moves_ite {c : Prop} [Decidable c] {o : Host.Outcome State Fault Refusal} (hact : c → Moves s o) :
    Moves s (if c then o else .next s) := by
  split
  next hc => exact hact hc
  next => exact moves_stay

/-- A request is taken when the part is ready, and its rule acts once its frame is taken (R181, R189). -/
theorem moves_serve_of (mine : Frame → Bool) (fits : Nat → Bool) {act : State → Frame → State}
    (hact : ∀ f, s.phase ≠ .held → LedgerMoves s (act (afterTaking s) f).phase (act (afterTaking s) f).ledger) :
    Moves s (serve s mine fits act) := by
  unfold serve
  split
  · exact moves_stay
  next f htaken =>
    have hrun : s.phase ≠ .held := by
      intro hheld
      simp [takable, hheld] at htaken
    split
    · split
      · exact moves_next (.of_same rfl rfl)
      · split
        · exact moves_settled (hact f hrun)
        · exact moves_next (.of_same rfl rfl)
    · exact moves_stay

theorem moves_serveKind_of (kind : Byte) (n : Nat) {act : State → Frame → State}
    (hact : ∀ f, s.phase ≠ .held → LedgerMoves s (act (afterTaking s) f).phase (act (afterTaking s) f).ledger) :
    Moves s (serveKind s kind n act) :=
  moves_serve_of _ _ hact

/-- A request whose rule leaves the ledger alone. -/
theorem moves_serve (mine : Frame → Bool) (fits : Nat → Bool) {act : State → Frame → State}
    (hphase : ∀ t f, (act t f).phase = t.phase) (hledger : ∀ t f, (act t f).ledger = t.ledger) :
    Moves s (serve s mine fits act) :=
  moves_serve_of _ _ fun f _ => .of_same (hphase _ f) (hledger _ f)

theorem moves_serveKind (kind : Byte) (n : Nat) {act : State → Frame → State}
    (hphase : ∀ t f, (act t f).phase = t.phase) (hledger : ∀ t f, (act t f).ledger = t.ledger) :
    Moves s (serveKind s kind n act) :=
  moves_serve _ _ hphase hledger

/-! #### Resets and start-up -/

theorem moves_execPowerOn : Moves s (execPowerOn s) := moves_next (.reset rfl rfl rfl (.inl rfl))

theorem moves_execResetN : Moves s (execResetN s) := by
  unfold execResetN
  split
  · split
    · exact moves_next (.reset rfl rfl rfl (.inl rfl))
    · exact moves_next (.reset rfl rfl rfl (.inr rfl))
  · exact moves_next (.reset rfl rfl rfl (.inl rfl))

/-- The release loads the settings and holds the account within the capacity they give (R186, R153). -/
theorem moves_execResetRelease : Moves s (execResetRelease s) := by
  refine moves_ite fun _ => moves_settled ?_
  rw [initialTests_phase, initialTests_ledger, recoverRecords_phase, recoverRecords_ledger]
  have hloaded : ∀ t : State, t.phase ≠ .held → (t.store.stored = s.store.stored) →
      LedgerMoves s (loadSettings t).phase (loadSettings t).ledger := by
    intro t hphase hstored
    unfold loadSettings; dsimp only
    split
    · exact .loaded hphase (.inl hstored) rfl (Nat.min_le_right _ _)
    · exact .loaded hphase (.inr rfl) rfl (Nat.min_le_right _ _)
  exact hloaded _ (by simp) rfl

theorem moves_execReady : Moves s (execReady s) := by
  refine moves_ite fun hinit => moves_next (.kept ?_ rfl rfl (.inl le_rfl) (.inl rfl))
  simp [hinit]

theorem moves_execFinalStep : Moves s (execFinalStep s) := by
  refine moves_ite fun hdue => moves_settled ?_
  have hrestarting : s.restartAt ≠ none := by
    intro hnone
    simp [finalDue, hnone] at hdue
  rw [initialTests_phase, initialTests_ledger, recoverRecords_phase, recoverRecords_ledger]
  generalize ht : owedByLine _ = t
  have howed : t.ledger = s.ledger := by rw [← ht]; simp
  have hstore : t.store = s.store := congrArg Ledger.store howed
  have hworking : t.store.working = s.store.working := by rw [hstore]
  exact .restarted hrestarting (by simp [restartReset_phase]) hworking hworking (congrArg Ledger.account howed)

/-! #### The commands that change the store or the account -/

theorem moves_execFlowPulse : Moves s (execFlowPulse s) := by
  refine moves_ite fun _ => moves_settled ?_
  rw [linePulse_phase, linePulse_ledger]
  exact .kept Iff.rfl rfl rfl (.inl (Nat.sub_le _ _)) (.inl rfl)

/-- A Set Setting that passes its tests changes one working value, if any (R185). -/
theorem acceptSetting_moves (t : State) (f : Frame) (i : SettingId) (v : Nat) (htests : settingRefusal t i v = none)
    (hphase : t.phase = s.phase) (hledger : t.ledger = s.ledger) (hrun : s.phase ≠ .held) :
    LedgerMoves s (acceptSetting t f i v).phase (acceptSetting t f i v).ledger := by
  have hstore : t.store = s.store := congrArg Ledger.store hledger
  have haccount : t.reservoir.account = s.reservoir.account := congrArg Ledger.account hledger
  have hrestart : t.restartAt = s.restartAt := congrArg Ledger.restartAt hledger
  unfold acceptSetting; dsimp only
  rw [reply_phase, reply_ledger]
  split
  · exact .kept (by rw [← hphase]) (by rw [← hstore]; rfl) (by rw [← hstore]; rfl) (.inl haccount.le)
      (.inl hrestart)
  · generalize hu : ({ t with store := { t.store with defaulted := false } } : State) = u
    have hworking : u.store.working = s.store.working := by rw [← hu, ← hstore]
    have hstored : u.store.stored = s.store.stored := by rw [← hu, ← hstore]
    have hbook : u.reservoir.account = s.reservoir.account := by rw [← hu]; exact haccount
    have happlied := applySetting_ledger u i (settingValue i v)
    have hphases : (startWrite (applySetting u i (settingValue i v))).phase = s.phase :=
      (applySetting_phase u i _).trans (by rw [← hphase, ← hu])
    have hset : (applySetting u i (settingValue i v)).store.working = u.store.working.set i (settingValue i v) :=
      congrArg (·.store.working) happlied
    have hkept : (applySetting u i (settingValue i v)).store.stored = u.store.stored :=
      congrArg (·.store.stored) happlied
    have hcapped := congrArg Ledger.account happlied
    rw [hphases]
    refine .set i _ (legalValue_settingValue t i v htests) hrun rfl (hset.trans (by rw [hworking]))
      (hkept.trans hstored) (hcapped.trans ?_)
    rw [hbook]

theorem moves_execSetSetting : Moves s (execSetSetting s) := by
  refine moves_serveKind_of _ _ fun f hrun => ?_
  unfold serveSetSetting; dsimp only
  split
  · exact .of_same rfl rfl
  · split
    · exact .of_same rfl rfl
    · split
      · exact .of_same rfl rfl
      next htests => exact acceptSetting_moves _ f _ _ htests rfl rfl hrun

theorem moves_execStoreWriteEnd : Moves s (execStoreWriteEnd s) :=
  moves_ite fun _ => moves_next (.written rfl rfl rfl rfl rfl)

theorem moves_execRefill : Moves s (execRefill s) := by
  refine moves_serveKind_of _ _ fun f _ => ?_
  rw [serveRefill_phase]
  unfold serveRefill; dsimp only
  rw [reply_ledger, wantAdmission_ledger, setAccount_ledger]
  exact .kept Iff.rfl rfl rfl (.inr (Nat.min_le_right _ _)) (.inl rfl)

/-- A Restart is taken while the part is ready (R190). -/
theorem moves_execRestart : Moves s (execRestart s) := by
  refine moves_serveKind_of _ _ fun f hrun => ?_
  rw [serveRestart_phase]
  unfold serveRestart; dsimp only
  rw [restartLine_ledger, restartChannel_ledger, restartChannel_ledger, interruptHeld_ledger]
  exact .kept Iff.rfl rfl rfl (.inl le_rfl) (.inr hrun)

/-! #### Events and timed rows that leave the ledger alone -/

/-- A command that leaves the phase and the ledger alone. -/
theorem moves_next_same (hphase : t.phase = s.phase) (hledger : t.ledger = s.ledger) : Moves s (.next t) :=
  moves_next (.of_same hphase hledger)

theorem moves_settled_same (hphase : t.phase = s.phase) (hledger : t.ledger = s.ledger) : Moves s (settled t) :=
  moves_settled (.of_same hphase hledger)

theorem moves_execScanCompletion (mvs : List Nat) : Moves s (execScanCompletion mvs s) := by
  unfold execScanCompletion
  split
  · exact moves_ite fun _ => moves_settled_same (by simp) (by simp)
  · exact moves_stay

theorem moves_execConversionCompletion (gateTh gateRef : Nat) :
    Moves s (execConversionCompletion gateTh gateRef s) := by
  have htick : (conversionTick s).phase = s.phase ∧ (conversionTick s).ledger = s.ledger := ⟨rfl, rfl⟩
  obtain ⟨hphase, hledger⟩ := htick
  refine moves_ite fun _ => ?_
  dsimp only
  split <;> exact moves_settled_same (by simp [hphase]) (by simp [hledger])

theorem moves_execTachEdge (n : Nat) : Moves s (execTachEdge n s) := by
  refine moves_ite fun _ => ?_
  split
  · exact moves_next_same rfl rfl
  · dsimp only
    split
    · exact moves_stay
    · exact moves_settled_same (by simp [speedDelivered]) (by simp)

theorem moves_execTachTimeout : Moves s (execTachTimeout s) := by
  unfold execTachTimeout
  split
  · exact moves_stay
  · exact moves_ite fun _ => moves_settled_same (by simp [speedDelivered]) (by simp)

theorem moves_execTransferOutTimeout (c : Ch) : Moves s (execTransferOutTimeout c s) := by
  unfold execTransferOutTimeout
  split
  · exact moves_settled_same (by simp) (by simp)
  · exact moves_stay

theorem moves_execTransferBackTimeout (c : Ch) : Moves s (execTransferBackTimeout c s) := by
  unfold execTransferBackTimeout
  split
  · exact moves_settled_same (by simp) (by simp)
  · exact moves_stay

theorem moves_execGiveUp (c : Ch) : Moves s (execGiveUp c s) := by
  unfold execGiveUp
  split
  · exact moves_ite fun _ => moves_settled_same (by simp) (by simp)
  · exact moves_stay

theorem moves_execAgeMinute (p : Pos) : Moves s (execAgeMinute p s) := by
  unfold execAgeMinute
  split
  · exact moves_ite fun _ => moves_next_same rfl rfl
  · split
    · exact moves_ite fun _ => moves_settled_same (by simp) (by simp)
    · exact moves_stay

theorem moves_execManualDoseEnd : Moves s (execManualDoseEnd s) := by
  unfold execManualDoseEnd
  split
  · exact moves_ite fun _ => moves_next_same rfl rfl
  · exact moves_stay

theorem moves_execNotice : Moves s (execNotice s) := by
  refine moves_ite fun _ => ?_
  split
  · split
    · exact moves_next_same rfl rfl
    · exact moves_stay
  · exact moves_stay

theorem moves_execLogRecord : Moves s (execLogRecord s) := by
  unfold execLogRecord; dsimp only
  split
  · exact moves_stay
  · split
    · exact moves_stay
    · split <;> exact moves_next_same rfl rfl

theorem moves_execLogEnd : Moves s (execLogEnd s) := by
  unfold execLogEnd
  split
  · exact moves_stay
  · split
    · exact moves_stay
    · exact moves_next_same rfl rfl

/-! #### Requests with their rules written in the command -/

theorem moves_execUnknownKind : Moves s (execUnknownKind s) := moves_serve _ _ (fun _ _ => rfl) fun _ _ => rfl

theorem moves_execIdentify : Moves s (execIdentify s) := moves_serveKind _ _ (fun _ _ => rfl) fun _ _ => rfl

theorem moves_execSetClock : Moves s (execSetClock s) := moves_serveKind _ _ (fun _ _ => rfl) fun _ _ => rfl

theorem moves_execReadTemperatures : Moves s (execReadTemperatures s) :=
  moves_serve _ _ (fun _ _ => by split <;> rfl) fun _ _ => by split <;> rfl

theorem moves_execReadTemperatureDetail : Moves s (execReadTemperatureDetail s) :=
  moves_serve _ _ (fun _ _ => rfl) fun _ _ => rfl

theorem moves_execReadPlant : Moves s (execReadPlant s) := moves_serveKind _ _ (fun _ _ => rfl) fun _ _ => rfl

theorem moves_execReadQueue : Moves s (execReadQueue s) :=
  moves_serveKind _ _ (fun _ _ => by dsimp only; split <;> rfl) fun _ _ => by dsimp only; split <;> rfl

theorem moves_execReadHeld : Moves s (execReadHeld s) :=
  moves_serve _ _ (fun _ _ => by split <;> rfl) fun _ _ => by split <;> rfl

theorem moves_execReadHeldDetail : Moves s (execReadHeldDetail s) :=
  moves_serve _ _ (fun _ _ => by split <;> rfl) fun _ _ => by split <;> rfl

theorem moves_execReadWeak : Moves s (execReadWeak s) :=
  moves_serveKind _ _ (fun _ _ => by dsimp only; split <;> rfl) fun _ _ => by dsimp only; split <;> rfl

theorem moves_execClearConditions : Moves s (execClearConditions s) :=
  moves_serve _ _ serveClearConditions_phase serveClearConditions_ledger

theorem moves_execReadConditions : Moves s (execReadConditions s) := by
  have hpart : ∀ {α : Type} (g : State → α) (t : State) (f : Frame) (sel : Nat),
      (∀ l : List Byte, g (reply t f .ok l) = g t) → g (refuse t f .range) = g t →
      g (if sel = 0 then reply t f .ok (flag t.master ++ Condition.all.flatMap (latchSummary t))
        else match Condition.ofNum sel with
          | some c => reply t f .ok (latchDetail t c)
          | none => refuse t f .range) = g t := by
    intro α g t f sel hreply hrefuse
    split
    · exact hreply _
    · split
      · exact hreply _
      · exact hrefuse
  exact moves_serveKind _ _ (fun t f => hpart State.phase t f _ (fun _ => rfl) rfl)
    fun t f => hpart State.ledger t f _ (fun _ => rfl) rfl

theorem moves_execStopLog : Moves s (execStopLog s) := moves_serveKind _ _ (fun _ _ => rfl) fun _ _ => rfl

/-! #### The whole table -/

/-- Every command does to the ledger what a command can do. -/
theorem moves_exec (s : State) (i : Instr) : Moves s (exec i s) := by
  have hact : ∀ (c : Prop) [Decidable c] (t : State), t.phase = s.phase → t.ledger = s.ledger →
      Moves s (if c then settled t else .next s) :=
    fun c _ t hphase hledger => moves_ite fun _ => moves_settled_same hphase hledger
  have hplain : ∀ (c : Prop) [Decidable c] (t : State), t.phase = s.phase → t.ledger = s.ledger →
      Moves s (if c then .next t else .next s) :=
    fun c _ t hphase hledger => moves_ite fun _ => moves_next_same hphase hledger
  cases i with
  | powerOn => exact moves_execPowerOn
  | resetN => exact moves_execResetN
  | resetRelease => exact moves_execResetRelease
  | ready => exact moves_execReady
  | sampleInstant levels =>
    exact hplain _ _ (sampleInputs_phase (sampleTick s) _ _ _) (sampleInputs_ledger (sampleTick s) _ _ _)
  | slotStart => exact hplain _ _ rfl rfl
  | scanCompletion cells => exact moves_execScanCompletion cells
  | currentSample amps =>
    exact hact _ _ (sampleCurrents_phase (tickSecond s) amps) (sampleCurrents_ledger (tickSecond s) amps)
  | conversionCompletion gateTh gateRef => exact moves_execConversionCompletion gateTh gateRef
  | flowPulse => exact moves_execFlowPulse
  | flowRest => exact moves_next_same rfl rfl
  | tachEdge atMicros => exact moves_execTachEdge atMicros
  | tachTimeout => exact moves_execTachTimeout
  | hourRollover p => exact hact _ _ (by simp) (by simp)
  | grantCountdown => exact hact _ _ (by simp) (by simp)
  | minuteEvaluation => exact hact _ _ rfl rfl
  | transferOutTimeout c => exact moves_execTransferOutTimeout c
  | transferBackTimeout c => exact moves_execTransferBackTimeout c
  | rampStep c => exact hact _ _ (by simp) (by simp)
  | holdMinute c => exact hact _ _ (by simp) (by simp)
  | settleEnd c => exact hact _ _ (by simp) (by simp)
  | giveUp c => exact moves_execGiveUp c
  | ageMinute p => exact moves_execAgeMinute p
  | runOnExpiry => exact hact _ _ (by simp) (by simp)
  | lowSpeedExpiry => exact hact _ _ (by simp) (by simp)
  | recoveryExpiry => exact hact _ _ (by simp [ventRecovers]) (by simp)
  | purgeEnd => exact hact _ _ (by simp) (by simp)
  | graceExpiry => exact hact _ _ (by simp) (by simp)
  | primingEnd => exact hact _ _ (by simp) (by simp)
  | primeTimeout => exact hact _ _ (by simp) (by simp)
  | flowStop => exact hact _ _ (by simp) (by simp)
  | pauseEnd => exact hact _ _ (by simp) (by simp)
  | closingEnd => exact hact _ _ (by simp) (by simp)
  | manualDoseEnd => exact moves_execManualDoseEnd
  | notice => exact moves_execNotice
  | logRecord => exact moves_execLogRecord
  | logEnd => exact moves_execLogEnd
  | messageSent => exact moves_next_same rfl rfl
  | frameReceived byte => exact hplain _ _ (by simp) (by simp)
  | unknownKind => exact moves_execUnknownKind
  | identify => exact moves_execIdentify
  | readStatus => exact moves_serveKind _ _ readStatusReply_phase readStatusReply_ledger
  | setClock => exact moves_execSetClock
  | readString => exact moves_serveKind _ _ readStringReply_phase readStringReply_ledger
  | readCells => exact moves_serveKind _ _ readCellsReply_phase readCellsReply_ledger
  | readTemperatures => exact moves_execReadTemperatures
  | readTemperatureDetail => exact moves_execReadTemperatureDetail
  | readPlant => exact moves_execReadPlant
  | setSetting => exact moves_execSetSetting
  | storeWriteEnd => exact moves_execStoreWriteEnd
  | readSetting => exact moves_serveKind _ _ readSettingReply_phase readSettingReply_ledger
  | submitRound => exact moves_serveKind _ _ serveSubmitRound_phase serveSubmitRound_ledger
  | cancelRound => exact moves_serveKind _ _ serveCancelRound_phase serveCancelRound_ledger
  | readQueue => exact moves_execReadQueue
  | readHeld => exact moves_execReadHeld
  | readHeldDetail => exact moves_execReadHeldDetail
  | supplyGrant => exact moves_serveKind _ _ serveSupplyGrant_phase serveSupplyGrant_ledger
  | claimLine => exact moves_serveKind _ _ serveClaimLine_phase serveClaimLine_ledger
  | releaseLine => exact moves_serveKind _ _ serveReleaseLine_phase serveReleaseLine_ledger
  | manualDose => exact moves_serveKind _ _ serveManualDose_phase serveManualDose_ledger
  | refill => exact moves_execRefill
  | readWeak => exact moves_execReadWeak
  | clearWeak => exact moves_serveKind _ _ serveClearWeak_phase serveClearWeak_ledger
  | releaseLock => exact moves_serveKind _ _ serveReleaseLock_phase serveReleaseLock_ledger
  | setNoticeMaster => exact moves_serveKind _ _ serveSetNoticeMaster_phase serveSetNoticeMaster_ledger
  | readConditions => exact moves_execReadConditions
  | clearConditions => exact moves_execClearConditions
  | readLog => exact moves_serveKind _ _ serveReadLog_phase serveReadLog_ledger
  | stopLog => exact moves_execStopLog
  | restart => exact moves_execRestart
  | finalStep => exact moves_execFinalStep
  | receivedByte byte => exact hplain _ _ (by simp) (by simp)

/-- The queue of waiting commands is no part of the ledger. -/
theorem LedgerMoves.of_pending {rest : List Instr} {phase : Phase} {l : Ledger}
    (h : LedgerMoves { s with pending := rest } phase l) : LedgerMoves s phase l := by
  cases h with
  | kept h1 h2 h3 h4 h5 => exact .kept h1 h2 h3 h4 h5
  | reset h1 h2 h3 h4 => exact .reset h1 h2 h3 h4
  | loaded h1 h2 h3 h4 => exact .loaded h1 h2 h3 h4
  | restarted h1 h2 h3 h4 h5 => exact .restarted h1 h2 h3 h4 h5
  | set i v h1 h2 h3 h4 h5 h6 => exact .set i v h1 h2 h3 h4 h5 h6
  | written h1 h2 h3 h4 h5 => exact .written h1 h2 h3 h4 h5

/-- So does a step, with or without a command. -/
theorem moves_step (s : State) : Moves s (step s) := by
  unfold step
  split
  next i rest _ =>
    intro t ht
    exact (moves_exec { s with pending := rest } i t ht).of_pending
  next =>
    rcases passTime_cases s with hsame | ⟨-, hmoved⟩
    · rw [hsame]; exact moves_stay
    · rw [hmoved]; exact moves_next_same rfl rfl

end

/-! ### The laws -/

section
variable {s t : State}

/-- What a command can do to the ledger leaves the settings in range (R184, R185). -/
theorem LedgerMoves.settingsInRange (h : LedgerMoves s t.phase t.ledger) (hrange : SettingsInRange s) :
    SettingsInRange t := by
  obtain ⟨hworks, hstores⟩ := hrange
  have hboth : ∀ {a b : Settings}, t.store.working = a → t.store.stored = b → InRange a → InRange b →
      SettingsInRange t := by
    rintro _ _ rfl rfl ha hb
    exact ⟨ha, hb⟩
  cases h with
  | kept _ hworking hstored => exact hboth hworking hstored hworks hstores
  | reset _ _ hworking hstored =>
    rcases hstored with hstored | hstored
    · exact hboth hworking hstored inRange_default hstores
    · exact hboth hworking hstored inRange_default hworks
  | loaded _ hstored hworking =>
    rcases hstored with hstored | hstored
    · exact hboth (hworking.trans hstored) hstored hstores hstores
    · exact hboth (hworking.trans hstored) hstored inRange_default inRange_default
  | restarted _ _ hworking hstored => exact hboth hworking hstored hworks hworks
  | set i v hlegal _ _ hworking hstored => exact hboth hworking hstored (inRange_set hworks hlegal) hstores
  | written _ hworking hstored => exact hboth hworking hstored hworks hworks

/-- What a command can do to the ledger leaves the account within its capacity from the load of the settings on
(R153). -/
theorem LedgerMoves.accountWithinCap (h : LedgerMoves s t.phase t.ledger) (hcap : AccountWithinCap s) :
    AccountWithinCap t := by
  obtain ⟨hquiet, hwithin⟩ := hcap
  have hrunning : t.phase ≠ .held → t.reservoir.account ≤ t.store.working.reservoirCapMl → AccountWithinCap t :=
    fun hphase hle => ⟨fun hheld => absurd hheld hphase, fun _ => hle⟩
  cases h with
  | kept hphase hworking _ haccount hrestart =>
    refine ⟨fun hheld => ?_, fun hrun => ?_⟩
    · have hsheld : s.phase = .held := hphase.1 hheld
      rcases hrestart with hsame | hrun
      · exact hsame.trans (hquiet hsheld)
      · exact absurd hsheld hrun
    · have hle := hwithin fun hheld => hrun (hphase.2 hheld)
      have hsame : t.cfg = s.cfg := hworking
      rw [hsame]
      exact haccount.elim (fun hfall => hfall.trans hle) id
  | reset hphase hrestart => exact ⟨fun _ => hrestart, fun hrun => absurd hphase hrun⟩
  | loaded hphase _ _ haccount => exact hrunning hphase haccount
  | restarted hrestarting hphase hworking _ haccount =>
    have hle := hwithin fun hheld => hrestarting (hquiet hheld)
    refine hrunning hphase ?_
    have hsame : t.store.working = s.store.working := hworking
    rw [hsame]
    exact haccount.trans_le hle
  | set i v _ hrun hphase hworking _ haccount =>
    have hle := hwithin hrun
    have hset : t.store.working = s.store.working.set i v := hworking
    have hcapacity : t.store.working.reservoirCapMl = if .reservoirCapMl = i then v else s.cfg.reservoirCapMl :=
      (congrArg (·.get .reservoirCapMl) hset).trans (settings_get_set s.store.working i .reservoirCapMl v)
    refine hrunning (by rwa [hphase]) ?_
    rw [hcapacity]
    refine haccount.trans_le ?_
    by_cases hi : i = .reservoirCapMl
    · rw [if_pos hi, if_pos hi.symm]; exact Nat.min_le_right _ _
    · rw [if_neg hi, if_neg (Ne.symm hi)]; exact hle
  | written hphase hworking _ haccount hrestart =>
    refine ⟨fun hheld => hrestart.trans (hquiet (hphase.symm.trans hheld)), fun hrun => ?_⟩
    have hle := hwithin (by rwa [← hphase])
    have hsame : t.cfg = s.cfg := hworking
    rw [hsame]
    exact haccount.trans_le hle

end

/-- Settles O59: both laws follow from what a command can do to the store and the account. -/
theorem settingsAreKeptInRange : Obligations.SettingsAreKeptInRange :=
  ⟨fun s t hrange hstep => (moves_step s t hstep).settingsInRange hrange,
    fun s t hcap hstep => (moves_step s t hstep).accountWithinCap hcap⟩

end Sys2Proof.Machine
end

-- ==== Proofs: requests that are answered without their rule, and the framer ====
section
/-! PROOFS. BUSY while restarting (O7), BAD_FORM and UNKNOWN (O8); the framer's steps (O42) and the frames it reads
back (O41). -/

namespace Sys2Proof.Machine

open Sys2Proof.Safety

/-! ### The request rows of the table (R178, R182) -/

/-- A command serves the frames of a KIND by some rule, a frame that asks for a detail perhaps aside. -/
def ServesKind (i : Instr) (s : State) (k : Byte) (fits : Nat → Bool) : Prop :=
  ∃ (mine : Frame → Bool) (act : State → Frame → State), exec i s = serve s mine fits act ∧ k.toNat < 128
    ∧ ∀ f : Frame, f.kind = k → (i = .readTemperatures → asksDetail f = false) →
        (i = .readHeld → asksHeldDetail f = false) → mine f = true

theorem servesKind_of_serveKind (i : Instr) (s : State) (k : Byte) (n : Nat) (act : State → Frame → State)
    (h : exec i s = serveKind s k n act) (hbelow : k.toNat < 128) : ServesKind i s k (· == n) :=
  ⟨_, act, h, hbelow, fun _ hkind _ _ => beq_iff_eq.2 hkind⟩

/-- Every request row serves the frames of its KIND by the body lengths of its form. -/
theorem servesKind_of_requestForm (i : Instr) (s : State) (k : Byte) (fits : Nat → Bool)
    (h : requestForm i = some (k, fits)) : ServesKind i s k fits := by
  cases i <;> cases h
  case identify => exact servesKind_of_serveKind _ _ _ _ _ (execIdentify.eq_1 s) (by decide)
  case setClock => exact servesKind_of_serveKind _ _ _ _ _ (execSetClock.eq_1 s) (by decide)
  case readTemperatures =>
    exact ⟨_, _, execReadTemperatures.eq_1 s, by decide, fun f hkind hdetail _ => by simp [hkind, hdetail]⟩
  case readPlant => exact servesKind_of_serveKind _ _ _ _ _ (execReadPlant.eq_1 s) (by decide)
  case readQueue => exact servesKind_of_serveKind _ _ _ _ _ (execReadQueue.eq_1 s) (by decide)
  case readHeld =>
    exact ⟨_, _, execReadHeld.eq_1 s, by decide, fun f hkind _ hdetail => by simp [hkind, hdetail]⟩
  case readWeak => exact servesKind_of_serveKind _ _ _ _ _ (execReadWeak.eq_1 s) (by decide)
  case readConditions => exact servesKind_of_serveKind _ _ _ _ _ (execReadConditions.eq_1 s) (by decide)
  case clearConditions => exact ⟨_, _, execClearConditions.eq_1 s, by decide, fun f hkind _ _ => beq_iff_eq.2 hkind⟩
  all_goals exact servesKind_of_serveKind _ _ _ _ _ rfl (by decide)

/-- A reply without a payload to a request whose frame has just been taken (R178, R181). -/
theorem reply_afterTaking (s : State) (f : Frame) (rest : List Frame) (st : Status)
    (hinbound : s.link.inbound = f :: rest) (hbelow : f.kind.toNat < 128) :
    reply (afterTaking s) f st [] = { s with link := answered s rest (replyTo f (BitVec.ofNat 8 st.code) 0 []) } := by
  rw [reply_link _ _ _ _ hbelow, afterTaking_eq s f rest hinbound]
  rfl

/-- Settles O7: every row that serves the frame answers it before its rule is asked. -/
theorem restartingAnswersBusy : Obligations.RestartingAnswersBusy := by
  intro s f rest hready hrestarting hroom hinbound
  have hbusy : ∀ (mine : Frame → Bool) (fits : Nat → Bool) (act : State → Frame → State), mine f = true →
      f.kind.toNat < 128 → serve s mine fits act = .next { s with link := answered s rest (replyTo f 2 0 []) } := by
    intro mine fits act hmine hbelow
    rw [serve_restarting s mine fits act f rest hready hrestarting hroom hinbound hmine,
      reply_afterTaking s f rest .busy hinbound hbelow]
    rfl
  refine ⟨fun i k fits hform hkind htemps hheld => ?_, fun hkind hdetail => ?_, fun hkind hdetail => ?_⟩
  · obtain ⟨mine, act, hexec, hbelow, hmine⟩ := servesKind_of_requestForm i s k fits hform
    rw [hexec]
    exact hbusy mine fits act (hmine f hkind htemps hheld) (by rwa [hkind])
  · exact (execReadTemperatureDetail.eq_1 s).trans (hbusy _ _ _ (by simp [hkind, hdetail]) (by rw [hkind]; decide))
  · exact (execReadHeldDetail.eq_1 s).trans (hbusy _ _ _ (by simp [hkind, hdetail]) (by rw [hkind]; decide))

/-- A frame that asks for a detail has a body of one byte (R36, R135). -/
theorem asksDetail_of_malformed (f : Frame) (h : (f.body.length == 1) = false) :
    asksDetail f = false ∧ asksHeldDetail f = false := by
  simp [asksDetail, asksHeldDetail, h]

/-- A KIND outside 0x01..0x1B is no request's (R182). -/
theorem listedKind_eq_false (k : Byte) (h : k.toNat = 0 ∨ 0x1B < k.toNat) : listedKind k = false := by
  simp only [listedKind, Bool.and_eq_false_iff, decide_eq_false_iff_not]
  omega

/-- Settles O8: a body length that does not fit is answered before the rule is asked, and so is a KIND without one. -/
theorem malformedFramesAreAnswered : Obligations.MalformedFramesAreAnswered := by
  refine ⟨fun i k fits s f rest hform htaking hkind hlength => ?_, fun s f rest htaking hkind => ?_⟩
  · have ⟨_, _, _, hinbound, _⟩ := htaking
    obtain ⟨mine, act, hexec, hbelow, hmine⟩ := servesKind_of_requestForm i s k fits hform
    have htemps : i = .readTemperatures → asksDetail f = false := by
      rintro rfl
      cases hform
      exact (asksDetail_of_malformed f hlength).1
    have hheld : i = .readHeld → asksHeldDetail f = false := by
      rintro rfl
      cases hform
      exact (asksDetail_of_malformed f hlength).2
    rw [hexec, serve_malformed s mine fits act f rest htaking (hmine f hkind htemps hheld) hlength,
      reply_afterTaking s f rest .badForm hinbound (by rwa [hkind])]
    rfl
  · obtain ⟨htaken, hsettled⟩ := afterTaking_of_taking htaking
    have hexec : exec .unknownKind s = settled (reply (requestTaken s rest) f .unknown []) :=
      htaken ▸ (execUnknownKind.eq_1 s).trans
        (serve_taken s _ _ _ f rest htaking (by simp [listedKind_eq_false f.kind hkind]) rfl)
    rw [hexec]
    exact settled_of_settled (reply (requestTaken s rest) f .unknown []) hsettled

/-! ### The framer's steps (R180) -/

section
variable (s : State) (b : Byte)

theorem framerByte_of_hunt (h : s.link.framer.state = .hunt) :
    framerByte s b = if b = 0x7E then setFramer s { s.link.framer with state := .length } else s := by
  unfold framerByte; dsimp only
  rw [h]

theorem framerByte_of_length (h : s.link.framer.state = .length) :
    framerByte s b =
      if lenOk b then setFramer s { state := .body, len := b.toNat, bytes := [] }
      else if b = 0x7E then linkError s .length
      else linkError (setFramer s .hunting) .length := by
  unfold framerByte; dsimp only
  rw [h]

theorem framerByte_of_body (h : s.link.framer.state = .body) :
    framerByte s b =
      setFramer s { s.link.framer with
        state := if s.link.framer.bytes.length + 1 < s.link.framer.len - 3 then .body else .check
        bytes := s.link.framer.bytes ++ [b] } := by
  unfold framerByte; dsimp only
  rw [h]
  simp

theorem framerByte_of_check (h : s.link.framer.state = .check) :
    framerByte s b =
      if s.link.framer.awaitsLast then completeFrame s b
      else setFramer s { s.link.framer with bytes := s.link.framer.bytes ++ [b] } := by
  unfold framerByte; dsimp only
  rw [h]

theorem lenOk_iff : lenOk b = true ↔ 5 ≤ b.toNat ∧ b.toNat ≤ 64 := by simp [lenOk]

theorem execReceivedByte_of_ready (h : s.phase = .ready) : exec (.receivedByte b) s = .next (framerByte s b) := if_pos h

/-- A LINK_ERROR on a clear latch (R180, R171). -/
theorem linkError_of_clear (e : LinkFault) (h : s.latches.linkError = none) :
    linkError s e =
      { s with latches := { s.latches with linkError := (some
          { string := 0, value := e.detail, captured := none, time := s.stamp, again := 0, pending := true }) } } :=
  event_of_clear s .linkError 0 e.detail none h

end

/-! ### The byte that completes a frame (R179, R180) -/

/-- The framer that has taken a frame but its last CRC byte. -/
def Framer.lastAwaited (tag kind c : Byte) (body : List Byte) : Framer :=
  { state := .check, len := body.length + 5, bytes := tag :: kind :: body ++ [c] }

/-- The CRC that a frame should carry (R179). -/
def frameCrc (tag kind : Byte) (body : List Byte) : List Byte :=
  crcBytes (crc16 (BitVec.ofNat 8 (body.length + 5) :: tag :: kind :: body))

theorem awaitsLast_lastAwaited (tag kind c : Byte) (body : List Byte) :
    (Framer.lastAwaited tag kind c body).awaitsLast = true := by
  simp [Framer.lastAwaited, Framer.awaitsLast]

/-- The last CRC byte appends the frame that the bytes before it spell, or makes LINK_ERROR (R180). -/
theorem completeFrame_eq (s : State) (tag kind c b : Byte) (body : List Byte)
    (h : s.link.framer = .lastAwaited tag kind c body) :
    completeFrame s b =
      if [c, b] ≠ frameCrc tag kind body then linkError (setFramer s .hunting) .crc
      else if 4 ≤ s.link.inbound.length then linkError (setFramer s .hunting) .overrun
      else { setFramer s .hunting with
        link := { (setFramer s .hunting).link with
          inbound := s.link.inbound ++ [{ tag := tag, kind := kind, body := body }] } } := by
  have hdata : (tag :: kind :: body ++ [c]).take (body.length + 5 - 3) = tag :: kind :: body := by
    simp
  have hcrc : (tag :: kind :: body ++ [c]).drop (body.length + 5 - 3) = [c] := by
    simp
  unfold completeFrame Framer.lastAwaited at *; dsimp only
  rw [h]
  dsimp only
  rw [hdata, hcrc]
  rfl

/-- Settles O42: one equation for each state of the framer. -/
theorem framerActs : Obligations.FramerActs := by
  refine ⟨fun s b hready hhunt => ?_, fun s b hready hlength => ⟨fun hlow hhigh => ?_, fun hout hclear => ?_⟩,
    fun s tag kind c b body hready hframer hmax hclear => ?_, fun _ => rfl⟩
  · rw [execReceivedByte_of_ready s b hready, framerByte_of_hunt s b hhunt]
    rfl
  · rw [execReceivedByte_of_ready s b hready, framerByte_of_length s b hlength,
      if_pos ((lenOk_iff b).2 ⟨hlow, hhigh⟩)]
    rfl
  · have hnot : ¬ lenOk b = true := by
      rw [lenOk_iff]
      omega
    rw [execReceivedByte_of_ready s b hready, framerByte_of_length s b hlength, if_neg hnot,
      linkError_of_clear s .length hclear, linkError_of_clear (setFramer s .hunting) .length hclear]
    split <;> rfl
  · have hawaits : s.link.framer.awaitsLast = true := by
      rw [hframer]
      exact awaitsLast_lastAwaited tag kind c body
    have hexec : exec (.frameReceived b) s = .next (completeFrame s b) := if_pos ⟨hready, hawaits⟩
    have herror : ∀ e : LinkFault, linkError (setFramer s .hunting) e =
        { setFramer s .hunting with latches := { s.latches with linkError := (some
          { string := 0, value := e.detail, captured := none, time := s.stamp, again := 0, pending := true }) } } :=
      fun e => linkError_of_clear (setFramer s .hunting) e hclear
    rw [hexec, completeFrame_eq s tag kind c b body hframer, herror, herror, ← frameCrc]
    refine ⟨fun hcrc hroom => ?_, fun hcrc => ?_, fun hcrc hfull => ?_⟩
    · rw [if_neg (not_not.2 hcrc), if_neg (by omega)]
      rfl
    · rw [if_pos hcrc]
      rfl
    · rw [if_neg (not_not.2 hcrc), if_pos hfull]
      rfl

/-! ### A whole frame (R178, R179, R180) -/

/-- The framer that is collecting a frame's body. -/
def Framer.collecting (len : Nat) (bytes : List Byte) : Framer := { state := .body, len := len, bytes := bytes }

/-- The bytes up to the CRC are collected one by one, and the last of them awaits the CRC. -/
theorem framerBytes_collect (len : Nat) (l : List Byte) : ∀ (s : State) (taken : List Byte) (b : Byte),
    s.link.framer = .collecting len taken → taken.length + (l.length + 1) + 3 = len →
    (b :: l).foldl framerByte s = setFramer s { state := .check, len := len, bytes := taken ++ b :: l } := by
  induction l with
  | nil =>
    intro s taken b hframer hlen
    rw [List.foldl_cons, List.foldl_nil, framerByte_of_body s b (by rw [hframer]; rfl), hframer]
    have hlast : ¬ taken.length + 1 < len - 3 := by
      simp only [List.length_nil] at hlen
      omega
    simp [Framer.collecting, hlast]
  | cons d l ih =>
    intro s taken b hframer hlen
    have hmore : taken.length + 1 < len - 3 := by
      simp only [List.length_cons] at hlen
      omega
    have hstep : framerByte s b = setFramer s (.collecting len (taken ++ [b])) := by
      rw [framerByte_of_body s b (by rw [hframer]; rfl), hframer]
      simp [Framer.collecting, hmore]
    rw [List.foldl_cons, hstep, ih (setFramer s (.collecting len (taken ++ [b]))) (taken ++ [b]) d rfl
      (by simp only [List.length_append, List.length_cons, List.length_nil] at hlen ⊢; omega)]
    simp [setFramer]

/-- A frame's bytes: SOF, LEN, TAG, KIND and body, and the two bytes of its CRC (R178). -/
theorem frame_bytes_eq (f : Frame) :
    ∃ c b : Byte, [c, b] = frameCrc f.tag f.kind f.body
      ∧ f.bytes = 0x7E :: BitVec.ofNat 8 f.len :: (f.tag :: f.kind :: f.body) ++ [c, b] :=
  ⟨_, _, rfl, rfl⟩

/-- A frame whose bytes come from HUNT on is appended as it was sent (R180). -/
theorem framerBytes_frame (s : State) (f : Frame) (hhunt : s.link.framer.state = .hunt) (hmax : f.body.length ≤ 59)
    (hroom : s.link.inbound.length < 4) :
    f.bytes.foldl framerByte s =
      { s with link := { s.link with framer := .hunting, inbound := s.link.inbound ++ [f] } } := by
  obtain ⟨c, b, hcrc, hbytes⟩ := frame_bytes_eq f
  have hlen : (BitVec.ofNat 8 f.len).toNat = f.body.length + 5 := by
    rw [BitVec.toNat_ofNat, Frame.len]
    exact Nat.mod_eq_of_lt (by omega)
  have hsof : framerByte s 0x7E = setFramer s { s.link.framer with state := .length } := by
    rw [framerByte_of_hunt s _ hhunt, if_pos rfl]
  have hlength : ∀ r : Framer, r.state = .length →
      framerByte (setFramer s r) (BitVec.ofNat 8 f.len) = setFramer s (.collecting (f.body.length + 5) []) := by
    intro r hr
    rw [framerByte_of_length (setFramer s r) _ hr, if_pos ((lenOk_iff _).2 (by omega)), hlen]
    rfl
  have hbody := framerBytes_collect (f.body.length + 5) (f.kind :: f.body)
    (setFramer s (.collecting (f.body.length + 5) [])) [] f.tag rfl
    (by simp only [List.length_nil, List.length_cons]; omega)
  have hfirst : framerByte
        (setFramer s { state := .check, len := f.body.length + 5, bytes := f.tag :: f.kind :: f.body }) c
      = setFramer s (.lastAwaited f.tag f.kind c f.body) := by
    rw [framerByte_of_check _ _ rfl, if_neg (by simp [Framer.awaitsLast])]
    rfl
  have hlast : framerByte (setFramer s (.lastAwaited f.tag f.kind c f.body)) b =
      { s with link := { s.link with framer := .hunting, inbound := s.link.inbound ++ [f] } } := by
    have hawaits : (setFramer s (.lastAwaited f.tag f.kind c f.body)).link.framer.awaitsLast = true :=
      awaitsLast_lastAwaited f.tag f.kind c f.body
    have hnotFull : ¬ 4 ≤ (setFramer s (.lastAwaited f.tag f.kind c f.body)).link.inbound.length :=
      Nat.not_le.2 hroom
    rw [framerByte_of_check _ _ rfl, if_pos hawaits,
      completeFrame_eq _ f.tag f.kind c b f.body rfl, if_neg (not_not.2 hcrc), if_neg hnotFull]
    rfl
  have hhead : (0x7E :: BitVec.ofNat 8 f.len :: (f.tag :: f.kind :: f.body)).foldl framerByte s =
      setFramer s { state := .check, len := f.body.length + 5, bytes := f.tag :: f.kind :: f.body } := by
    rw [List.foldl_cons, List.foldl_cons, hsof, hlength _ rfl, hbody]
    rfl
  rw [hbytes, List.foldl_append, hhead]
  exact (congrArg (framerByte · b) hfirst).trans hlast

/-- The framer does not look at the queue of commands. -/
theorem framerByte_pending (s : State) (b : Byte) (q : List Instr) :
    framerByte { s with pending := q } b = { framerByte s b with pending := q } := by
  cases hstate : s.link.framer.state with
  | hunt =>
    rw [framerByte_of_hunt { s with pending := q } b hstate, framerByte_of_hunt s b hstate]
    split <;> rfl
  | length =>
    rw [framerByte_of_length { s with pending := q } b hstate, framerByte_of_length s b hstate]
    repeat' split
    all_goals rfl
  | body => rw [framerByte_of_body { s with pending := q } b hstate, framerByte_of_body s b hstate]; rfl
  | check =>
    rw [framerByte_of_check { s with pending := q } b hstate, framerByte_of_check s b hstate]
    unfold completeFrame; dsimp only [setFramer]
    repeat' split
    all_goals rfl

/-- A run takes its first step, and the rest of its steps from where that step ends. -/
theorem run_succ_of_next (M : Host.Core) (k : Nat) (s s' : M.State) (hstep : M.step s = .next s') :
    M.run (k + 1) s = M.run k s' := by
  rw [Host.Core.run, hstep]

/-- A queue of received bytes is taken byte by byte while the part is ready (R189). -/
theorem run_receivedBytes (l : List Byte) : ∀ s : State, s.phase = .ready → s.pending = l.map Instr.receivedByte →
    Sys2Proof.core.run l.length s = .next (l.foldl framerByte { s with pending := [] }) := by
  induction l with
  | nil =>
    intro s _ hpending
    have hself : ({ s with pending := [] } : State) = s := by
      obtain ⟨⟩ := s
      exact congrArg _ hpending.symm
    exact congrArg Host.Outcome.next hself.symm
  | cons b l ih =>
    intro s hready hpending
    have hstep : step s = .next (framerByte { s with pending := l.map Instr.receivedByte } b) := by
      rw [step, hpending]
      exact execReceivedByte_of_ready _ b hready
    have htail := ih { framerByte s b with pending := l.map Instr.receivedByte }
      ((framerByte_phase s b).trans hready) rfl
    calc Sys2Proof.core.run (l.length + 1) s
        = Sys2Proof.core.run l.length (framerByte { s with pending := l.map Instr.receivedByte } b) :=
          run_succ_of_next Sys2Proof.core l.length s _ hstep
      _ = Sys2Proof.core.run l.length { framerByte s b with pending := l.map Instr.receivedByte } :=
          congrArg (Sys2Proof.core.run l.length) (framerByte_pending s b _)
      _ = .next (l.foldl framerByte { framerByte s b with pending := [] }) := htail
      _ = .next (l.foldl framerByte (framerByte { s with pending := [] } b)) :=
          congrArg (Host.Outcome.next <| l.foldl framerByte ·) (framerByte_pending s b []).symm

/-- Settles O41: the bytes of the queue are the framer's, and the framer reads back the frame. -/
theorem framesArriveAsSent : Obligations.FramesArriveAsSent := by
  intro s f hready hhunt hmax hroom hpending
  rw [run_receivedBytes f.bytes s hready hpending]
  exact congrArg Host.Outcome.next (framerBytes_frame { s with pending := [] } f hhunt hmax hroom)

end Sys2Proof.Machine
end

-- ==== Proofs: the requests that report ====
section
/-! PROOFS. The lengths of the packed replies and of the round record (O45); what the requests that report answer
(O44). -/

namespace Sys2Proof.Machine

open Sys2Proof.Safety

/-! ### Lengths of fields (R178, R183) -/

@[simp] theorem u8_length (n : Nat) : (u8 n).length = 1 := rfl
@[simp] theorem u16_length (n : Nat) : (u16 n).length = 2 := rfl
@[simp] theorem u32_length (n : Nat) : (u32 n).length = 4 := rfl
@[simp] theorem i16_length (n : Int) : (i16 n).length = 2 := rfl
@[simp] theorem flag_length (b : Bool) : (flag b).length = 1 := rfl
@[simp] theorem posByte_length (p : Pos) : (posByte p).length = 1 := rfl

/-- A group of equal fields for each element of a list. -/
theorem length_flatMap_of_each {α : Type} (l : List α) (g : α → List Byte) (n : Nat)
    (h : ∀ a, (g a).length = n) :
    (l.flatMap g).length = n * l.length := by
  induction l with
  | nil => rfl
  | cons a l ih => rw [List.flatMap_cons, List.length_append, h, ih, List.length_cons]; ring

section
variable (s : State)

theorem plantByte_length (p : Pos) : (plantByte s p).length = 1 := rfl
theorem chargerBytes_length (g : Charger) : (chargerBytes g).length = 5 := rfl
theorem filterByte_length (r : Filter) : (filterByte r).length = 1 := rfl
theorem tempEntry_length (r : TempRec) : (tempEntry r).length = 3 := rfl
theorem countersGroup_length : (countersGroup s).length = 13 := rfl
theorem latchSummary_length (c : Condition) : (latchSummary s c).length = 2 := rfl
theorem cellBytes_length (e : CellEntry) : (cellBytes e).length = 2 := rfl

/-- An entry's fields come to 17 bytes (R183). -/
theorem entryBytes_length (n : Nat) (e : Entry) : (entryBytes s n e).length = 17 := rfl

/-- Read Plant: eight strings, two chargers, the float demand, a byte of flags and thirty-five inputs (R7). -/
theorem plantPayload_length : (plantPayload s).length = 56 := by
  have hstrings := length_flatMap_of_each Pos.all _ 1 (plantByte_length s)
  have hinputs := length_flatMap_of_each InputId.all _ 1 fun i => filterByte_length (s.inp.get i)
  have hcount : Pos.all.length = 8 ∧ InputId.all.length = 35 := ⟨rfl, rfl⟩
  simp only [plantPayload, List.length_append, hstrings, hinputs, chargerBytes_length, u16_length, u8_length, hcount]

/-- Read Temperatures' summary: nine channels and the counters (R35). -/
theorem temperaturesPayload_length : (temperaturesPayload s).length = 40 := by
  have hpilots := length_flatMap_of_each Pos.all _ 3 fun p => tempEntry_length (s.temps.pilots.get p)
  have hcount : Pos.all.length = 8 := rfl
  simp only [temperaturesPayload, List.length_append, hpilots, tempEntry_length, countersGroup_length, hcount]

/-- Read Conditions' summary: the master and sixteen conditions (R176). -/
theorem conditionsPayload_length : (flag s.master ++ Condition.all.flatMap (latchSummary s)).length = 33 := by
  have hlatches := length_flatMap_of_each Condition.all _ 2 (latchSummary_length s)
  have hcount : Condition.all.length = 16 := rfl
  simp only [List.length_append, flag_length, hlatches, hcount]

/-- Read Cells of a string with a scan: four header bytes and its twenty-four entries (R34). -/
theorem cellsPayload_length (p : Pos) (hscan : (s.scan.strings.get p).stats.isSome = true)
    (hcells : (s.scan.strings.get p).cells.length = 24) : (cellsPayload s p false).length = 52 := by
  obtain ⟨v, hstats⟩ := Option.isSome_iff_exists.1 hscan
  have hentries := length_flatMap_of_each (s.scan.strings.get p).cells _ 2 cellBytes_length
  simp [cellsPayload, hstats, hentries, hcells]

theorem numbered_length {α : Type} (l : List α) : ∀ n, (numbered n l).length = l.length := by
  induction l with
  | nil => intro n; rfl
  | cons a l ih => intro n; simp [numbered, ih]

/-- Read Queue: five header bytes and up to three entries (R77). -/
theorem queuePayload_length (n : Nat) : (queuePayload s n).length ≤ 56 := by
  have hentries := length_flatMap_of_each (window s.queue.entries n 3) _ 17 fun e => entryBytes_length s e.1 e.2
  have hwindow : (window s.queue.entries n 3).length ≤ 3 := by
    rw [window, numbered_length, List.length_take]
    exact Nat.min_le_left _ _
  simp only [queuePayload, List.length_append, hentries, u8_length, u16_length]
  omega

/-- A round record's fields come to 33 bytes, whatever of them is absent (R178). -/
theorem recordBytes_length (r : Record) : (recordBytes r).length = 33 := by
  unfold recordBytes
  simp only [List.length_append, u8_length, u16_length, u32_length, i16_length, posByte_length,
    List.length_cons, List.length_nil]

end

/-- Settles O45: every field has a length of its own. -/
theorem packedRepliesFit : Obligations.PackedRepliesFit :=
  ⟨fun s => ⟨plantPayload_length s, temperaturesPayload_length s, conditionsPayload_length s⟩,
    cellsPayload_length, queuePayload_length, recordBytes_length⟩

/-! ### One-byte fields -/

/-- A number below 256 is read back from its byte (R178). -/
theorem field_u8 (n : Nat) (l : List Byte) (h : n < 256) : field (BitVec.ofNat 8 n :: l) 0 1 = n := by
  simp [field, ofBytes]
  omega

theorem pos_num_lt (p : Pos) : p.num < 256 := by cases p <;> decide

/-- A string position is read back from its number (R178). -/
theorem pos_ofNum_of_num (p : Pos) : Pos.ofNum p.num = some p := by cases p <;> rfl

/-- A setting is read back from its id (R184). -/
theorem settingId_ofId_id (i : SettingId) : SettingId.ofId i.id = some i := by cases i <;> rfl

theorem settingId_id_lt (i : SettingId) : i.id < 256 := by cases i <;> decide

/-- A pilot's selector asks for its string's record (R36). -/
theorem tempOf_pilot (s : State) (p : Pos) : tempOf s p.num = s.temps.pilots.get p := by
  rw [tempOf, pos_ofNum_of_num]

/-! ### A request that reports -/

section
variable {s : State} {f : Frame} {rest : List Frame}

/-- A request that only places its payload changes the link alone. -/
theorem serve_reported (htaking : Taking s f rest) (mine : Frame → Bool) (fits : Nat → Bool)
    (act : State → Frame → State) (payload : List Byte) (hmine : mine f = true) (hfits : fits f.body.length = true)
    (hbelow : f.kind.toNat < 128)
    (hact : act (requestTaken s rest) f = reply (requestTaken s rest) f .ok payload) :
    serve s mine fits act = .next { s with link := answered s rest (replyTo f 0 0 payload) } := by
  obtain ⟨htaken, hsettled⟩ := afterTaking_of_taking htaking
  rw [serve_taken s mine fits act f rest htaking hmine hfits, htaken, hact]
  exact settled_reply s (requestTaken s rest) f rest .ok payload rfl hbelow hsettled

/-- The same for a request of one KIND and one body. -/
theorem serveKind_reported (htaking : Taking s f rest) (kind : Byte) (body : List Byte) (length : Nat)
    (act : State → Frame → State) (payload : List Byte) (hkind : f.kind = kind) (hbody : f.body = body)
    (hbelow : kind.toNat < 128) (hlength : body.length = length)
    (hact : act (requestTaken s rest) f = reply (requestTaken s rest) f .ok payload) :
    serveKind s kind length act = .next { s with link := answered s rest (replyTo f 0 0 payload) } :=
  serve_reported htaking _ _ act payload (by simp [hkind]) (by simp [hbody, hlength]) (by rw [hkind]; exact hbelow) hact

end

/-! ### The rules of the reports -/

section
variable (s : State) (f : Frame)

/-- Read Status's four groups (R188). -/
theorem readStatusReply_groups :
    (field f.body 0 1 = 0 → readStatusReply s f = reply s f .ok (partGroup s))
      ∧ (field f.body 0 1 = 1 → readStatusReply s f = reply s f .ok (channelGroup s .a))
      ∧ (field f.body 0 1 = 2 → readStatusReply s f = reply s f .ok (channelGroup s .b))
      ∧ (field f.body 0 1 = 3 → readStatusReply s f = reply s f .ok (lineGroup s)) := by
  unfold readStatusReply
  exact ⟨fun h => by simp only [h], fun h => by simp only [h], fun h => by simp only [h], fun h => by simp only [h]⟩

theorem readStringReply_of_pos (p : Pos) (hfield : field f.body 0 1 = p.num) :
    readStringReply s f = reply s f .ok (stringPayload s p) := by
  rw [readStringReply, hfield, pos_ofNum_of_num]

theorem readSettingReply_of_numeric (i : SettingId) (hnumeric : i.isSet = false) (hfield : field f.body 0 1 = i.id) :
    readSettingReply s f =
      reply s f .ok (u32 (s.cfg.get i) ++ u32 i.low ++ u32 i.high ++ u32 (Settings.default.get i)) := by
  have hrange : reportedRange i = (i.low, i.high) := by rw [reportedRange, hnumeric]; rfl
  rw [readSettingReply, hfield, settingId_ofId_id]
  dsimp only
  rw [hrange]

theorem readCellsReply_of_pos (p : Pos) (hfitted : fitted s p = true) (hfield : field f.body 0 1 = p.num) :
    (field f.body 1 1 = 0 → readCellsReply s f = reply s f .ok (cellsPayload s p false))
      ∧ (field f.body 1 1 = 1 → readCellsReply s f = reply s f .ok (cellsPayload s p true)) := by
  rw [readCellsReply, hfield, pos_ofNum_of_num]
  dsimp only
  rw [if_pos hfitted]
  exact ⟨fun hview => by simp only [hview], fun hview => by simp only [hview]⟩

end

/-- Settles O44: each report's rule places its payload on the state that the taken frame left. -/
theorem reportsChangeNothing : Obligations.ReportsChangeNothing := by
  intro s f rest htaking
  have hfirst : ∀ (n : Nat) (l : List Byte), n < 256 → f.body = BitVec.ofNat 8 n :: l → field f.body 0 1 = n :=
    fun n l hn hbody => by rw [hbody]; exact field_u8 n l hn
  refine ⟨?identify, ?readStatus, ?readString, ?readCells, ?temperatures, ?temperatureDetail, ?plant, ?setting,
    ?queue, ?held, ?heldDetail, ?weak, ?conditions, ?conditionDetail⟩
  case identify =>
    intro hkind hbody
    refine (execIdentify.eq_1 s).trans (serveKind_reported htaking _ _ 0 _ _ hkind hbody (by decide) rfl ?_)
    rfl
  case readStatus =>
    intro hkind
    have hgroup : ∀ (n : Nat) (payload : List Byte), n < 256 → f.body = [BitVec.ofNat 8 n] →
        readStatusReply (requestTaken s rest) f = reply (requestTaken s rest) f .ok payload →
        exec .readStatus s = .next { s with link := answered s rest (replyTo f 0 0 payload) } :=
      fun n payload _ hbody hact =>
        serveKind_reported htaking _ _ 1 readStatusReply payload hkind hbody (by decide) rfl hact
    obtain ⟨hpart, ha, hb, hline⟩ := readStatusReply_groups (requestTaken s rest) f
    refine ⟨fun hbody => hgroup 0 _ (by decide) hbody ?_, fun hbody => hgroup 1 _ (by decide) hbody ?_,
      fun hbody => hgroup 2 _ (by decide) hbody ?_, fun hbody => hgroup 3 _ (by decide) hbody ?_⟩
    · rw [(afterTaking_of_taking htaking).1]
      exact hpart (hfirst 0 [] (by decide) hbody)
    · exact ha (hfirst 1 [] (by decide) hbody)
    · exact hb (hfirst 2 [] (by decide) hbody)
    · exact hline (hfirst 3 [] (by decide) hbody)
  case readString =>
    intro p hkind hbody
    exact serveKind_reported htaking _ _ 1 readStringReply _ hkind hbody (by decide) rfl
      (readStringReply_of_pos _ f p (hfirst p.num [] (pos_num_lt p) hbody))
  case readCells =>
    intro p hkind hfitted
    have hview := fun l hbody => readCellsReply_of_pos (requestTaken s rest) f p hfitted
      (hfirst p.num l (pos_num_lt p) hbody)
    refine ⟨fun hbody => ?_, fun hbody => ?_⟩
    · exact serveKind_reported htaking _ _ 2 readCellsReply _ hkind hbody (by decide) rfl
        ((hview [0] hbody).1 (by rw [hbody]; rfl))
    · exact serveKind_reported htaking _ _ 2 readCellsReply _ hkind hbody (by decide) rfl
        ((hview [1] hbody).2 (by rw [hbody]; rfl))
  case temperatures =>
    intro hkind hbody
    have hselector := hfirst 0 [] (by decide) hbody
    refine (execReadTemperatures.eq_1 s).trans
      (serve_reported htaking _ _ _ _ (by simp [hkind, asksDetail, hselector]) (by simp [hbody])
        (by rw [hkind]; decide) ?_)
    rw [if_pos hselector]
    rfl
  case temperatureDetail =>
    intro p hkind hbody
    have hselector := hfirst p.num [] (pos_num_lt p) hbody
    have hasks : asksDetail f = true := by
      rw [asksDetail, hselector, hbody]
      cases p <;> rfl
    refine (execReadTemperatureDetail.eq_1 s).trans
      (serve_reported htaking _ _ _ _ (by simp [hkind, hasks]) (by simp [hbody]) (by rw [hkind]; decide) ?_)
    rw [hselector, tempOf_pilot]
    rfl
  case plant =>
    intro hkind hbody
    refine (execReadPlant.eq_1 s).trans (serveKind_reported htaking _ _ 0 _ _ hkind hbody (by decide) rfl ?_)
    rfl
  case setting =>
    intro i hnumeric hkind hbody
    exact serveKind_reported htaking _ _ 1 readSettingReply _ hkind hbody (by decide) rfl
      (readSettingReply_of_numeric _ f i hnumeric (hfirst i.id [] (settingId_id_lt i) hbody))
  case queue =>
    intro n hpos hmax hkind hbody
    have hselector := hfirst n [] (by omega) hbody
    refine (execReadQueue.eq_1 s).trans (serveKind_reported htaking _ _ 1 _ _ hkind hbody (by decide) rfl ?_)
    dsimp only
    rw [hselector, if_pos ⟨hpos, hmax⟩]
    rfl
  case held =>
    intro hkind hbody
    have hselector := hfirst 0 [] (by decide) hbody
    refine (execReadHeld.eq_1 s).trans
      (serve_reported htaking _ _ _ _ (by simp [hkind, asksHeldDetail, hselector]) (by simp [hbody])
        (by rw [hkind]; decide) ?_)
    rw [if_pos hselector]
    rfl
  case heldDetail =>
    intro n h hn hentry hkind hbody
    have hselector := hfirst (n + 1) [] (by omega) hbody
    have hone : f.body.length = 1 := by rw [hbody]; rfl
    have hasks : asksHeldDetail f = true := by simp [asksHeldDetail, hselector, hone, Nat.lt_succ_of_le hn]
    refine (execReadHeldDetail.eq_1 s).trans
      (serve_reported htaking _ _ _ _ (by simp [hkind, hasks]) (by simp [hbody]) (by rw [hkind]; decide) ?_)
    have hsame : (requestTaken s rest).held.entries[field f.body 0 1 - 1]? = some h := by
      rw [hselector]
      exact hentry
    rw [hsame]
    rfl
  case weak =>
    intro n hpos hmax hkind hbody
    have hselector := hfirst n [] (by omega) hbody
    refine (execReadWeak.eq_1 s).trans (serveKind_reported htaking _ _ 1 _ _ hkind hbody (by decide) rfl ?_)
    dsimp only
    rw [hselector, if_pos ⟨hpos, hmax⟩]
    rfl
  case conditions =>
    intro hkind hbody
    have hselector := hfirst 0 [] (by decide) hbody
    refine (execReadConditions.eq_1 s).trans (serveKind_reported htaking _ _ 1 _ _ hkind hbody (by decide) rfl ?_)
    have hmaster : flag s.master = [if s.master then 1 else 0] := by cases s.master <;> rfl
    dsimp only
    rw [if_pos hselector]
    exact congrArg (fun l => reply (requestTaken s rest) f .ok (l ++ Condition.all.flatMap (latchSummary s))) hmaster
  case conditionDetail =>
    intro c hkind hbody
    have hnum : c.num < 256 := condition_num_mod c ▸ Nat.mod_lt _ (by decide)
    have hselector := hfirst c.num [] hnum hbody
    have hnonzero : c.num ≠ 0 := by cases c <;> decide
    refine (execReadConditions.eq_1 s).trans (serveKind_reported htaking _ _ 1 _ _ hkind hbody (by decide) rfl ?_)
    dsimp only
    rw [hselector, if_neg hnonzero, condition_ofNum_num]
    rfl

end Sys2Proof.Machine
end

-- ==== Proofs: initialisation and the final step of a Restart ====
section
/-! PROOFS. RESET_RELEASE and READY (O3); the final step of a Restart (O6). -/

namespace Sys2Proof.Machine

open Sys2Proof.Safety

/-! ### Initial tests that find nothing (R57, R154, R162) -/

section
variable (s : State)

/-- A position below both of its thresholds is not due (R57). -/
theorem isDue_of_below (p : Pos) (h : (s.hist.get p).hours < s.cfg.dueDays * 24
    ∧ (s.hist.get p).throughput < s.cfg.dueAh * 36000) : isDue s p = false := by
  obtain ⟨hhours, hthroughput⟩ := h
  simp [isDue, hhours, hthroughput]

/-- The DUE evaluation of a string that is not due, and is not marked DUE, changes nothing (R57). -/
theorem dueEvaluate_of_neither (p : Pos) (hundue : isDue s p = false) (hclear : (s.sit.get p).due = false) :
    dueEvaluate s p = s := by
  have hsame : ({ s.sit.get p with due := false } : StringSituation) = s.sit.get p := by rw [← hclear]
  rw [dueEvaluate_of_not_due s p hundue, State.modSit, hsame, eight_set_get]

theorem dueEvaluateAll_of_neither (hundue : ∀ p, isDue s p = false) (hclear : ∀ p, (s.sit.get p).due = false) :
    dueEvaluateAll s = s := by
  have hfold : ∀ l : List Pos, l.foldl (fun s p => if fitted s p then dueEvaluate s p else s) s = s := by
    intro l
    induction l with
    | nil => rfl
    | cons p l ih => rw [List.foldl_cons, dueEvaluate_of_neither s p (hundue p) (hclear p), ite_self, ih]
  exact hfold Pos.all

/-- The low test of an account that is not low (R154). -/
theorem reservoirTest_of_enough (h : s.cfg.reservoirLowMl ≤ s.reservoir.account) :
    reservoirTest s = { s with reservoir := { s.reservoir with low := false } } := by
  have hlow : accountLow s = false := by simp [accountLow, h]
  simp [reservoirTest, hlow]

/-- The tests of the initialisation where no marker stands, no string is due and the account is not low. -/
theorem initialTests_of_nothing (hmarkers : ∀ p, (s.hist.get p).roundOpen = none)
    (hundue : ∀ p : Pos, (s.hist.get p).hours < s.cfg.dueDays * 24
      ∧ (s.hist.get p).throughput < s.cfg.dueAh * 36000)
    (hclear : ∀ p, (s.sit.get p).due = false) (henough : s.cfg.reservoirLowMl ≤ s.reservoir.account) :
    initialTests (recoverRecords s) = { s with reservoir := { s.reservoir with low := false } } := by
  rw [recoverRecords_eq_foldl, foldl_recoverMarker_of_clear s Pos.all hmarkers, initialTests,
    dueEvaluateAll_of_neither s (fun p => isDue_of_below s p (hundue p)) hclear, reservoirTest_of_enough s henough]

/-! ### What the working settings give a reset part (R10, R43, R54) -/

theorem deriveFromSettings_inp (i : InputId) :
    (deriveFromSettings s).inp.get i = .reset (polarityOf s.cfg.polarity i.group) := by
  cases i with
  | kf p | ke p | ks p | level p => exact eight_get_of _ p
  | genRun | h2Alarm | resLow => rfl

theorem deriveFromSettings_sit (p : Pos) : (deriveFromSettings s).sit.get p = .reset (fitted s p) :=
  eight_get_of _ p

theorem deriveFromSettings_due (p : Pos) : ((deriveFromSettings s).sit.get p).due = false := by
  rw [deriveFromSettings_sit]
  rfl

theorem deriveFromSettings_comp (p : Pos) : (deriveFromSettings s).comp.get p = compReset s.cfg :=
  eight_get_const _ p

/-- The store after the load: what was stored, or the defaults when the checksum does not match (R186). -/
theorem loadSettings_store :
    (loadSettings s).store =
      { s.store with
        working := if s.store.checksumOk then s.store.stored else .default
        stored := if s.store.checksumOk then s.store.stored else .default
        checksumOk := true
        writeBusy := if s.store.checksumOk then s.store.writeBusy else false
        defaulted := !s.store.checksumOk } := by
  have hderive : (loadSettings s).store =
      if s.store.checksumOk then { s.store with working := s.store.stored, defaulted := false }
      else { working := .default, stored := .default, checksumOk := true, writeBusy := false, defaulted := true } := rfl
  rw [hderive]
  cases hok : s.store.checksumOk <;> simp [hok]

/-- What the load leaves as it was. -/
theorem loadSettings_frame :
    { s with
        store := (loadSettings s).store, inp := (loadSettings s).inp, sit := (loadSettings s).sit
        comp := (loadSettings s).comp
        reservoir := { s.reservoir with account := min s.reservoir.account (loadSettings s).cfg.reservoirCapMl }
        base := { s.base with atSecond := (loadSettings s).cfg } } = loadSettings s := rfl

end

/-- The settings loaded at the release are stored and in force. -/
theorem loadSettings_cfg (s : State) :
    (loadSettings s).cfg = if s.store.checksumOk then s.store.stored else Settings.default := by
  rw [State.cfg, loadSettings_store]

/-- Settles O3: the load's own changes, and then tests that find nothing. -/
theorem initialisationLoadsAndEnds : Obligations.InitialisationLoadsAndEnds := by
  refine ⟨?release, fun s hphase => if_pos hphase,
    fun s b hphase => ⟨if_neg hphase, if_neg fun h => hphase h.1⟩⟩
  intro s cfg account hheld hsettled hcfg haccount hmarkers hundue henough
  obtain ⟨u, hu⟩ : ∃ u, u = loadSettings { s with phase := .initialising } := ⟨_, rfl⟩
  have hload : u.cfg = cfg := by rw [hu, loadSettings_cfg]; exact hcfg.symm
  have hstore := hu ▸ loadSettings_store { s with phase := .initialising }
  have hframe := hu ▸ loadSettings_frame { s with phase := .initialising }
  have hreservoir : u.reservoir = { s.reservoir with account := account } := by
    rw [haccount, ← hload, hu]; rfl
  have htests : initialTests (recoverRecords u) = { u with reservoir := { u.reservoir with low := false } } :=
    initialTests_of_nothing u (hu ▸ hmarkers) (by rw [hload, hu]; exact hundue)
      (fun p => hu ▸ deriveFromSettings_due _ p) (by rw [hload, hreservoir]; exact henough)
  refine ⟨{ u with reservoir := { u.reservoir with low := false } }, ?exec, hload, ?stored, ?checksum, ?defaulted,
    fun i => ?inputs, fun p => ?situation, fun p => ?compensation, ?frame⟩
  case exec =>
    have hrelease : exec .resetRelease s = settled (initialTests (recoverRecords u)) := by
      rw [hu]; exact if_pos hheld
    rw [hrelease, htests]
    exact settled_of_settled _ (by rw [hu]; exact hsettled)
  case stored => rw [hcfg]; exact congrArg Store.stored hstore
  case checksum => exact congrArg Store.checksumOk hstore
  case defaulted => exact congrArg Store.defaulted hstore
  case inputs => rw [← hload, hu]; exact deriveFromSettings_inp _ i
  case situation => rw [← hload, hu]; exact deriveFromSettings_sit _ p
  case compensation => rw [← hload, hu]; exact deriveFromSettings_comp _ p
  case frame =>
    have hlow : ({ u.reservoir with low := false } : Reservoir) = { account := account, low := false } := by
      rw [hreservoir]
    rw [hlow, ← hload]
    exact congrArg (fun v : State => { v with reservoir := { account := account, low := false } }) hframe

/-! ### The final step of a Restart (R190) -/

section
variable (s : State)

/-- What the reset of the final step keeps and what it takes afresh (R6, R190). -/
theorem restartReset_spec :
    (restartReset s).phase = .initialising ∧ SafeOutputs (restartReset s).out ∧ NonVolatileKept s (restartReset s)
      ∧ VolatileReset (restartReset s) ∧ (restartReset s).clock = s.clock
      ∧ (∀ c : Condition, (restartReset s).latches.get c = none)
      ∧ (restartReset s).store.working = s.store.working ∧ (restartReset s).store.stored = s.store.working
      ∧ (restartReset s).store.defaulted = s.store.defaulted :=
  ⟨rfl, safeOutputs_safe, nonVolatileKept_afterReset s s.store, volatileReset_afterReset s s.store, rfl,
    latches_get_reset, rfl, rfl, rfl⟩

/-- The final step of a part whose owed records are written, with no marker left, no string due and the account not
low, is its reset alone. -/
theorem execFinalStep_of_nothing (u : State) (hdue : finalDue s = true)
    (howed : owedByLine (owedByChannel (owedByChannel s .a) .b) = u)
    (hmarkers : ∀ p, (u.hist.get p).roundOpen = none)
    (hundue : ∀ p : Pos, (u.hist.get p).hours < u.cfg.dueDays * 24
      ∧ (u.hist.get p).throughput < u.cfg.dueAh * 36000)
    (henough : u.cfg.reservoirLowMl ≤ u.reservoir.account) :
    exec .finalStep s = .next (restartReset u) := by
  have hexec : exec .finalStep s = settled (initialTests (recoverRecords (restartReset u))) := by
    rw [← howed]; exact if_pos hdue
  have htests : initialTests (recoverRecords (restartReset u)) = restartReset u :=
    initialTests_of_nothing (restartReset u) hmarkers hundue (deriveFromSettings_due _) henough
  rw [hexec, htests]
  exact settled_of_settled _ rfl

theorem quiet_iff : quiet s = true ↔ ChannelsIdle s ∧ s.line.stage = .free ∧ s.store.writeBusy = false := by
  simp [quiet, isIdle, ChannelsIdle, Two.get, and_assoc]

/-- At once in a quiet part, otherwise at 10 s (R190). -/
theorem finalDue_iff (t₀ : Nat) (hrestart : s.restartAt = some t₀) :
    finalDue s = true ↔ quiet s = true ∨ t₀ + 10000 ≤ max s.base.ms s.base.sampleAt := by
  simp [finalDue, hrestart, restartLimit]

theorem isIdle_iff (c : Ch) : isIdle s c = true ↔ (s.chan.get c).stage = .idle := by simp [isIdle]

theorem owedByChannel_of_idle (c : Ch) (h : (s.chan.get c).stage = .idle) : owedByChannel s c = s :=
  if_pos ((isIdle_iff s c).2 h)

/-- The record of a channel's context, where no watering serves it (R163). -/
theorem owedByChannel_of_context (c : Ch) (x : Context) (hbusy : (s.chan.get c).stage ≠ .idle)
    (hctx : (s.chan.get c).ctx = some x) (hcall : (s.chan.get c).call = none) :
    owedByChannel s c = writeRecord s (contextRecord s x .interrupted) := by
  have hserved : withServed s c x = x := by rw [withServed, hcall]
  rw [owedByChannel, if_neg fun h => hbusy ((isIdle_iff s c).1 h), hctx]
  dsimp only
  rw [hserved]

/-- The records owed by the channels, where only one of them is busy. -/
theorem owedByChannels_of_one (c : Ch) (x : Context) (hbusy : (s.chan.get c).stage ≠ .idle)
    (hctx : (s.chan.get c).ctx = some x) (hcall : (s.chan.get c).call = none)
    (hother : (s.chan.get c.other).stage = .idle) :
    owedByChannel (owedByChannel s .a) .b = writeRecord s (contextRecord s x .interrupted) := by
  cases c with
  | a =>
    rw [owedByChannel_of_context s .a x hbusy hctx hcall]
    exact owedByChannel_of_idle _ .b hother
  | b =>
    rw [owedByChannel_of_idle s .a hother]
    exact owedByChannel_of_context s .b x hbusy hctx hcall

theorem owedByChannels_of_idle (h : ChannelsIdle s) : owedByChannel (owedByChannel s .a) .b = s := by
  obtain ⟨ha, hb⟩ := h
  rw [owedByChannel_of_idle s .a ha, owedByChannel_of_idle s .b hb]

theorem owedByLine_of_no_round (h : s.line.owner ≠ some .round) : owedByLine s = s := by
  unfold owedByLine
  split
  next howner _ _ => exact absurd howner h
  next => rfl

/-- A record leaves the history of its string without a marker, and the others as they were (R161). -/
theorem writeRecord_clears (r : Record) (hothers : ∀ q, q ≠ r.string → (s.hist.get q).roundOpen = none)
    (q : Pos) :
    ((writeRecord s r).hist.get q).roundOpen = none := by
  rw [writeRecord_hist]
  by_cases hq : q = r.string
  · rw [hq, eight_get_set_same]
  · rw [eight_get_set_other _ _ _ _ hq]
    exact hothers q hq

/-- A record changes no hours and no throughput. -/
theorem writeRecord_counts (r : Record) (q : Pos) :
    ((writeRecord s r).hist.get q).hours = (s.hist.get q).hours
      ∧ ((writeRecord s r).hist.get q).throughput = (s.hist.get q).throughput := by
  rw [writeRecord_hist]
  by_cases hq : q = r.string
  · rw [hq, eight_get_set_same]
    exact ⟨rfl, rfl⟩
  · rw [eight_get_set_other _ _ _ _ hq]
    exact ⟨rfl, rfl⟩

/-- The final step that writes one owed record: the record ends the log, its string's marker is gone, and the part
is reset (R163, R190). -/
theorem execFinalStep_of_record (r : Record) (hdue : finalDue s = true)
    (howed : owedByLine (owedByChannel (owedByChannel s .a) .b) = writeRecord s r)
    (hothers : ∀ q, q ≠ r.string → (s.hist.get q).roundOpen = none)
    (hundue : ∀ p : Pos, (s.hist.get p).hours < s.cfg.dueDays * 24
      ∧ (s.hist.get p).throughput < s.cfg.dueAh * 36000)
    (henough : s.cfg.reservoirLowMl ≤ s.reservoir.account) :
    ∃ t, exec .finalStep s = .next t ∧ t.phase = .initialising ∧ SafeOutputs t.out ∧ VolatileReset t
      ∧ t.clock = s.clock ∧ t.store.working = s.store.working ∧ (∀ c : Condition, t.latches.get c = none)
      ∧ t.hist = s.hist.set r.string { s.hist.get r.string with roundOpen := none }
      ∧ t.log.nextSeq = (s.log.nextSeq + 1) % 65536
      ∧ t.log.ring.getLast? = some { r with seq := s.log.nextSeq } := by
  have hundue' : ∀ q : Pos, ((writeRecord s r).hist.get q).hours < s.cfg.dueDays * 24
      ∧ ((writeRecord s r).hist.get q).throughput < s.cfg.dueAh * 36000 := by
    intro q
    obtain ⟨hhours, hthroughput⟩ := writeRecord_counts s r q
    rw [hhours, hthroughput]
    exact hundue q
  have hexec := execFinalStep_of_nothing s _ hdue howed (writeRecord_clears s r hothers) hundue' henough
  obtain ⟨hphase, hout, ⟨hhist, -, -, hring, hseq⟩, hvolatile, hclock, hlatches, hworking, -, -⟩ :=
    restartReset_spec (writeRecord s r)
  exact ⟨_, hexec, hphase, hout, hvolatile, hclock, hworking, hlatches, hhist, hseq,
    (congrArg List.getLast? hring).trans (writeRecord_getLast s r)⟩

end

/-- Settles O6: the part is reset from what the owed records leave. -/
theorem finalStepResets : Obligations.FinalStepResets := by
  refine ⟨?quiet, ?waits, ?channel, ?line⟩
  case quiet =>
    intro s t₀ hrestart hidle hfree howner hwrite hmarkers hundue henough
    have hdue : finalDue s = true :=
      (finalDue_iff s t₀ hrestart).2 (.inl ((quiet_iff s).2 ⟨hidle, hfree, hwrite⟩))
    have howed : owedByLine (owedByChannel (owedByChannel s .a) .b) = s := by
      rw [owedByChannels_of_idle s hidle, owedByLine_of_no_round s (by rw [howner]; simp)]
    obtain ⟨hphase, hout, hkept, hvolatile, hclock, hlatches, hstore⟩ := restartReset_spec s
    exact ⟨_, execFinalStep_of_nothing s s hdue howed hmarkers hundue henough, hphase, hout, hkept, hvolatile, hclock,
      hlatches, hstore⟩
  case waits =>
    intro s t₀ hrestart hbusy hms hsample
    refine if_neg fun hdue => ?_
    rcases (finalDue_iff s t₀ hrestart).1 hdue with hquiet | hlimit
    · obtain ⟨hidle, hfree, hwrite⟩ := (quiet_iff s).1 hquiet
      rcases hbusy with h | h | h
      · exact h hidle
      · exact h hfree
      · rw [hwrite] at h
        cases h
    · omega
  case channel =>
    intro s t₀ c x hrestart hlimit hbusy hctx hcall hother howner hmarkers hundue henough
    have hdue : finalDue s = true := (finalDue_iff s t₀ hrestart).2 (.inr (le_max_of_le_left hlimit))
    refine execFinalStep_of_record s (contextRecord s x .interrupted) hdue ?_ hmarkers hundue henough
    rw [owedByChannels_of_one s c x hbusy hctx hcall hother, owedByLine_of_no_round (writeRecord s _) howner]
  case line =>
    intro s t₀ p i o hrestart hlimit hidle howner hstring hidentity houtcome hmarkers hundue henough
    have hdue : finalDue s = true := (finalDue_iff s t₀ hrestart).2 (.inr (le_max_of_le_left hlimit))
    have hresult : lineResult s = { ml := s.line.ml, doses := s.line.doses, outcome := o } := by
      rw [lineResult, houtcome]; rfl
    refine execFinalStep_of_record s
      (waterRecord s p i .interrupted { ml := s.line.ml, doses := s.line.doses, outcome := o }) hdue ?_ hmarkers hundue
      henough
    rw [owedByChannels_of_idle s hidle, owedByLine, howner, hstring, hidentity]
    dsimp only
    rw [hresult]

end Sys2Proof.Machine
end

-- ==== Proofs: a Restart is taken ====
section
/-! PROOFS. A Restart of a quiet part, with and without rounds held (O5). -/

namespace Sys2Proof.Machine

open Sys2Proof.Safety

/-! ### A log that takes several records (R161) -/

/-- Records with the seqs they take, from a next_seq on. -/
def sequenced : Nat → List Record → List Record
  | _, [] => []
  | n, r :: l => { r with seq := n } :: sequenced ((n + 1) % 65536) l

theorem sequenced_length (l : List Record) : ∀ n, (sequenced n l).length = l.length := by
  induction l with
  | nil => intro n; rfl
  | cons r l ih => intro n; simp [sequenced, ih]

/-- The k-th record takes the k-th seq from next_seq on. -/
theorem sequenced_getElem? (l : List Record) : ∀ (n k : Nat), n < 65536 →
    (sequenced n l)[k]? = l[k]?.map fun r => { r with seq := (n + k) % 65536 } := by
  induction l with
  | nil => intro n k _; rfl
  | cons r l ih =>
    intro n k hn
    cases k with
    | zero => simp [sequenced, Nat.mod_eq_of_lt hn]
    | succ k =>
      have hseq : ((n + 1) % 65536 + k) % 65536 = (n + (k + 1)) % 65536 := by omega
      simp [sequenced, ih _ k (Nat.mod_lt _ (by decide)), hseq]

/-- A ring that takes a record holds at most its 64 records (R161). -/
theorem Log.append_ring_length (l : Log) (r : Record) : (l.append r).ring.length ≤ 64 := by
  simp only [Log.append, List.length_append, List.length_drop, List.length_singleton]
  omega

/-- Taking a record and then others keeps what taking them all at once keeps. -/
theorem drop_append_ring (l : Log) (r : Record) (more : List Record) :
    ((l.append r).ring ++ more).drop ((l.append r).ring.length + more.length - 64) =
      (l.ring ++ { r with seq := l.nextSeq } :: more).drop (l.ring.length + (more.length + 1) - 64) := by
  have hring : (l.append r).ring ++ more =
      (l.ring ++ { r with seq := l.nextSeq } :: more).drop (l.ring.length + 1 - 64) := by
    rw [List.drop_append_of_le_length (by omega)]
    simp [Log.append]
  have hlength : (l.append r).ring.length = l.ring.length + 1 - (l.ring.length + 1 - 64) := by
    simp only [Log.append, List.length_append, List.length_drop, List.length_singleton]
    omega
  rw [hring, List.drop_drop, hlength]
  congr 1
  omega

/-- A log with several records more: the oldest beyond 64 gone, the new ones last in order. -/
def Log.extended (l : Log) (rs : List Record) : Log :=
  { l with
    ring := (l.ring ++ sequenced l.nextSeq rs).drop (l.ring.length + rs.length - 64)
    nextSeq := (l.nextSeq + rs.length) % 65536 }

theorem Log.extended_append (l : Log) (r : Record) (rs : List Record) :
    (l.append r).extended rs = l.extended (r :: rs) := by
  have hseq : ((l.append r).nextSeq + rs.length) % 65536 = (l.nextSeq + (rs.length + 1)) % 65536 := by
    simp only [Log.append]
    omega
  have hring := drop_append_ring l r (sequenced (l.append r).nextSeq rs)
  rw [sequenced_length] at hring
  rw [Log.extended, hring, hseq]
  rfl

/-- Records taken one by one by a log within its capacity. -/
theorem Log.foldl_append (rs : List Record) : ∀ l : Log, l.ring.length ≤ 64 → l.nextSeq < 65536 →
    rs.foldl Log.append l = l.extended rs := by
  induction rs with
  | nil =>
    intro l hring hseq
    have hnone : l.ring.length + ([] : List Record).length - 64 = 0 := by simp only [List.length_nil]; omega
    rw [Log.extended, hnone]
    simp [sequenced, Nat.mod_eq_of_lt hseq]
  | cons r rs ih =>
    intro l _ _
    rw [List.foldl_cons, ih _ (Log.append_ring_length l r) (Nat.mod_lt _ (by decide)), Log.extended_append]

/-- The first record brings any log within its capacity. -/
theorem Log.foldl_append_cons (l : Log) (r : Record) (rs : List Record) :
    (r :: rs).foldl Log.append l = l.extended (r :: rs) := by
  rw [List.foldl_cons, Log.foldl_append rs _ (Log.append_ring_length l r) (Nat.mod_lt _ (by decide)),
    Log.extended_append]

/-! ### The end of one held round (R133) -/

/-- A held round ends INTERRUPTED. -/
def interruptOne (s : State) (h : Held) : State := endHeld s h .interrupted

theorem interruptHeld_eq (s : State) : interruptHeld s = s.held.entries.foldl interruptOne s := rfl

section
variable (s : State) (h : Held)

theorem interruptOne_frame :
    { s with
      held := (interruptOne s h).held, sit := (interruptOne s h).sit, log := (interruptOne s h).log
      hist := (interruptOne s h).hist, latches := (interruptOne s h).latches } = interruptOne s h := rfl

theorem interruptOne_held :
    (interruptOne s h).held = { entries := s.held.entries.filter (· != h), gen := (s.held.gen + 1) % 256 } := rfl

theorem interruptOne_log : (interruptOne s h).log = s.log.append (contextRecord s h.ctx .interrupted) := rfl

theorem interruptOne_sit :
    (interruptOne s h).sit =
      s.sit.set h.ctx.string { s.sit.get h.ctx.string with role := .float, assigned := none } := rfl

theorem interruptOne_hist :
    (interruptOne s h).hist = s.hist.set h.ctx.string { s.hist.get h.ctx.string with roundOpen := none } := rfl

theorem interruptOne_latches :
    (interruptOne s h).latches = (s.event .roundEnded h.ctx.string.num s.log.nextSeq none).latches := rfl

end

/-! ### The end of several held rounds (R133) -/

theorem foldl_interruptOne_frame (l : List Held) : ∀ s : State,
    { s with
      held := (l.foldl interruptOne s).held, sit := (l.foldl interruptOne s).sit, log := (l.foldl interruptOne s).log
      hist := (l.foldl interruptOne s).hist, latches := (l.foldl interruptOne s).latches }
      = l.foldl interruptOne s := by
  induction l with
  | nil => intro s; rfl
  | cons h l ih =>
    intro s
    have hrest := ih (interruptOne s h)
    rw [List.foldl_cons, ← hrest, ← interruptOne_frame s h]

theorem foldl_interruptOne_entries (l : List Held) : ∀ s : State,
    (l.foldl interruptOne s).held.entries = s.held.entries.filter fun g => !l.contains g := by
  induction l with
  | nil => intro s; simp
  | cons h l ih =>
    intro s
    rw [List.foldl_cons, ih, interruptOne_held, List.filter_filter]
    refine List.filter_congr fun g _ => ?_
    rw [Bool.eq_iff_iff]
    simp [and_comm]

/-- Every held round ends. -/
theorem interruptHeld_entries (s : State) : (interruptHeld s).held.entries = [] := by
  rw [interruptHeld_eq, foldl_interruptOne_entries]
  simp

theorem foldl_interruptOne_gen (l : List Held) : ∀ s : State, s.held.gen < 256 →
    (l.foldl interruptOne s).held.gen = (s.held.gen + l.length) % 256 := by
  induction l with
  | nil => intro s hgen; exact (Nat.mod_eq_of_lt hgen).symm
  | cons h l ih =>
    intro s _
    have hone : (interruptOne s h).held.gen = (s.held.gen + 1) % 256 := rfl
    rw [List.foldl_cons, ih _ (hone ▸ Nat.mod_lt _ (by decide)), hone, List.length_cons]
    omega

theorem foldl_interruptOne_log (l : List Held) : ∀ s : State,
    (l.foldl interruptOne s).log =
      (l.map fun h => contextRecord s h.ctx .interrupted).foldl Log.append s.log := by
  induction l with
  | nil => intro s; rfl
  | cons h l ih =>
    intro s
    rw [List.foldl_cons, ih, List.map_cons, List.foldl_cons, ← interruptOne_log]
    rfl

/-- The strings of the ended rounds are FLOAT with no assignment; the others stay. -/
theorem foldl_interruptOne_sit (l : List Held) (p : Pos) : ∀ s : State,
    (l.foldl interruptOne s).sit.get p =
      if ∃ g ∈ l, g.ctx.string = p then { s.sit.get p with role := .float, assigned := none } else s.sit.get p := by
  induction l with
  | nil => intro s; simp
  | cons h l ih =>
    intro s
    rw [List.foldl_cons, ih, interruptOne_sit]
    by_cases hp : p = h.ctx.string
    · subst hp
      simp
    · rw [eight_get_set_other _ _ _ _ hp]
      simp [Ne.symm hp]

/-- The strings of the ended rounds have no marker; the others' histories stay. -/
theorem foldl_interruptOne_hist (l : List Held) (p : Pos) : ∀ s : State,
    (l.foldl interruptOne s).hist.get p =
      if ∃ g ∈ l, g.ctx.string = p then { s.hist.get p with roundOpen := none } else s.hist.get p := by
  induction l with
  | nil => intro s; simp
  | cons h l ih =>
    intro s
    rw [List.foldl_cons, ih, interruptOne_hist]
    by_cases hp : p = h.ctx.string
    · subst hp
      simp
    · rw [eight_get_set_other _ _ _ _ hp]
      simp [Ne.symm hp]

/-- Each further round counts again on a latch that is set. -/
theorem foldl_interruptOne_latches (l : List Held) : ∀ (s : State) (d : LatchDetail),
    s.latches.roundEnded = some d → d.again ≤ 255 →
    (l.foldl interruptOne s).latches =
      { s.latches with roundEnded := some { d with again := min 255 (d.again + l.length) } } := by
  induction l with
  | nil =>
    intro s d hlatch hagain
    simp [Nat.min_eq_right hagain, ← hlatch]
  | cons h l ih =>
    intro s d hlatch hagain
    have hset : (interruptOne s h).latches =
        { s.latches with roundEnded := some { d with again := min 255 (d.again + 1) } } := by
      rw [interruptOne_latches, event_of_set s .roundEnded _ _ none d hlatch]
      rfl
    have hcount : min 255 (min 255 (d.again + 1) + l.length) = min 255 (d.again + (l.length + 1)) := by omega
    rw [List.foldl_cons, ih (interruptOne s h) { d with again := min 255 (d.again + 1) } (by rw [hset])
      (Nat.min_le_left _ _), hset, List.length_cons]
    dsimp only
    rw [hcount]

/-- The records of held rounds that end INTERRUPTED, oldest first. -/
def heldRecords (s : State) (l : List Held) : List Record := l.map fun h => contextRecord s h.ctx .interrupted

/-- The records with the seqs they take. -/
def endedRecords (s : State) (l : List Held) : List Record := sequenced s.log.nextSeq (heldRecords s l)

theorem endedRecords_length (s : State) (l : List Held) : (endedRecords s l).length = l.length := by
  rw [endedRecords, sequenced_length, heldRecords, List.length_map]

theorem endedRecords_getElem? (s : State) (l : List Held) (k : Nat) (g : Held) (hseq : s.log.nextSeq < 65536)
    (hg : l[k]? = some g) :
    (endedRecords s l)[k]? =
      some { contextRecord s g.ctx .interrupted with seq := (s.log.nextSeq + k) % 65536 } := by
  rw [endedRecords, sequenced_getElem? _ _ k hseq, heldRecords, List.getElem?_map, hg]
  rfl

section
variable (s : State) (h : Held) (younger : List Held) (hheld : s.held.entries = h :: younger)
include hheld

theorem interruptHeld_eq_foldl : interruptHeld s = (h :: younger).foldl interruptOne s := by
  rw [interruptHeld_eq, hheld]

theorem interruptHeld_held :
    (interruptHeld s).held = { entries := [], gen := (s.held.gen + (h :: younger).length) % 256 } := by
  have hgen : (interruptHeld s).held.gen = (s.held.gen + (h :: younger).length) % 256 := by
    have hone : (interruptOne s h).held.gen = (s.held.gen + 1) % 256 := rfl
    rw [interruptHeld_eq_foldl s h younger hheld, List.foldl_cons,
      foldl_interruptOne_gen younger _ (hone ▸ Nat.mod_lt _ (by decide)), hone, List.length_cons]
    omega
  rw [← hgen, ← interruptHeld_entries s]

theorem interruptHeld_log :
    (interruptHeld s).log =
      { s.log with
        ring := (s.log.ring ++ endedRecords s (h :: younger)).drop
          (s.log.ring.length + (endedRecords s (h :: younger)).length - 64)
        nextSeq := (s.log.nextSeq + (endedRecords s (h :: younger)).length) % 65536 } := by
  have hextended : (interruptHeld s).log = s.log.extended (heldRecords s (h :: younger)) := by
    rw [interruptHeld_eq_foldl s h younger hheld, foldl_interruptOne_log]
    exact Log.foldl_append_cons s.log _ _
  rw [hextended, endedRecords_length, Log.extended, heldRecords, List.length_map]
  rfl

/-- ROUND_ENDED takes the oldest round's detail and counts the others (R171). -/
theorem interruptHeld_latches (hclear : s.latches.roundEnded = none) :
    (interruptHeld s).latches =
      { s.latches with roundEnded := (some
          { string := h.ctx.string.num, value := s.log.nextSeq, captured := none, time := s.stamp
            again := min 255 younger.length, pending := true }) } := by
  have hfirst : (interruptOne s h).latches =
      { s.latches with roundEnded := (some
          { string := h.ctx.string.num, value := s.log.nextSeq, captured := none, time := s.stamp
            again := 0, pending := true }) } := by
    rw [interruptOne_latches, event_of_clear s .roundEnded _ _ none hclear]
    rfl
  rw [interruptHeld_eq_foldl s h younger hheld, List.foldl_cons,
    foldl_interruptOne_latches younger (interruptOne s h) _ (congrArg Latches.roundEnded hfirst) (Nat.zero_le _),
    hfirst]
  simp

theorem interruptHeld_frame :
    { s with
      held := (interruptHeld s).held, sit := (interruptHeld s).sit, log := (interruptHeld s).log
      hist := (interruptHeld s).hist, latches := (interruptHeld s).latches } = interruptHeld s := by
  rw [interruptHeld_eq_foldl s h younger hheld]
  exact foldl_interruptOne_frame (h :: younger) s

end

/-! ### A Restart of a quiet part (R190) -/

theorem restartChannel_of_idle (s : State) (c : Ch) (h : (s.chan.get c).stage = .idle) : restartChannel s c = s := by
  rw [restartChannel, h]

theorem restartLine_of_free (s : State) (h : s.line.stage = .free) : restartLine s = s := by
  rw [restartLine, h]

/-- A Restart with both channels IDLE and the line FREE only ends the held rounds (R190). -/
theorem serveRestart_of_quiet (s : State) (f : Frame) (hidle : ChannelsIdle s) (hfree : s.line.stage = .free) :
    serveRestart s f = interruptHeld { reply s f .ok [] with restartAt := some s.base.ms } := by
  obtain ⟨ha, hb⟩ := hidle
  generalize hu : ({ reply s f .ok [] with restartAt := some s.base.ms } : State) = u
  have hserve : serveRestart s f = restartLine (restartChannel (restartChannel (interruptHeld u) .a) .b) := by
    rw [← hu]; rfl
  have hframe := foldl_interruptOne_frame u.held.entries u
  rw [← interruptHeld_eq] at hframe
  have hchan : (interruptHeld u).chan = s.chan := by rw [← hframe, ← hu]; rfl
  have hline : (interruptHeld u).line = s.line := by rw [← hframe, ← hu]; rfl
  rw [hserve, restartChannel_of_idle _ .a (by rw [hchan]; exact ha),
    restartChannel_of_idle _ .b (by rw [hchan]; exact hb), restartLine_of_free _ (by rw [hline]; exact hfree)]

/-- The state that a Restart of a quiet part starts from: the reply placed and the restarting time begun (R190). -/
def restartBegun (s : State) (f : Frame) (rest : List Frame) : State :=
  { s with restartAt := some s.base.ms, link := answered s rest (replyTo f 0 0 []) }

/-- A Restart of a quiet part ends the held rounds and changes nothing more. -/
theorem exec_restart_of_quiet (s : State) (f : Frame) (rest : List Frame) (htaking : Taking s f rest)
    (hkind : f.kind = 0x1B) (hbody : f.body = []) (hidle : ChannelsIdle s) (hfree : s.line.stage = .free) :
    exec .restart s = .next (interruptHeld (restartBegun s f rest)) := by
  obtain ⟨htaken, hsettled⟩ := afterTaking_of_taking htaking
  have hexec : exec .restart s = settled (serveRestart (requestTaken s rest) f) :=
    htaken ▸ serveKind_taken s _ _ _ f rest htaking hkind (by rw [hbody]; rfl)
  have hbegun : ({ reply (requestTaken s rest) f .ok [] with restartAt := some s.base.ms } : State) =
      restartBegun s f rest := by
    rw [reply_link _ f .ok [] (by rw [hkind]; decide)]
    rfl
  have hserve : serveRestart (requestTaken s rest) f = interruptHeld (restartBegun s f rest) :=
    (serveRestart_of_quiet (requestTaken s rest) f hidle hfree).trans (congrArg interruptHeld hbegun)
  have hframe := foldl_interruptOne_frame (restartBegun s f rest).held.entries (restartBegun s f rest)
  rw [hexec, hserve]
  refine settled_of_settled _ ?_
  rw [interruptHeld_eq, ← hframe]
  exact hsettled

/-- Settles O5: the held rounds end one by one, and each state component is followed through them. -/
theorem restartIsTaken : Obligations.RestartIsTaken := by
  refine ⟨?alone, ?ending, interruptHeld_entries⟩
  case alone =>
    intro s f rest htaking hkind hbody hidle hheld hfree
    rw [exec_restart_of_quiet s f rest htaking hkind hbody hidle hfree]
    have hnone : (restartBegun s f rest).held.entries = [] := hheld
    rw [interruptHeld_eq, hnone]
    rfl
  case ending =>
    intro s f rest h younger htaking hkind hbody hidle hfree hheld hseq hlatch
    have hexec := exec_restart_of_quiet s f rest htaking hkind hbody hidle hfree
    have hbegun : (restartBegun s f rest).held.entries = h :: younger := hheld
    have hframe := interruptHeld_frame (restartBegun s f rest) h younger hbegun
    refine ⟨interruptHeld (restartBegun s f rest), endedRecords s (h :: younger), hexec,
      (congrArg State.restartAt hframe).symm, (congrArg State.link hframe).symm, ?held, ?count, fun k g hg => ?records,
      interruptHeld_log _ h younger hbegun, fun p => ⟨fun hp => ?ended, fun hp => ?others⟩,
      interruptHeld_latches _ h younger hbegun hlatch, ?frame⟩
    case held => rw [hheld]; exact interruptHeld_held _ h younger hbegun
    case count => rw [hheld, endedRecords_length]
    case records =>
      rw [endedRecords_getElem? s _ k g hseq (hheld ▸ hg)]
      exact ⟨rfl, rfl⟩
    case ended =>
      rw [interruptHeld_eq_foldl _ h younger hbegun, foldl_interruptOne_sit, foldl_interruptOne_hist, ← hheld,
        if_pos hp, if_pos hp]
      exact ⟨rfl, rfl⟩
    case others =>
      have hnone : ¬ ∃ g ∈ s.held.entries, g.ctx.string = p := fun ⟨g, hg, hgp⟩ => hp g hg hgp
      rw [interruptHeld_eq_foldl _ h younger hbegun, foldl_interruptOne_sit, foldl_interruptOne_hist, ← hheld,
        if_neg hnone, if_neg hnone]
      exact ⟨rfl, rfl⟩
    case frame =>
      have hrestart : (interruptHeld (restartBegun s f rest)).restartAt = some s.base.ms :=
        (congrArg State.restartAt hframe).symm
      have hlink : (interruptHeld (restartBegun s f rest)).link = answered s rest (replyTo f 0 0 []) :=
        (congrArg State.link hframe).symm
      rw [hrestart, hlink]
      exact hframe

end Sys2Proof.Machine
end

-- ==== Proofs: the Site Clock and the taking of a Set Setting ====
section
/-! PROOFS. Set Clock, the tests of a Set Setting, the answers of those that no block acts on at once, and the end of
the store's write (O46, first part). -/

namespace Sys2Proof.Machine

open Sys2Proof.Safety

/-! ### The body of a Set Setting (R178, R185) -/

theorem setting_fields (b : Byte) (v : Nat) (hv : v < 4294967296) :
    field (b :: u32 v) 0 1 = b.toNat ∧ field (b :: u32 v) 1 4 = v := by
  refine ⟨?_, (show field (b :: u32 v) 1 4 = field (u32 v) 0 4 from rfl).trans (field_u32 v hv)⟩
  simp [field, ofBytes]

theorem settingId_of_byte (i : SettingId) : SettingId.ofId (BitVec.ofNat 8 i.id).toNat = some i := by
  cases i <;> rfl

/-- Bytes that are no setting's id (R184). -/
theorem settingId_of_unlisted (n : Nat) (h : n = 0 ∨ 42 < n) : SettingId.ofId n = none := by
  rcases h with h | h
  · rw [SettingId.ofId, if_pos h]
  · have hcount : SettingId.all.length = 42 := rfl
    rw [SettingId.ofId, if_neg (by omega)]
    exact List.getElem?_eq_none (by omega)

/-! ### The tests of a Set Setting (R185) -/

section
variable (s : State) (f : Frame) (i : SettingId) (v : Nat)

theorem serveSetSetting_of_unknown (hid : SettingId.ofId (field f.body 0 1) = none) :
    serveSetSetting s f = reply s f .notFound [] := by
  rw [serveSetSetting, hid]

variable (hid : SettingId.ofId (field f.body 0 1) = some i)
include hid

theorem serveSetSetting_of_busy (hbusy : s.store.writeBusy = true) :
    serveSetSetting s f = reply s f .storeBusy [] := by
  rw [serveSetSetting, hid]
  exact if_pos hbusy

variable (hvalue : field f.body 1 4 = v) (hfree : s.store.writeBusy = false)
include hvalue hfree

theorem serveSetSetting_of_refusal (r : Reason) (hrefusal : settingRefusal s i v = some r) :
    serveSetSetting s f = refuse s f r := by
  rw [serveSetSetting, hid]
  dsimp only
  rw [if_neg (by rw [hfree]; decide), hvalue, hrefusal]

theorem serveSetSetting_of_allowed (hallowed : settingRefusal s i v = none) :
    serveSetSetting s f = acceptSetting s f i v := by
  rw [serveSetSetting, hid]
  dsimp only
  rw [if_neg (by rw [hfree]; decide), hvalue, hallowed]

end

/-- A value without an undefined bit is refused for FITTED alone (R185). -/
theorem settingRefusal_of_defined (s : State) (i : SettingId) (v : Nat) (hdefined : definedBits i v = true)
    (hfitted : i ≠ .fitted) : settingRefusal s i v = none := by
  rw [settingRefusal, hdefined, if_neg (by decide), if_neg hfitted]

theorem actsLater_numeric (i : SettingId) (hlater : i ∈ actsLater) (v : Nat) :
    i.isSet = false ∧ i ≠ .fitted ∧ definedBits i v = true := by
  unfold actsLater at hlater
  fin_cases hlater <;> exact ⟨rfl, by decide, rfl⟩

/-! ### An accepted Set Setting (R185) -/

/-- A state with a setting's working value replaced and STORE_DEFAULTED clear, before the store's write begins. -/
def valueSet (s : State) (i : SettingId) (v : Nat) : State :=
  { s with store := { s.store with working := s.store.working.set i v, defaulted := false } }

/-- A state in which the store's write has begun and a frame is answered (R185). -/
def writeAnswered (s : State) (r : Frame) : State :=
  { s with
    store := { s.store with checksumOk := false, writeBusy := true }
    link := { s.link with outbound := s.link.outbound ++ [r] } }

/-- The status of the answer to a value that is stored as another. -/
theorem status_code_of_clamped (i : SettingId) (v : Nat) (hnumeric : i.isSet = false) :
    BitVec.ofNat 8 (if settingClamped i v then Status.clamped else Status.ok).code =
      (if settingValue i v = v then 0 else 1 : Byte) := by
  by_cases h : settingValue i v = v
  · rw [if_pos h, settingClamped, h]; simp [Status.code]
  · rw [if_neg h, settingClamped, hnumeric]; simp [h, Status.code]

section
variable (s : State) (f : Frame) (i : SettingId) (v : Nat)

/-- STORE_DEFAULTED is cleared by every Set Setting that passes its tests (R185). -/
def undefaulted : State := { s with store := { s.store with defaulted := false } }

theorem acceptSetting_of_same (hsame : settingValue i v = s.cfg.get i) :
    acceptSetting s f i v =
      reply (undefaulted s) f (if settingClamped i v then .clamped else .ok) (u32 (settingValue i v)) := by
  unfold acceptSetting
  dsimp only
  rw [if_pos (by exact hsame)]
  rfl

theorem acceptSetting_of_new (hnew : settingValue i v ≠ s.cfg.get i) (hbelow : f.kind.toNat < 128) :
    acceptSetting s f i v =
      writeAnswered (applySetting (undefaulted s) i (settingValue i v))
        (replyTo f (BitVec.ofNat 8 (if settingClamped i v then Status.clamped else Status.ok).code) 0
          (u32 (settingValue i v))) := by
  unfold acceptSetting
  dsimp only
  rw [if_neg (by exact hnew), reply_link _ f _ _ hbelow]
  rfl

theorem applySetting_of_later (hlater : i ∈ actsLater) : applySetting (undefaulted s) i v = valueSet s i v := by
  unfold actsLater at hlater
  fin_cases hlater <;> rfl

theorem applySetting_of_noticeEnables :
    applySetting (undefaulted s) .noticeEnables v = valueSet s .noticeEnables v := rfl

end

/-- A Set Setting whose body holds a byte and a value is served by its rule. -/
theorem exec_setSetting (s : State) (f : Frame) (rest : List Frame) (b : Byte) (v : Nat) (htaking : Taking s f rest)
    (hkind : f.kind = 0x08) (hbody : f.body = b :: u32 v) :
    exec .setSetting s = settled (serveSetSetting (requestTaken s rest) f) :=
  (afterTaking_of_taking htaking).1 ▸ serveKind_taken s _ _ _ f rest htaking hkind (by rw [hbody]; rfl)

/-- Set Clock takes the count, and answers what the clock was (R187). -/
theorem exec_setClock (s : State) (f : Frame) (rest : List Frame) (n : Nat) (htaking : Taking s f rest)
    (hkind : f.kind = 0x03) (hn : n < 4294967296) (hbody : f.body = u32 n) :
    exec .setClock s = .next
      { s with
        clock := { count := n, valid := true }
        link := answered s rest (replyTo f 0 0 (u32 s.clock.count ++ [if s.clock.valid then 1 else 0])) } := by
  obtain ⟨htaken, hsettled⟩ := afterTaking_of_taking htaking
  have hbelow : f.kind.toNat < 128 := by rw [hkind]; decide
  have hcount : field f.body 0 4 = n := by rw [hbody]; exact field_u32 n hn
  have hvalid : flag s.clock.valid = [if s.clock.valid then 1 else 0] := by cases s.clock.valid <;> rfl
  rw [← hvalid, ← hcount]
  refine (execSetClock.eq_1 s).trans
    ((serveKind_taken s _ _ _ f rest htaking hkind (by rw [hbody]; rfl)).trans ?_)
  rw [htaken]
  exact settled_reply s { requestTaken s rest with clock := { count := field f.body 0 4, valid := true } } f rest .ok
    _ rfl hbelow hsettled

/-- The end of the store's write stores the working values (R185). -/
theorem exec_storeWriteEnd (s : State) (hbusy : s.store.writeBusy = true) :
    exec .storeWriteEnd s = .next { s with store :=
      { s.store with stored := s.store.working, checksumOk := true, writeBusy := false } } :=
  if_pos hbusy

/-! ### Answers without an action of a block (R185) -/

section
variable (s : State) (f : Frame) (rest : List Frame)

theorem exec_setSetting_of_unknown (b : Byte) (v : Nat) (htaking : Taking s f rest) (hkind : f.kind = 0x08)
    (hunlisted : b.toNat = 0 ∨ 42 < b.toNat) (hbody : f.body = b :: u32 v) :
    exec .setSetting s = .next { s with link := answered s rest (replyTo f 5 0 []) } := by
  obtain ⟨-, hsettled⟩ := afterTaking_of_taking htaking
  have hbelow : f.kind.toNat < 128 := by rw [hkind]; decide
  have hbyte : field f.body 0 1 = b.toNat := by rw [hbody]; simp [field, ofBytes]
  rw [exec_setSetting s f rest b v htaking hkind hbody,
    serveSetSetting_of_unknown _ f (by rw [hbyte]; exact settingId_of_unlisted _ hunlisted)]
  exact settled_reply s (requestTaken s rest) f rest .notFound [] rfl hbelow hsettled

/-- The fields of a Set Setting name its setting and its value. -/
theorem setSetting_named (i : SettingId) (v : Nat) (hv : v < 4294967296)
    (hbody : f.body = BitVec.ofNat 8 i.id :: u32 v) :
    SettingId.ofId (field f.body 0 1) = some i ∧ field f.body 1 4 = v := by
  obtain ⟨hbyte, hvalue⟩ := setting_fields (BitVec.ofNat 8 i.id) v hv
  exact ⟨by rw [hbody, hbyte]; exact settingId_of_byte i, by rw [hbody]; exact hvalue⟩

variable (i : SettingId) (v : Nat) (htaking : Taking s f rest) (hkind : f.kind = 0x08) (hv : v < 4294967296)
  (hbody : f.body = BitVec.ofNat 8 i.id :: u32 v)
include htaking hkind hv hbody

theorem exec_setSetting_of_busy (hbusy : s.store.writeBusy = true) :
    exec .setSetting s = .next { s with link := answered s rest (replyTo f 11 0 []) } := by
  obtain ⟨-, hsettled⟩ := afterTaking_of_taking htaking
  have hbelow : f.kind.toNat < 128 := by rw [hkind]; decide
  obtain ⟨hid, -⟩ := setSetting_named f i v hv hbody
  rw [exec_setSetting s f rest _ v htaking hkind hbody, serveSetSetting_of_busy (requestTaken s rest) f i hid hbusy]
  exact settled_reply s (requestTaken s rest) f rest .storeBusy [] rfl hbelow hsettled

theorem exec_setSetting_of_refusal (r : Reason) (hfree : s.store.writeBusy = false)
    (hrefusal : settingRefusal s i v = some r) :
    exec .setSetting s = .next { s with link := answered s rest (replyTo f 6 (BitVec.ofNat 8 r.code) []) } := by
  obtain ⟨-, hsettled⟩ := afterTaking_of_taking htaking
  have hbelow : f.kind.toNat < 128 := by rw [hkind]; decide
  obtain ⟨hid, hvalue⟩ := setSetting_named f i v hv hbody
  rw [exec_setSetting s f rest _ v htaking hkind hbody,
    serveSetSetting_of_refusal (requestTaken s rest) f i v hid hvalue hfree r hrefusal]
  exact settled_refuse s f rest r hbelow hsettled

theorem exec_setSetting_of_allowed (hfree : s.store.writeBusy = false) (hallowed : settingRefusal s i v = none) :
    exec .setSetting s = settled (acceptSetting (requestTaken s rest) f i v) := by
  obtain ⟨hid, hvalue⟩ := setSetting_named f i v hv hbody
  rw [exec_setSetting s f rest _ v htaking hkind hbody,
    serveSetSetting_of_allowed (requestTaken s rest) f i v hid hvalue hfree hallowed]

end

/-- A setting that no block acts on at once: its value is clamped, stored and answered (R185). -/
theorem exec_setSetting_of_later (s : State) (f : Frame) (rest : List Frame) (i : SettingId) (v w : Nat)
    (htaking : Taking s f rest) (hkind : f.kind = 0x08) (hlater : i ∈ actsLater) (hv : v < 4294967296)
    (hbody : f.body = BitVec.ofNat 8 i.id :: u32 v) (hw : w = max i.low (min i.high v))
    (hfree : s.store.writeBusy = false) :
    (w ≠ s.cfg.get i → exec .setSetting s = .next
      { s with
        store :=
          { s.store with
            working := s.store.working.set i w, checksumOk := false, writeBusy := true, defaulted := false }
        link := answered s rest (replyTo f (if w = v then 0 else 1) 0 (u32 w)) })
    ∧ (w = s.cfg.get i → exec .setSetting s = .next
      { s with
        store := { s.store with defaulted := false }
        link := answered s rest (replyTo f (if w = v then 0 else 1) 0 (u32 w)) }) := by
  obtain ⟨-, hsettled⟩ := afterTaking_of_taking htaking
  have hbelow : f.kind.toNat < 128 := by rw [hkind]; decide
  obtain ⟨hnumeric, hfitted, hdefined⟩ := actsLater_numeric i hlater v
  have hclamp : settingValue i v = w := (settingValue_of_numeric i v hnumeric).trans hw.symm
  have hstatus := hclamp ▸ status_code_of_clamped i v hnumeric
  rw [exec_setSetting_of_allowed s f rest i v htaking hkind hv hbody hfree
    (settingRefusal_of_defined _ i v hdefined hfitted)]
  refine ⟨fun hnew => ?_, fun hsame => ?_⟩
  · rw [acceptSetting_of_new _ f i v (by rw [hclamp]; exact hnew) hbelow, applySetting_of_later _ i _ hlater, hclamp,
      hstatus]
    exact settled_of_settled _ hsettled
  · rw [acceptSetting_of_same _ f i v (by rw [hclamp]; exact hsame), hclamp, ← hstatus]
    exact settled_reply s (undefaulted (requestTaken s rest)) f rest _ _ rfl hbelow hsettled

/-- NOTICE_ENABLES is stored without the bits of conditions 1 to 3 (R185, assumption 13). -/
theorem exec_setSetting_of_noticeEnables (s : State) (f : Frame) (rest : List Frame) (v w : Nat)
    (htaking : Taking s f rest) (hkind : f.kind = 0x08) (hv : v < 65536)
    (hbody : f.body = BitVec.ofNat 8 (SettingId.id .noticeEnables) :: u32 v) (hw : w = v - v % 8)
    (hfree : s.store.writeBusy = false) (hnew : w ≠ s.cfg.noticeEnables) :
    exec .setSetting s = .next
      { s with
        store :=
          { s.store with
            working := { s.store.working with noticeEnables := w }, checksumOk := false, writeBusy := true
            defaulted := false }
        link := answered s rest (replyTo f 0 0 (u32 w)) } := by
  obtain ⟨-, hsettled⟩ := afterTaking_of_taking htaking
  have hbelow : f.kind.toNat < 128 := by rw [hkind]; decide
  have hvalue : settingValue .noticeEnables v = w := hw.symm
  rw [exec_setSetting_of_allowed s f rest .noticeEnables v htaking hkind (by omega) hbody hfree
    (settingRefusal_of_defined _ _ v (decide_eq_true hv) (by decide)),
    acceptSetting_of_new _ f _ v (by rw [hvalue]; exact hnew) hbelow, hvalue, applySetting_of_noticeEnables]
  exact settled_of_settled _ hsettled

end Sys2Proof.Machine
end

-- ==== Proofs: the settings that a block acts on at once ====
section
/-! PROOFS. What a Set Setting does at once beside its store write (O46, second part): the reserve test, the setpoints,
the limit codes, the flat counts, the held contexts, the account, the polarities and the vent monitor. -/

namespace Sys2Proof.Machine

open Sys2Proof.Safety

/-! ### A Set Setting in range that is new (R185) -/

theorem definedBits_of_numeric (i : SettingId) (v : Nat) (hnumeric : i.isSet = false) (hhigh : v ≤ i.high) :
    definedBits i v = true := by
  cases i with
  | fitted | noticeEnables | polarity => cases hnumeric
  | autoQueue => exact decide_eq_true hhigh
  | _ => rfl

section
variable {s : State} {f : Frame} {rest : List Frame} {i : SettingId} {v : Nat}

/-- A numeric value in range passes the tests (R185). -/
theorem settingRefusal_of_sets (h : Sets s f rest i v) (hnumeric : i.isSet = false) : settingRefusal s i v = none := by
  obtain ⟨-, -, -, -, -, hrange, -⟩ := h
  have hfitted : i ≠ .fitted := fun hi => by subst hi; cases hnumeric
  exact settingRefusal_of_defined s i v (definedBits_of_numeric i v hnumeric (hrange hnumeric).2) hfitted

/-- A value in range is taken as it is sent (R185). -/
theorem settingValue_of_sets (h : Sets s f rest i v) (hnotices : i ≠ .noticeEnables) : settingValue i v = v := by
  obtain ⟨-, -, -, -, -, hrange, -⟩ := h
  cases hset : i.isSet with
  | false =>
    obtain ⟨hlow, hhigh⟩ := hrange hset
    rw [settingValue_of_numeric i v hset, min_eq_right hhigh, max_eq_right hlow]
  | true =>
    cases i with
    | fitted | polarity => rfl
    | noticeEnables => exact absurd rfl hnotices
    | _ => cases hset

/-- It is applied, the write begins, and it is answered OK with the value. -/
theorem exec_sets (h : Sets s f rest i v) (hnotices : i ≠ .noticeEnables) (hallowed : settingRefusal s i v = none) :
    exec .setSetting s =
      settled (writeAnswered (applySetting (undefaulted (requestTaken s rest)) i v) (replyTo f 0 0 (u32 v))) := by
  have hvalue := settingValue_of_sets h hnotices
  obtain ⟨htaking, hkind, hv, hbody, hfree, -, hnew⟩ := h
  have hclamped : settingClamped i v = false := by simp [settingClamped, hvalue]
  have hbelow : f.kind.toNat < 128 := by rw [hkind]; decide
  rw [exec_setSetting_of_allowed s f rest i v htaking hkind hv hbody hfree hallowed,
    acceptSetting_of_new _ f i v (by rw [hvalue]; exact hnew) hbelow, hvalue, hclamped]
  rfl

/-- Where the block's action makes no test due, its outcome is the state it leaves. -/
theorem exec_sets_of_settled (h : Sets s f rest i v) (hnotices : i ≠ .noticeEnables)
    (hallowed : settingRefusal s i v = none) (t : State)
    (happly : applySetting (undefaulted (requestTaken s rest)) i v = t) (ht : t.due = s.due) :
    exec .setSetting s = .next (writeAnswered t (replyTo f 0 0 (u32 v))) := by
  obtain ⟨-, hsettled⟩ := afterTaking_of_taking h.1
  rw [exec_sets h hnotices hallowed, happly]
  exact settled_of_settled _ (ht.trans hsettled)

/-- Where it asks for an evaluation, that finds no candidate. -/
theorem exec_sets_of_wantAdmission (h : Sets s f rest i v) (hnotices : i ≠ .noticeEnables)
    (hallowed : settingRefusal s i v = none) (t : State)
    (happly : applySetting (undefaulted (requestTaken s rest)) i v = t.wantAdmission) (ht : t.due = s.due)
    (hnone : NoCandidates t) :
    exec .setSetting s = .next (writeAnswered t (replyTo f 0 0 (u32 v))) := by
  obtain ⟨-, hsettled⟩ := afterTaking_of_taking h.1
  rw [exec_sets h hnotices hallowed, happly]
  exact congrArg Host.Outcome.next
    (settle_wantAdmission (writeAnswered t (replyTo f 0 0 (u32 v))) (ht.trans hsettled) hnone)

/-- Where it asks for the reserve test too, both channels are IDLE (R127). -/
theorem exec_sets_of_wantReserve (h : Sets s f rest i v) (hnotices : i ≠ .noticeEnables)
    (hallowed : settingRefusal s i v = none) (t : State)
    (happly : applySetting (undefaulted (requestTaken s rest)) i v = t.wantReserve.wantAdmission) (ht : t.due = s.due)
    (hidle : ChannelsIdle t) (hnone : NoCandidates t) :
    exec .setSetting s =
      .next { writeAnswered t (replyTo f 0 0 (u32 v)) with perm := { t.perm with breach := false } } := by
  obtain ⟨-, hsettled⟩ := afterTaking_of_taking h.1
  have hdue : t.due = { reserve := false, admission := false } := ht.trans hsettled
  have hsettle := settle_of_idle (writeAnswered t.wantReserve.wantAdmission (replyTo f 0 0 (u32 v))) hidle hnone
  rw [exec_sets h hnotices hallowed, happly, settled, hsettle, ← hdue]
  rfl

end

/-! ### The setpoint settings (R43, R48) -/

/-- All eight compensation records, with both channels IDLE. -/
theorem foldl_recomputeComp (l : List Pos) : ∀ s : State, ChannelsIdle s →
    l.foldl recomputeComp s =
      { s with comp := Eight.of fun p => if p ∈ l then compRecord s p else s.comp.get p } := by
  induction l with
  | nil =>
    intro s _
    have hcomp : s.comp = Eight.of s.comp.get := eight_ext _ _ fun p => by simp
    simp [← hcomp]
  | cons q l ih =>
    intro s hidle
    have hrecord : ∀ p, (if p ∈ l then compRecord (compensated s q) p else (compensated s q).comp.get p) =
        if p ∈ q :: l then compRecord s p else s.comp.get p := by
      intro p
      have hsame : compRecord (compensated s q) p = compRecord s p := compRecord_congr s _ p rfl rfl rfl
      by_cases hl : p ∈ l
      · simp [hl, hsame]
      · by_cases hq : p = q
        · subst hq
          simp [hl, compensated]
        · simp [hl, hq, compensated_comp_other s q p hq]
    rw [List.foldl_cons, recomputeComp_of_free s q (holder_of_idle s q hidle), ih (compensated s q) hidle,
      funext hrecord]
    rfl

/-- A state with every compensation record recomputed (R43). -/
def recompensated (s : State) : State := { s with comp := Eight.of (compRecord s) }

theorem foldl_recomputeComp_all (s : State) (hidle : ChannelsIdle s) :
    Pos.all.foldl recomputeComp s = recompensated s := by
  have hall : (fun p => if p ∈ Pos.all then compRecord s p else s.comp.get p) = compRecord s :=
    funext fun p => if_pos (pos_mem_all p)
  rw [foldl_recomputeComp Pos.all s hidle, hall]
  rfl

/-- The float demand that a change of the setpoint settings leaves, where it applies to the demand (R48). -/
def floatDemandSet (s : State) (floatToo : Bool) : Nat :=
  if floatToo = true ∧ s.out.floatComputed = true
      ∧ (s.out.floatDemand + 2 ≤ floatCode s ∨ floatCode s + 2 ≤ s.out.floatDemand) then floatCode s
  else s.out.floatDemand

theorem floatDemandSet_of_uncomputed (s : State) (floatToo : Bool) (h : (floatToo && s.out.floatComputed) = false) :
    floatDemandSet s floatToo = s.out.floatDemand := by
  refine if_neg fun ⟨htoo, hcomputed, _⟩ => ?_
  rw [htoo, hcomputed] at h
  cases h

/-- A demand that has been computed is computed again through the hysteresis test (R48). -/
theorem computeFloat_of_computed (s : State) (hcomputed : s.out.floatComputed = true) :
    computeFloat s = { s with out := { s.out with floatDemand := floatDemandSet s true } } := by
  have hdemand : nextFloat s = floatDemandSet s true := by
    unfold nextFloat floatDemandSet
    by_cases hfar : s.out.floatDemand + 2 ≤ floatCode s ∨ floatCode s + 2 ≤ s.out.floatDemand
    · rw [if_neg (by omega), if_pos ⟨rfl, hcomputed, hfar⟩]
    · rw [if_pos ⟨hcomputed, by omega, by omega⟩, if_neg fun h => hfar h.2.2]
  rw [computeFloat_eq, hdemand, ← hcomputed]

theorem setpointsChanged_eq (s : State) (floatToo : Bool) (hidle : ChannelsIdle s) :
    setpointsChanged s floatToo =
      { s with
        comp := Eight.of (compRecord s)
        out := { s.out with floatDemand := floatDemandSet s floatToo } } := by
  have hdemand : floatDemandSet (recompensated s) floatToo = floatDemandSet s floatToo := by
    unfold floatDemandSet
    rw [floatCode_congr s (recompensated s) rfl rfl rfl rfl]
    rfl
  unfold setpointsChanged
  dsimp only
  rw [foldl_recomputeComp_all s hidle, ← hdemand]
  cases happlies : floatToo && s.out.floatComputed with
  | false =>
    rw [floatDemandSet_of_uncomputed (recompensated s) floatToo happlies]
    exact if_neg (Bool.eq_false_iff.1 happlies)
  | true =>
    obtain ⟨htoo, hcomputed⟩ := Bool.and_eq_true_iff.1 happlies
    rw [htoo]
    exact (if_pos (Bool.and_eq_true_iff.2 ⟨rfl, hcomputed⟩)).trans
      (computeFloat_of_computed (recompensated s) hcomputed)

/-! ### EQ_ILIMIT and FLAT_COUNT (R46, R52) -/

theorem stage_tested_iff (st : Stage) :
    st.tested = true ↔ st ∈ [Stage.transferOut, .ramp, .hold, .settle, .water] := by
  cases st <;> simp [Stage.tested]

/-- A channel's charger after a change of EQ_ILIMIT: the limit code is written in TRANSFER_OUT to WATER (R46). -/
def limitedCharger (s : State) (c : Ch) : Charger :=
  if (s.chan.get c).stage.tested then { s.out.charger.get c with limit := limitCode s } else s.out.charger.get c

theorem limitTurn_eq (s : State) (c : Ch) :
    (if (s.chan.get c).stage.tested then setLimit s c (limitCode s) else s) =
      { s with out := { s.out with charger := s.out.charger.set c (limitedCharger s c) } } := by
  unfold limitedCharger
  split
  · rfl
  · rw [two_set_get]

theorem limitChanged_eq (s : State) :
    limitChanged s =
      { s with out := { s.out with charger := { a := limitedCharger s .a, b := limitedCharger s .b } } } := by
  unfold limitChanged
  rw [List.foldl_cons, List.foldl_cons, List.foldl_nil, limitTurn_eq s .a, limitTurn_eq _ .b]
  rfl

/-- A channel after a change of FLAT_COUNT: in HOLD a flat count at or above it is brought below it (R52). -/
def flatLowered (s : State) (c : Ch) : Channel :=
  if (s.chan.get c).stage = .hold then
    { s.chan.get c with ctx := (s.chan.get c).ctx.map fun x =>
        { x with flat := if s.cfg.flatCount ≤ x.flat then s.cfg.flatCount - 1 else x.flat } }
  else s.chan.get c

theorem flatTurn_eq (s : State) (c : Ch) :
    (if inHold s c then
      s.modCtx c fun x => { x with flat := if s.cfg.flatCount ≤ x.flat then s.cfg.flatCount - 1 else x.flat }
     else s) = { s with chan := s.chan.set c (flatLowered s c) } := by
  unfold flatLowered
  by_cases hhold : (s.chan.get c).stage = .hold
  · rw [if_pos hhold, if_pos (by simp [inHold, hhold])]
    rfl
  · rw [if_neg hhold, if_neg (by simp [inHold, hhold]), two_set_get]

theorem flatCountChanged_eq (s : State) :
    flatCountChanged s = { s with chan := { a := flatLowered s .a, b := flatLowered s .b } } := by
  unfold flatCountChanged
  rw [List.foldl_cons, List.foldl_cons, List.foldl_nil, flatTurn_eq s .a, flatTurn_eq _ .b]
  rfl

/-! ### SUSPEND_MAX (R131) -/

/-- The end of a held round with an outcome: what it changes, and its record (R131, R133). -/
theorem endHeld_spec (s : State) (h : Held) (o : Outcome) :
    (endHeld s h o).held = { entries := s.held.entries.filter (· != h), gen := (s.held.gen + 1) % 256 }
      ∧ (endHeld s h o).sit =
          s.sit.set h.ctx.string { s.sit.get h.ctx.string with role := .float, assigned := none }
      ∧ (endHeld s h o).hist = s.hist.set h.ctx.string { s.hist.get h.ctx.string with roundOpen := none }
      ∧ (endHeld s h o).log.ring.getLast? = some { contextRecord s h.ctx o with seq := s.log.nextSeq }
      ∧ (endHeld s h o).latches.roundExpired = s.latches.roundExpired
      ∧ { s with
          held := (endHeld s h o).held, sit := (endHeld s h o).sit, hist := (endHeld s h o).hist
          log := (endHeld s h o).log, latches := (endHeld s h o).latches } = endHeld s h o := by
  refine ⟨rfl, rfl, rfl, ?_, rfl, rfl⟩
  exact writeRecord_getLast _ (contextRecord s h.ctx o)

section
variable (s : State) (h : Held) (why : Expiry)

/-- The end of a held round EXPIRED: what it changes, its record and its event (R131). -/
theorem expireHeld_spec (hlatch : s.latches.roundExpired = none) :
    (expireHeld s h why).held = { entries := s.held.entries.filter (· != h), gen := (s.held.gen + 1) % 256 }
      ∧ (expireHeld s h why).sit =
          s.sit.set h.ctx.string { s.sit.get h.ctx.string with role := .float, assigned := none }
      ∧ (expireHeld s h why).hist = s.hist.set h.ctx.string { s.hist.get h.ctx.string with roundOpen := none }
      ∧ (expireHeld s h why).log.ring.getLast? =
          some { contextRecord s h.ctx .expired with seq := s.log.nextSeq }
      ∧ (expireHeld s h why).latches.roundExpired =
          some { string := h.ctx.string.num, value := why.detail, captured := none, time := s.stamp, again := 0,
                 pending := true }
      ∧ { s with
          held := (expireHeld s h why).held, sit := (expireHeld s h why).sit, hist := (expireHeld s h why).hist
          log := (expireHeld s h why).log, latches := (expireHeld s h why).latches } = expireHeld s h why := by
  have hexpire : expireHeld s h why = endHeld (s.event .roundExpired h.ctx.string.num why.detail none) h .expired := rfl
  rw [hexpire, event_of_clear s .roundExpired h.ctx.string.num why.detail none hlatch]
  generalize hl : s.latches.set .roundExpired _ = l
  have hlatched : l.roundExpired =
      some { string := h.ctx.string.num, value := why.detail, captured := none, time := s.stamp, again := 0,
             pending := true } := by rw [← hl]; rfl
  obtain ⟨hheld, hsit, hhist, hlog, hlatches, hframe⟩ := endHeld_spec { s with latches := l } h .expired
  refine ⟨hheld, hsit, hhist, ?_, ?_, ?_⟩
  · rw [hlog]; rfl
  · rw [hlatches]; exact hlatched
  · exact hframe

variable (hheld : s.held.entries = [h])
include hheld

theorem suspendMaxLowered_of_within (hwithin : h.ctx.susp ≤ s.cfg.suspendMax) : suspendMaxLowered s = s := by
  rw [suspendMaxLowered, hheld]
  exact if_neg (Nat.not_lt.2 hwithin)

theorem suspendMaxLowered_of_above (habove : s.cfg.suspendMax < h.ctx.susp) :
    suspendMaxLowered s = expireHeld s h .suspensions := by
  rw [suspendMaxLowered, hheld]
  exact if_pos habove

end

end Sys2Proof.Machine
end

-- ==== Proofs: Set Setting, block by block ====
section
/-! PROOFS. The outcome of a Set Setting for each setting that a block acts on at once, FITTED and the DUE settings
aside (O46, third part). -/

namespace Sys2Proof.Machine

open Sys2Proof.Safety

/-- The blocks' actions on a changed working value (R185). -/
theorem applySetting_reserve (s : State) (v : Nat) :
    applySetting (undefaulted s) .reserve v = (valueSet s .reserve v).wantReserve.wantAdmission := rfl

theorem applySetting_of_evaluated (s : State) (i : SettingId) (v : Nat)
    (hi : i ∈ [SettingId.ventMaxGassing, .tempStartMax, .doseMl]) :
    applySetting (undefaulted s) i v = (valueSet s i v).wantAdmission := by
  fin_cases hi <;> rfl

theorem applySetting_autoQueue (s : State) (v : Nat) :
    applySetting (undefaulted s) .autoQueue v = valueSet s .autoQueue v := rfl

theorem applySetting_of_setpoint (s : State) (i : SettingId) (v : Nat)
    (hi : i ∈ [SettingId.eqCellMv, .floatCellMv, .tcomp, .compLo, .compHi]) :
    applySetting (undefaulted s) i v = setpointsChanged (valueSet s i v) (i != .eqCellMv) := by
  fin_cases hi <;> rfl

theorem applySetting_eqIlimit (s : State) (v : Nat) :
    applySetting (undefaulted s) .eqIlimit v = limitChanged (valueSet s .eqIlimit v) := rfl

theorem applySetting_flatCount (s : State) (v : Nat) :
    applySetting (undefaulted s) .flatCount v = flatCountChanged (valueSet s .flatCount v) := rfl

theorem applySetting_suspendMax (s : State) (v : Nat) :
    applySetting (undefaulted s) .suspendMax v = suspendMaxLowered (valueSet s .suspendMax v) := rfl

theorem applySetting_reservoirCapMl (s : State) (v : Nat) :
    applySetting (undefaulted s) .reservoirCapMl v =
      setAccount (valueSet s .reservoirCapMl v) (min s.reservoir.account v) := rfl

theorem applySetting_reservoirLowMl (s : State) (v : Nat) :
    applySetting (undefaulted s) .reservoirLowMl v = reservoirTest (valueSet s .reservoirLowMl v) := rfl

theorem applySetting_polarity (s : State) (v : Nat) :
    applySetting (undefaulted s) .polarity v = changePolarity (valueSet s .polarity v) s.cfg.polarity v := rfl

theorem applySetting_fanMinRpm (s : State) (v : Nat) :
    applySetting (undefaulted s) .fanMinRpm v = ventMonitor (valueSet s .fanMinRpm v) := rfl

/-- The vent monitor of a FAILED vent whose fan is commanded ON (R123). -/
theorem ventMonitor_of_failed (s : State) (hfailed : s.perm.ventFailed = true) (hfan : s.perm.fan = true) :
    ventMonitor s =
      s.modPerm fun m => { m with recovery := runWhile (decide (s.cfg.fanMinRpm ≤ m.speed)) m.recovery } := by
  have hfast : (!decide (s.perm.speed < s.cfg.fanMinRpm)) = decide (s.cfg.fanMinRpm ≤ s.perm.speed) := by
    simp [← decide_not]
  unfold ventMonitor
  dsimp only
  rw [if_pos hfailed, if_pos hfan, hfast]
  rfl

/-- The fan's OFF command makes a FAILED vent OK (R123). -/
theorem ventMonitor_of_off (s : State) (hfailed : s.perm.ventFailed = true) (hfan : s.perm.fan = false) :
    ventMonitor s =
      (s.modPerm fun m => { m with ventFailed := false, recovery := none, lowSpeed := none }).wantAdmission := by
  unfold ventMonitor
  dsimp only
  rw [if_pos hfailed, if_neg (by rw [hfan]; decide)]

/-- Compensation is a matter of the temperatures and the working settings, not of the write in progress (R42). -/
theorem compRecord_writeAnswered (s : State) (r : Frame) (p : Pos) :
    compRecord (writeAnswered s r) p = compRecord s p := rfl

theorem floatCode_writeAnswered (s : State) (r : Frame) : floatCode (writeAnswered s r) = floatCode s := rfl

section
variable {s : State} {f : Frame} {rest : List Frame} {i : SettingId} {v : Nat}

/-- RESERVE: the reserve test of a part with both channels IDLE (R127). -/
theorem exec_sets_reserve (h : Sets s f rest .reserve v) (hidle : ChannelsIdle s) (hnone : NoCandidates s) :
    exec .setSetting s = .next { nowSet s f rest .reserve v with perm := { s.perm with breach := false } } :=
  exec_sets_of_wantReserve h (by decide) (settingRefusal_of_sets h rfl) _ (applySetting_reserve _ v) rfl hidle hnone

/-- A setting that the admission tests read asks for an evaluation (R80). -/
theorem exec_sets_evaluated (h : Sets s f rest i v) (hi : i ∈ [SettingId.ventMaxGassing, .tempStartMax, .doseMl])
    (hnone : NoCandidates s) : exec .setSetting s = .next (nowSet s f rest i v) := by
  have hkind : i ≠ .noticeEnables ∧ i.isSet = false := by fin_cases hi <;> exact ⟨by decide, rfl⟩
  exact exec_sets_of_wantAdmission h hkind.1 (settingRefusal_of_sets h hkind.2) _
    (applySetting_of_evaluated _ i v hi) rfl hnone

theorem exec_sets_autoQueue (h : Sets s f rest .autoQueue v) :
    exec .setSetting s = .next (nowSet s f rest .autoQueue v) :=
  exec_sets_of_settled h (by decide) (settingRefusal_of_sets h rfl) _ (applySetting_autoQueue _ v) rfl

/-- A setpoint setting recomputes the compensation records, and all but EQ_CELL_MV the float demand (R43, R48). -/
theorem exec_sets_setpoint (h : Sets s f rest i v)
    (hi : i ∈ [SettingId.eqCellMv, .floatCellMv, .tcomp, .compLo, .compHi]) (hidle : ChannelsIdle s) :
    ∃ t, exec .setSetting s = .next t
      ∧ (∀ p : Pos, t.comp.get p = compRecord t p)
      ∧ t.out.floatDemand =
          (if i ≠ .eqCellMv ∧ s.out.floatComputed = true
              ∧ (s.out.floatDemand + 2 ≤ floatCode t ∨ floatCode t + 2 ≤ s.out.floatDemand) then floatCode t
           else s.out.floatDemand)
      ∧ { nowSet s f rest i v with
          comp := t.comp, out := { s.out with floatDemand := t.out.floatDemand } } = t := by
  have hkind : i ≠ .noticeEnables ∧ i.isSet = false := by fin_cases hi <;> exact ⟨by decide, rfl⟩
  obtain ⟨u, hu⟩ : ∃ u, u = valueSet (requestTaken s rest) i v := ⟨_, rfl⟩
  obtain ⟨t, ht⟩ : ∃ t : State, t = { u with
      comp := Eight.of (compRecord u)
      out := { u.out with floatDemand := floatDemandSet u (i != .eqCellMv) } } := ⟨_, rfl⟩
  have happly : applySetting (undefaulted (requestTaken s rest)) i v = t := by
    rw [applySetting_of_setpoint _ i v hi, ← hu, ht]
    exact setpointsChanged_eq u _ (hu ▸ hidle)
  have hrecord : ∀ p, compRecord t p = compRecord u p := fun p => ht ▸ compRecord_congr u _ p rfl rfl rfl
  have hcode : floatCode t = floatCode u := ht ▸ floatCode_congr u _ rfl rfl rfl rfl
  have hout : u.out = s.out := hu ▸ rfl
  refine ⟨_, exec_sets_of_settled h hkind.1 (settingRefusal_of_sets h hkind.2) t happly (by rw [ht, hu]; rfl),
    fun p => ?record, ?demand, ?frame⟩
  case record =>
    rw [compRecord_writeAnswered, hrecord, ht]
    exact eight_get_of _ p
  case demand =>
    rw [floatCode_writeAnswered, hcode, ← hout]
    have hdemand : t.out.floatDemand = floatDemandSet u (i != .eqCellMv) := by rw [ht]
    exact hdemand.trans (by simp [floatDemandSet])
  case frame => rw [ht, hu]; rfl

/-- EQ_ILIMIT: the limit codes of the channels in TRANSFER_OUT to WATER (R46). -/
theorem exec_sets_eqIlimit (h : Sets s f rest .eqIlimit v) :
    ∃ t, exec .setSetting s = .next t
      ∧ (∀ c : Ch, t.out.charger.get c =
          if (s.chan.get c).stage ∈ [Stage.transferOut, .ramp, .hold, .settle, .water] then
            { s.out.charger.get c with limit := min 4095 (4 * v) }
          else s.out.charger.get c)
      ∧ { nowSet s f rest .eqIlimit v with out := { s.out with charger := t.out.charger } } = t := by
  have happly := (applySetting_eqIlimit (requestTaken s rest) v).trans (limitChanged_eq _)
  refine ⟨_, exec_sets_of_settled h (by decide) (settingRefusal_of_sets h rfl) _ happly rfl, fun c => ?_, rfl⟩
  simp only [← stage_tested_iff]
  cases c <;> rfl

/-- FLAT_COUNT: the flat counts of the channels in HOLD (R52). -/
theorem exec_sets_flatCount (h : Sets s f rest .flatCount v) :
    ∃ t, exec .setSetting s = .next t
      ∧ (∀ c : Ch, t.chan.get c =
          if (s.chan.get c).stage = .hold then
            { s.chan.get c with ctx := (s.chan.get c).ctx.map fun x =>
                { x with flat := if v ≤ x.flat then v - 1 else x.flat } }
          else s.chan.get c)
      ∧ { nowSet s f rest .flatCount v with chan := t.chan } = t := by
  have happly := (applySetting_flatCount (requestTaken s rest) v).trans (flatCountChanged_eq _)
  exact ⟨_, exec_sets_of_settled h (by decide) (settingRefusal_of_sets h rfl) _ happly rfl,
    fun c => by cases c <;> rfl, rfl⟩

/-- SUSPEND_MAX: a held context above it ends EXPIRED (R131). -/
theorem exec_sets_suspendMax (h : Sets s f rest .suspendMax v) (g : Held) (hheld : s.held.entries = [g]) :
    (g.ctx.susp ≤ v → exec .setSetting s = .next (nowSet s f rest .suspendMax v))
    ∧ (v < g.ctx.susp → s.latches.roundExpired = none →
      ∃ t, exec .setSetting s = .next t
        ∧ t.held = { entries := [], gen := (s.held.gen + 1) % 256 }
        ∧ t.sit = s.sit.set g.ctx.string { s.sit.get g.ctx.string with role := .float, assigned := none }
        ∧ t.hist = s.hist.set g.ctx.string { s.hist.get g.ctx.string with roundOpen := none }
        ∧ (t.log.ring.getLast?.map fun r => (r.seq, r.string, r.outcome, r.susp)) =
            some (s.log.nextSeq, g.ctx.string, .expired, some g.ctx.susp)
        ∧ t.latches.roundExpired =
            some { string := g.ctx.string.num, value := 1, captured := none,
                   time := { time := s.clock.count, valid := s.clock.valid }, again := 0, pending := true }
        ∧ { nowSet s f rest .suspendMax v with
            held := t.held, sit := t.sit, hist := t.hist, log := t.log, latches := t.latches } = t) := by
  have happly := applySetting_suspendMax (requestTaken s rest) v
  refine ⟨fun hwithin => ?_, fun habove hlatch => ?_⟩
  · have hsame := suspendMaxLowered_of_within (valueSet (requestTaken s rest) .suspendMax v) g hheld hwithin
    exact exec_sets_of_settled h (by decide) (settingRefusal_of_sets h rfl) _ (happly.trans hsame) rfl
  · have hends := suspendMaxLowered_of_above (valueSet (requestTaken s rest) .suspendMax v) g hheld habove
    obtain ⟨hnow, hsit, hhist, hlog, hlatches, hframe⟩ :=
      expireHeld_spec (valueSet (requestTaken s rest) .suspendMax v) g .suspensions hlatch
    have hnone : s.held.entries.filter (· != g) = [] := by rw [hheld]; simp
    refine ⟨_, exec_sets_of_settled h (by decide) (settingRefusal_of_sets h rfl) _
      ((happly.trans hends).trans hframe.symm) rfl, ?_, hsit, hhist, ?_, hlatches, rfl⟩
    · rw [← hnone]; exact hnow
    · exact congrArg (Option.map fun r => (r.seq, r.string, r.outcome, r.susp)) hlog

/-- RESERVOIR_CAP_ML: the account is brought within it and tested (R153, R154). -/
theorem exec_sets_reservoirCapMl (h : Sets s f rest .reservoirCapMl v)
    (henough : s.cfg.reservoirLowMl ≤ min s.reservoir.account v) :
    exec .setSetting s = .next
      { nowSet s f rest .reservoirCapMl v with
        reservoir := { account := min s.reservoir.account v, low := false } } := by
  have hset := reservoirTest_of_enough
    { valueSet (requestTaken s rest) .reservoirCapMl v with
      reservoir := { s.reservoir with account := min s.reservoir.account v } } henough
  exact exec_sets_of_settled h (by decide) (settingRefusal_of_sets h rfl) _
    ((applySetting_reservoirCapMl (requestTaken s rest) v).trans hset) rfl

/-- RESERVOIR_LOW_ML: the account is tested (R154). -/
theorem exec_sets_reservoirLowMl (h : Sets s f rest .reservoirLowMl v) (henough : v ≤ s.reservoir.account) :
    exec .setSetting s = .next
      { nowSet s f rest .reservoirLowMl v with reservoir := { s.reservoir with low := false } } :=
  exec_sets_of_settled h (by decide) (settingRefusal_of_sets h rfl) _
    ((applySetting_reservoirLowMl (requestTaken s rest) v).trans
      (reservoirTest_of_enough (valueSet (requestTaken s rest) .reservoirLowMl v) henough)) rfl

/-- POLARITY: the records of the groups whose polarity changes (R16). -/
theorem exec_sets_polarity (h : Sets s f rest .polarity v) (hv : v < 128) :
    ∃ t, exec .setSetting s = .next t
      ∧ (∀ j : InputId, t.inp.get j =
          if s.cfg.polarity.testBit j.group = v.testBit j.group then s.inp.get j
          else
            { s.inp.get j with
              history := [], accepted := none, reacquiring := true,
              polarity := if v.testBit j.group then .activeLow else .activeHigh })
      ∧ { nowSet s f rest .polarity v with inp := t.inp } = t := by
  obtain ⟨hinp, hframe⟩ := changePolarity_spec (valueSet (requestTaken s rest) .polarity v) s.cfg.polarity v
  have hallowed : settingRefusal s .polarity v = none :=
    settingRefusal_of_defined s .polarity v (decide_eq_true hv) (by decide)
  exact ⟨_, exec_sets_of_settled h (by decide) hallowed _
    ((applySetting_polarity (requestTaken s rest) v).trans hframe.symm) rfl, hinp, rfl⟩

/-- FAN_MIN_RPM: the vent monitor (R122, R123). -/
theorem exec_sets_fanMinRpm (h : Sets s f rest .fanMinRpm v) :
    (s.perm.ventFailed = false →
      exec .setSetting s = .next
        { nowSet s f rest .fanMinRpm v with
          perm := { s.perm with lowSpeed :=
            if s.perm.fan = true ∧ s.perm.speed < v then some (s.perm.lowSpeed.getD 0) else none } })
    ∧ (s.perm.ventFailed = true → s.perm.fan = true →
      exec .setSetting s = .next
        { nowSet s f rest .fanMinRpm v with
          perm := { s.perm with recovery :=
            if v ≤ s.perm.speed then some (s.perm.recovery.getD 0) else none } })
    ∧ (s.perm.ventFailed = true → s.perm.fan = false → NoCandidates s →
      exec .setSetting s = .next
        { nowSet s f rest .fanMinRpm v with
          perm := { s.perm with ventFailed := false, recovery := none, lowSpeed := none } }) := by
  have happly := applySetting_fanMinRpm (requestTaken s rest) v
  refine ⟨fun hok => ?_, fun hfailed hfan => ?_, fun hfailed hfan hnone => ?_⟩
  · have htimer : runWhile (s.perm.fan && decide (s.perm.speed < v)) s.perm.lowSpeed =
        if s.perm.fan = true ∧ s.perm.speed < v then some (s.perm.lowSpeed.getD 0) else none := by simp [runWhile]
    have hmonitor := ventMonitor_ok (valueSet (requestTaken s rest) .fanMinRpm v) hok
    rw [← htimer]
    exact exec_sets_of_settled h (by decide) (settingRefusal_of_sets h rfl) _ (happly.trans hmonitor) rfl
  · have htimer : runWhile (decide (v ≤ s.perm.speed)) s.perm.recovery =
        if v ≤ s.perm.speed then some (s.perm.recovery.getD 0) else none := by simp [runWhile]
    have hmonitor := ventMonitor_of_failed (valueSet (requestTaken s rest) .fanMinRpm v) hfailed hfan
    rw [← htimer]
    exact exec_sets_of_settled h (by decide) (settingRefusal_of_sets h rfl) _ (happly.trans hmonitor) rfl
  · have hmonitor := ventMonitor_of_off (valueSet (requestTaken s rest) .fanMinRpm v) hfailed hfan
    exact exec_sets_of_wantAdmission h (by decide) (settingRefusal_of_sets h rfl) _ (happly.trans hmonitor) rfl hnone

end

end Sys2Proof.Machine
end

-- ==== Proofs: Set Setting of the DUE thresholds ====
section
/-! PROOFS. DUE_DAYS and DUE_AH: the DUE evaluation of every fitted string, with no rise or with one (O46, fourth
part). -/

namespace Sys2Proof.Machine

open Sys2Proof.Safety

/-! ### The DUE evaluation over a row of positions (R57) -/

theorem dueNow_iff (s : State) (p : Pos) : DueNow s p ↔ fitted s p = true ∧ isDue s p = true := by
  rw [isDue_iff]
  rfl

/-- One position's turn in the evaluation of every fitted string. -/
def dueTurn (s : State) (p : Pos) : State := if fitted s p then dueEvaluate s p else s

theorem dueEvaluateAll_eq (s : State) : dueEvaluateAll s = Pos.all.foldl dueTurn s := rfl

/-- A position's situation after a DUE evaluation in which its DUE does not rise. -/
def dueKept (s : State) (p : Pos) : StringSituation :=
  if fitted s p && !isDue s p then { s.sit.get p with due := false } else s.sit.get p

/-- It is a matter of the position's own situation and history, and the settings. -/
theorem dueKept_congr (s t : State) (p : Pos) (hcfg : t.cfg = s.cfg) (hhist : t.hist = s.hist)
    (hsit : t.sit.get p = s.sit.get p) : dueKept t p = dueKept s p := by
  have hfitted : fitted t p = fitted s p := by simp only [fitted, hcfg]
  have hdue : isDue t p = isDue s p := by simp only [isDue, hcfg, hhist]
  rw [dueKept, dueKept, hfitted, hdue, hsit]

theorem dueNow_congr (s t : State) (p : Pos) (hcfg : t.cfg = s.cfg) (hhist : t.hist = s.hist) :
    DueNow t p ↔ DueNow s p := by
  simp only [DueNow, hcfg, hhist]

theorem dueKept_cases (s : State) (p : Pos) :
    (DueNow s p → dueKept s p = s.sit.get p)
      ∧ (¬ DueNow s p → s.cfg.fitted.testBit (p.num - 1) = true →
        dueKept s p = { s.sit.get p with due := false })
      ∧ (s.cfg.fitted.testBit (p.num - 1) = false → dueKept s p = s.sit.get p) := by
  refine ⟨fun hdue => ?_, fun hundue hfitted => ?_, fun hunfitted => ?_⟩
  · rw [dueKept, ((dueNow_iff s p).1 hdue).2]
    exact if_neg (by simp)
  · have hnot : isDue s p = false := by
      by_contra h
      exact hundue ((dueNow_iff s p).2 ⟨hfitted, by simpa using h⟩)
    rw [dueKept, hnot]
    exact if_pos (Bool.and_eq_true_iff.2 ⟨hfitted, rfl⟩)
  · have hnot : fitted s p = false := hunfitted
    rw [dueKept, hnot]
    exact if_neg (by simp)

/-- A turn without a rise changes the position's DUE flag alone. -/
theorem dueTurn_of_kept (s : State) (p : Pos) (h : DueNow s p → (s.sit.get p).due = true) :
    dueTurn s p = { s with sit := s.sit.set p (dueKept s p) } := by
  obtain ⟨hkept, hcleared, hunfitted⟩ := dueKept_cases s p
  unfold dueTurn
  split
  next hfitted =>
    by_cases hdue : DueNow s p
    · rw [hkept hdue, eight_set_get, dueEvaluate_of_due s p hfitted ((dueNow_iff s p).1 hdue).2 (h hdue)]
    · have hnot : isDue s p = false := by
        by_contra hn
        exact hdue ((dueNow_iff s p).2 ⟨hfitted, by simpa using hn⟩)
      rw [hcleared hdue hfitted, dueEvaluate_of_not_due s p hnot]
      rfl
  next hn => rw [hunfitted (by simpa [fitted] using hn), eight_set_get]

/-- The turns of a row of positions without a rise. -/
theorem foldl_dueTurn_of_kept (l : List Pos) : ∀ s : State, l.Nodup →
    (∀ p ∈ l, DueNow s p → (s.sit.get p).due = true) →
    l.foldl dueTurn s = { s with sit := Eight.of fun p => if p ∈ l then dueKept s p else s.sit.get p } := by
  induction l with
  | nil =>
    intro s _ _
    have hsit : s.sit = Eight.of s.sit.get := eight_ext _ _ fun p => by simp
    simp [← hsit]
  | cons q l ih =>
    intro s hnodup hset
    obtain ⟨hq, hl⟩ := List.nodup_cons.1 hnodup
    generalize ht : ({ s with sit := s.sit.set q (dueKept s q) } : State) = t
    have hother : ∀ p, p ≠ q → t.sit.get p = s.sit.get p := fun p hp => by
      rw [← ht]
      exact eight_get_set_other _ _ _ _ hp
    have hown : t.sit.get q = dueKept s q := by rw [← ht]; exact eight_get_set_same _ _ _
    have hcfg : t.cfg = s.cfg := by rw [← ht]
    have hhist : t.hist = s.hist := by rw [← ht]
    have hset' : ∀ p ∈ l, DueNow t p → (t.sit.get p).due = true := by
      intro p hp hdue
      rw [hother p fun h => hq (h ▸ hp)]
      exact hset p (List.mem_cons_of_mem q hp) ((dueNow_congr s t p hcfg hhist).1 hdue)
    have hpoint : ∀ p, (if p ∈ l then dueKept t p else t.sit.get p) =
        if p ∈ q :: l then dueKept s p else s.sit.get p := by
      intro p
      by_cases hp : p = q
      · subst hp
        simp [hq, hown]
      · by_cases hpl : p ∈ l
        · simp [hpl, dueKept_congr s t p hcfg hhist (hother p hp)]
        · simp [hpl, hp, hother p hp]
    rw [List.foldl_cons, dueTurn_of_kept s q (hset q (List.mem_cons_self)), ht, ih t hl hset', funext hpoint, ← ht]

/-- The DUE evaluation of every fitted string, with no rise. -/
theorem dueEvaluateAll_of_kept (s : State) (hset : ∀ p, DueNow s p → (s.sit.get p).due = true) :
    dueEvaluateAll s = { s with sit := Eight.of (dueKept s) } := by
  have hall : (fun p => if p ∈ Pos.all then dueKept s p else s.sit.get p) = dueKept s :=
    funext fun p => if_pos (pos_mem_all p)
  rw [dueEvaluateAll_eq, foldl_dueTurn_of_kept Pos.all s (by decide) (fun p _ => hset p), hall]

/-! ### One rise (R57) -/

/-- What a rise of DUE changes beside the flag: with AUTO_QUEUE ON the queue takes its entry, and STRING_DUE is
latched with the offer's answer. -/
def riseQueue (s : State) (p : Pos) : RoundQueue :=
  if s.cfg.autoQueue = 0 then s.queue
  else { entries := s.queue.entries ++ [autoDueEntry s p], gen := (s.queue.gen + 1) % 256 }

def riseLatches (s : State) (p : Pos) : Latches :=
  { s.latches with stringDue := (some
    { string := p.num, value := if s.cfg.autoQueue = 0 then 1 else 0, captured := none, time := s.stamp, again := 0
      pending := true }) }

def riseDue (s : State) : Due := if s.cfg.autoQueue = 0 then s.due else { s.due with admission := true }

/-- A state in which a position's DUE has risen. -/
def dueRisen (s : State) (p : Pos) : State :=
  { s with
    sit := s.sit.set p { s.sit.get p with due := true }
    queue := riseQueue s p, latches := riseLatches s p, due := riseDue s }

/-- The offer that a rise of DUE makes, if any, is one that is placed. -/
def RiseQueues (s : State) (p : Pos) : Prop :=
  s.cfg.autoQueue = 0 ∨ (s.queue.entries.length < 12 ∧ place s p = none ∧ (s.hist.get p).eqLock = none
    ∧ (s.hist.get p).waterLock = none)

theorem dueTurn_of_rise (s : State) (p : Pos) (hdue : DueNow s p) (hclear : (s.sit.get p).due = false)
    (hlatch : s.latches.stringDue = none) (hqueues : RiseQueues s p) : dueTurn s p = dueRisen s p := by
  obtain ⟨hqueued, hoff⟩ := dueRiseOffersAnEntry s p hdue.1 hclear hdue.2 hlatch
  have hturn : dueTurn s p = dueEvaluate s p := if_pos hdue.1
  rw [hturn, dueRisen, riseQueue, riseLatches, riseDue]
  by_cases hauto : s.cfg.autoQueue = 0
  · simp only [if_pos hauto]
    exact hoff hauto
  · obtain ⟨hroom, hplace, heq, hwater⟩ := hqueues.resolve_left hauto
    simp only [if_neg hauto]
    exact hqueued hauto hplace heq hwater hroom

/-- The turns of a row of positions of which one's DUE rises. -/
theorem foldl_dueTurn_of_rise (s : State) (p : Pos) (l₁ l₂ : List Pos) (hnodup : (l₁ ++ p :: l₂).Nodup)
    (hdue : DueNow s p) (hclear : (s.sit.get p).due = false)
    (hothers : ∀ q, q ≠ p → DueNow s q → (s.sit.get q).due = true) (hlatch : s.latches.stringDue = none)
    (hqueues : RiseQueues s p) :
    (l₁ ++ p :: l₂).foldl dueTurn s =
      { dueRisen s p with
        sit := Eight.of fun q =>
          if q = p then { s.sit.get p with due := true }
          else if q ∈ l₁ ∨ q ∈ l₂ then dueKept s q else s.sit.get q } := by
  obtain ⟨hl₁, hrest, hapart⟩ := List.nodup_append.1 hnodup
  obtain ⟨hp₂, hl₂⟩ := List.nodup_cons.1 hrest
  have hp₁ : p ∉ l₁ := fun h => hapart p h p List.mem_cons_self rfl
  have hbefore : ∀ q ∈ l₁, DueNow s q → (s.sit.get q).due = true :=
    fun q hq => hothers q fun h => hp₁ (h ▸ hq)
  generalize ht : ({ s with sit := Eight.of fun q => if q ∈ l₁ then dueKept s q else s.sit.get q } : State) = t
  have hsit : ∀ q, t.sit.get q = if q ∈ l₁ then dueKept s q else s.sit.get q := fun q => by
    rw [← ht]; exact eight_get_of _ q
  have hown : t.sit.get p = s.sit.get p := (hsit p).trans (if_neg hp₁)
  have hturn : dueTurn t p = dueRisen t p :=
    dueTurn_of_rise t p (by rw [← ht]; exact hdue) (by rw [hown]; exact hclear) (by rw [← ht]; exact hlatch)
      (by rw [← ht]; exact hqueues)
  have hlater : ∀ q ∈ l₂, (dueRisen t p).sit.get q = s.sit.get q := by
    intro q hq
    have hqp : q ≠ p := fun h => hp₂ (h ▸ hq)
    have hq₁ : q ∉ l₁ := fun h => hapart q h q (List.mem_cons_of_mem p hq) rfl
    exact (eight_get_set_other _ _ _ _ hqp).trans ((hsit q).trans (if_neg hq₁))
  have hafter : ∀ q ∈ l₂, DueNow (dueRisen t p) q → ((dueRisen t p).sit.get q).due = true := by
    intro q hq hnow
    rw [hlater q hq]
    exact hothers q (fun h => hp₂ (h ▸ hq)) (by rw [← ht] at hnow; exact hnow)
  have hpoint : ∀ q, (if q ∈ l₂ then dueKept (dueRisen t p) q else (dueRisen t p).sit.get q) =
      if q = p then { s.sit.get p with due := true }
      else if q ∈ l₁ ∨ q ∈ l₂ then dueKept s q else s.sit.get q := by
    intro q
    by_cases hqp : q = p
    · subst hqp
      rw [if_neg hp₂, if_pos rfl, ← hown]
      exact eight_get_set_same _ _ _
    · rw [if_neg hqp]
      by_cases hq₂ : q ∈ l₂
      · rw [if_pos hq₂, if_pos (.inr hq₂)]
        exact dueKept_congr s _ q (by rw [← ht]; rfl) (by rw [← ht]; rfl) (hlater q hq₂)
      · rw [if_neg hq₂]
        simp only [hq₂, or_false]
        exact (eight_get_set_other _ _ _ _ hqp).trans (hsit q)
  rw [List.foldl_append, foldl_dueTurn_of_kept l₁ s hl₁ hbefore, ht, List.foldl_cons, hturn,
    foldl_dueTurn_of_kept l₂ _ hl₂ hafter, funext hpoint, ← ht]
  rfl

/-- The DUE evaluation of every fitted string, with one rise. -/
theorem dueEvaluateAll_of_rise (s : State) (p : Pos) (hdue : DueNow s p) (hclear : (s.sit.get p).due = false)
    (hothers : ∀ q, q ≠ p → DueNow s q → (s.sit.get q).due = true) (hlatch : s.latches.stringDue = none)
    (hqueues : RiseQueues s p) :
    dueEvaluateAll s =
      { dueRisen s p with
        sit := Eight.of fun q => if q = p then { s.sit.get p with due := true } else dueKept s q } := by
  obtain ⟨l₁, l₂, hall⟩ := List.append_of_mem (pos_mem_all p)
  have hnodup : (l₁ ++ p :: l₂).Nodup := hall ▸ (by decide : Pos.all.Nodup)
  have hcovers : ∀ q, q ≠ p → q ∈ l₁ ∨ q ∈ l₂ := by
    intro q hqp
    have hmem : q ∈ l₁ ++ p :: l₂ := hall ▸ pos_mem_all q
    simpa [hqp] using hmem
  have hpoint : ∀ q, (if q = p then ({ s.sit.get p with due := true } : StringSituation)
      else if q ∈ l₁ ∨ q ∈ l₂ then dueKept s q else s.sit.get q) =
      if q = p then { s.sit.get p with due := true } else dueKept s q := by
    intro q
    by_cases hqp : q = p
    · rw [if_pos hqp, if_pos hqp]
    · rw [if_neg hqp, if_neg hqp, if_pos (hcovers q hqp)]
  rw [dueEvaluateAll_eq, hall, foldl_dueTurn_of_rise s p l₁ l₂ hnodup hdue hclear hothers hlatch hqueues,
    funext hpoint]

/-! ### Set Setting of DUE_DAYS and DUE_AH -/

theorem applySetting_of_dueSetting (s : State) (i : SettingId) (v : Nat) (hi : i = .dueDays ∨ i = .dueAh) :
    applySetting (undefaulted s) i v = dueEvaluateAll (valueSet s i v) := by
  rcases hi with rfl | rfl <;> rfl

/-- With both channels taken the entry of a rise waits for a channel. -/
theorem entryBlocked_of_channels_taken (s : State) (e : Entry) (hkind : e.kind = .equaliseThenWater)
    (htaken : ∀ c : Ch, (s.chan.get c).stage ≠ .idle) : entryBlocked s e ≠ .none := by
  have hfree : (freeChannel s).isSome = false := by
    have ha : isIdle s .a = false := Bool.eq_false_iff.2 fun h => htaken .a ((isIdle_iff s .a).1 h)
    have hb : isIdle s .b = false := Bool.eq_false_iff.2 fun h => htaken .b ((isIdle_iff s .b).1 h)
    simp [freeChannel, ha, hb]
  rw [entryBlocked, hkind]
  intro hnone
  have hpasses := passes_of_firstFailing _ (by simp) hnone ((freeChannel s).isSome, .channel) (by simp)
  rw [hfree] at hpasses
  cases hpasses

/-- A rise makes at most an evaluation due, which admits nothing while both channels are taken. -/
theorem settled_dueRisen (w : State) (p : Pos) (sit : Eight StringSituation) (r : Frame) (hsettled : Settled w)
    (hoffer : w.cfg.autoQueue = 0 ∨ (NoCandidates w ∧ ∀ c : Ch, (w.chan.get c).stage ≠ .idle)) :
    settled (writeAnswered { dueRisen w p with sit := sit } r) =
      .next (writeAnswered { dueRisen w p with sit := sit, due := w.due } r) := by
  have hdue : w.due = { reserve := false, admission := false } := hsettled
  by_cases hauto : w.cfg.autoQueue = 0
  · have hrise : riseDue w = w.due := if_pos hauto
    have hsame : ({ dueRisen w p with sit := sit } : State) = { dueRisen w p with sit := sit, due := w.due } := by
      rw [← hrise]; rfl
    rw [hsame]
    exact settled_of_settled _ hsettled
  · obtain ⟨⟨hqueue, hheld⟩, htaken⟩ := hoffer.resolve_left hauto
    have hrise : riseDue w = { reserve := false, admission := true } := by rw [riseDue, if_neg hauto, hdue]
    have hentries : (riseQueue w p).entries = [autoDueEntry w p] := by rw [riseQueue, if_neg hauto, hqueue]; rfl
    have hwaits : ∀ t : State, t.held.entries = [] → t.queue.entries = [autoDueEntry w p] → t.chan = w.chan →
        evaluate t = t := by
      intro t hheld' hqueue' hchan
      exact evaluate_of_blocked_entry t _ hheld' hqueue'
        (entryBlocked_of_channels_taken t _ rfl (by rw [hchan]; exact htaken))
    have hsettle := settle_of_idle_evaluation (writeAnswered { dueRisen w p with sit := sit } r)
      (congrArg Due.reserve hrise) (hwaits _ hheld hentries rfl)
    rw [settled, hsettle, hdue]
    rfl

section
variable {s u : State} {f : Frame} {rest : List Frame} {i : SettingId} {v : Nat}

theorem dueSetting_numeric (hi : i = .dueDays ∨ i = .dueAh) : i ≠ .noticeEnables ∧ i.isSet = false := by
  rcases hi with rfl | rfl <;> exact ⟨by decide, rfl⟩

theorem dueSetting_keeps (hi : i = .dueDays ∨ i = .dueAh) (t : State) :
    (valueSet t i v).cfg.fitted = t.cfg.fitted ∧ (valueSet t i v).cfg.autoQueue = t.cfg.autoQueue := by
  rcases hi with rfl | rfl <;> exact ⟨rfl, rfl⟩

/-- A threshold by which no string's DUE rises (R57). -/
theorem exec_sets_due_of_kept (h : Sets s f rest i v) (hi : i = .dueDays ∨ i = .dueAh) (hu : u = nowSet s f rest i v)
    (hset : ∀ p : Pos, DueNow u p → (s.sit.get p).due = true) :
    ∃ t, exec .setSetting s = .next t
      ∧ (∀ p : Pos, (DueNow u p → t.sit.get p = s.sit.get p)
        ∧ (¬ DueNow u p → s.cfg.fitted.testBit (p.num - 1) = true →
          t.sit.get p = { s.sit.get p with due := false })
        ∧ (s.cfg.fitted.testBit (p.num - 1) = false → t.sit.get p = s.sit.get p))
      ∧ { u with sit := t.sit } = t := by
  obtain ⟨hnotices, hnumeric⟩ := dueSetting_numeric hi
  have hdue : ∀ p, DueNow u p ↔ DueNow (valueSet (requestTaken s rest) i v) p := fun p => by rw [hu]; rfl
  have heval := dueEvaluateAll_of_kept (valueSet (requestTaken s rest) i v) fun p hp => hset p ((hdue p).2 hp)
  obtain ⟨hfitted, -⟩ := dueSetting_keeps (v := v) hi (requestTaken s rest)
  refine ⟨_, exec_sets_of_settled h hnotices (settingRefusal_of_sets h hnumeric) _
    ((applySetting_of_dueSetting _ i v hi).trans heval) rfl, fun p => ?_, by rw [hu]; rfl⟩
  obtain ⟨hkept, hcleared, hunfitted⟩ := dueKept_cases (valueSet (requestTaken s rest) i v) p
  rw [hfitted] at hcleared hunfitted
  rw [hdue p]
  have hread : ∀ w : StringSituation, dueKept (valueSet (requestTaken s rest) i v) p = w →
      (Eight.of (dueKept (valueSet (requestTaken s rest) i v))).get p = w := fun w hw => (eight_get_of _ p).trans hw
  exact ⟨fun hd => hread _ (hkept hd), fun hd hf => hread _ (hcleared hd hf), fun hf => hread _ (hunfitted hf)⟩

/-- A threshold by which one string's DUE rises (R57, R75). -/
theorem exec_sets_due_of_rise (h : Sets s f rest i v) (hi : i = .dueDays ∨ i = .dueAh) (hu : u = nowSet s f rest i v)
    (p : Pos) (hdue : DueNow u p) (hclear : (s.sit.get p).due = false)
    (hothers : ∀ q : Pos, q ≠ p → DueNow u q → (s.sit.get q).due = true) (hlatch : s.latches.stringDue = none)
    (hoffer : s.cfg.autoQueue = 0 ∨ (NoCandidates s ∧ (∀ c : Ch, (s.chan.get c).stage ≠ .idle)
      ∧ place s p = none ∧ (s.hist.get p).eqLock = none ∧ (s.hist.get p).waterLock = none)) :
    ∃ t, exec .setSetting s = .next t
      ∧ t.sit.get p = { s.sit.get p with due := true }
      ∧ (∀ q : Pos, q ≠ p → (DueNow u q → t.sit.get q = s.sit.get q)
        ∧ (¬ DueNow u q → s.cfg.fitted.testBit (q.num - 1) = true →
          t.sit.get q = { s.sit.get q with due := false })
        ∧ (s.cfg.fitted.testBit (q.num - 1) = false → t.sit.get q = s.sit.get q))
      ∧ t.queue =
          (if s.cfg.autoQueue = 0 then s.queue
           else
             { entries :=
                 [{ tag := 0, kind := .equaliseThenWater, string := p, cls := .routine, origin := .autoDue,
                    submit := { time := s.clock.count, valid := s.clock.valid }, notBefore := none,
                    holdOverride := none, ahOverride := none }]
               gen := (s.queue.gen + 1) % 256 })
      ∧ { u with
          sit := t.sit, queue := t.queue
          latches := { s.latches with stringDue := (some
            { string := p.num, value := if s.cfg.autoQueue = 0 then 1 else 0, captured := none,
              time := { time := s.clock.count, valid := s.clock.valid }, again := 0, pending := true }) }
        } = t := by
  obtain ⟨-, hsettled⟩ := afterTaking_of_taking h.1
  obtain ⟨hnotices, hnumeric⟩ := dueSetting_numeric hi
  generalize hw : valueSet (requestTaken s rest) i v = w
  obtain ⟨hfitted, hauto⟩ := dueSetting_keeps (v := v) hi (requestTaken s rest)
  rw [hw] at hfitted hauto
  have hnow : ∀ q, DueNow u q ↔ DueNow w q := fun q => by rw [hu, ← hw]; rfl
  have hsit : w.sit = s.sit := by rw [← hw]; rfl
  have hqueues : RiseQueues w p := by
    rw [RiseQueues, hauto, ← hw]
    refine hoffer.imp_right fun ⟨⟨hqueue, _⟩, _, hplace, heq, hwater⟩ => ⟨?_, hplace, heq, hwater⟩
    have hroom : s.queue.entries.length < 12 := by rw [hqueue]; decide
    exact hroom
  have heval := dueEvaluateAll_of_rise w p ((hnow p).1 hdue) (hsit ▸ hclear)
    (fun q hq hd => hsit ▸ hothers q hq ((hnow q).2 hd)) (by rw [← hw]; exact hlatch) hqueues
  have hdone : exec .setSetting s =
      .next (writeAnswered
        { dueRisen w p with
          sit := Eight.of fun q => if q = p then { w.sit.get p with due := true } else dueKept w q, due := w.due }
        (replyTo f 0 0 (u32 v))) := by
    rw [exec_sets h hnotices (settingRefusal_of_sets h hnumeric), applySetting_of_dueSetting _ i v hi, hw, heval]
    refine settled_dueRisen w p _ _ (by rw [← hw]; exact hsettled) ?_
    rw [hauto, ← hw]
    exact hoffer.imp_right fun ⟨hnone, htaken, _⟩ => ⟨hnone, htaken⟩
  have hread : ∀ q, (Eight.of fun q => if q = p then { w.sit.get p with due := true } else dueKept w q).get q =
      if q = p then { s.sit.get p with due := true } else dueKept w q := fun q => by rw [eight_get_of, hsit]
  refine ⟨_, hdone, (hread p).trans (if_pos rfl), fun q hq => ?others, ?queue, ?frame⟩
  case others =>
    obtain ⟨hkept, hcleared, hunfitted⟩ := dueKept_cases w q
    rw [hfitted, hsit] at hcleared
    rw [hfitted, hsit] at hunfitted
    rw [hsit] at hkept
    have hother := (hread q).trans (if_neg hq)
    rw [hnow q]
    exact ⟨fun hd => hother.trans (hkept hd), fun hd hf => hother.trans (hcleared hd hf),
      fun hf => hother.trans (hunfitted hf)⟩
  case queue =>
    have hqueue : riseQueue w p = if s.cfg.autoQueue = 0 then s.queue
        else { entries := s.queue.entries ++ [autoDueEntry s p], gen := (s.queue.gen + 1) % 256 } := by
      rw [riseQueue, hauto, ← hw]; rfl
    refine hqueue.trans ?_
    split
    · rfl
    next hon =>
      obtain ⟨⟨hempty, -⟩, -⟩ := hoffer.resolve_left hon
      rw [hempty]
      rfl
  case frame =>
    have hlatches : riseLatches w p =
        { s.latches with stringDue := (some
          { string := p.num, value := if s.cfg.autoQueue = 0 then 1 else 0, captured := none,
            time := { time := s.clock.count, valid := s.clock.valid }, again := 0, pending := true }) } := by
      rw [riseLatches, hauto, ← hw]; rfl
    rw [← hlatches, hu, ← hw]
    rfl

end

end Sys2Proof.Machine
end

-- ==== Proofs: Set Setting of FITTED, and every setting ====
section
/-! PROOFS. FITTED: its refusals, the removal of a position and the addition of one; the assembly of Set Clock, Set
Setting and the end of the store's write (O46, last part). -/

namespace Sys2Proof.Machine

open Sys2Proof.Safety

/-! ### The tests of FITTED (R67, R185) -/

theorem engagedRemoval_iff (s : State) (v : Nat) :
    engagedRemoval s v = true ↔
      ∃ p : Pos, s.cfg.fitted.testBit (p.num - 1) = true ∧ v.testBit (p.num - 1) = false
        ∧ (s.sit.get p).role ≠ .float := by
  rw [engagedRemoval, List.any_eq_true]
  constructor
  · rintro ⟨p, -, hp⟩
    simp only [fitted, inSet, Bool.and_eq_true, Bool.not_eq_true', bne_iff_ne] at hp
    exact ⟨p, hp.1.1, hp.1.2, hp.2⟩
  · rintro ⟨p, hfitted, hremoved, hrole⟩
    refine ⟨p, pos_mem_all p, ?_⟩
    simp only [fitted, inSet, Bool.and_eq_true, Bool.not_eq_true', bne_iff_ne]
    exact ⟨⟨hfitted, hremoved⟩, hrole⟩

section
variable (s : State) (v : Nat)

theorem settingRefusal_fitted_of_range (hv : v = 0 ∨ 256 ≤ v) : settingRefusal s .fitted v = some .range := by
  rcases hv with rfl | hv
  · rfl
  · have hundefined : definedBits .fitted v = false := decide_eq_false (by omega)
    rw [settingRefusal, hundefined]
    rfl

variable (hpos : 0 < v) (hmax : v < 256)
include hpos hmax

/-- Within its bits FITTED is refused for a removal that is engaged alone (R67). -/
theorem settingRefusal_fitted :
    settingRefusal s .fitted v = if engagedRemoval s v = true then some .engaged else none := by
  have hdefined : definedBits .fitted v = true := decide_eq_true hmax
  rw [settingRefusal, hdefined, if_neg (by decide), if_pos rfl, if_neg (Nat.ne_of_gt hpos)]

theorem settingRefusal_fitted_of_engaged (p : Pos) (hfitted : s.cfg.fitted.testBit (p.num - 1) = true)
    (hremoved : v.testBit (p.num - 1) = false) (hrole : (s.sit.get p).role ≠ .float) :
    settingRefusal s .fitted v = some .engaged := by
  rw [settingRefusal_fitted s v hpos hmax, if_pos ((engagedRemoval_iff s v).2 ⟨p, hfitted, hremoved, hrole⟩)]

theorem settingRefusal_fitted_of_float
    (hfloat : ∀ p : Pos, s.cfg.fitted.testBit (p.num - 1) = true → v.testBit (p.num - 1) = false →
      (s.sit.get p).role = .float) : settingRefusal s .fitted v = none := by
  rw [settingRefusal_fitted s v hpos hmax, if_neg]
  rintro hengaged
  obtain ⟨p, hfitted, hremoved, hrole⟩ := (engagedRemoval_iff s v).1 hengaged
  exact hrole (hfloat p hfitted hremoved)

end

/-! ### A change of one position (R67) -/

/-- A turn that is taken by one position alone. -/
theorem foldl_of_single (act : State → Pos → State) (taken : Pos → Bool) (p : Pos) (htaken : taken p = true)
    (hothers : ∀ q, q ≠ p → taken q = false) (l : List Pos) : ∀ s : State, l.Nodup → p ∈ l →
    l.foldl (fun s q => if taken q then act s q else s) s = act s p := by
  have hnone : ∀ (l : List Pos) (s : State), p ∉ l →
      l.foldl (fun s q => if taken q then act s q else s) s = s := by
    intro l
    induction l with
    | nil => intro s _; rfl
    | cons q l ih =>
      intro s hp
      obtain ⟨hq, hl⟩ := not_or.1 (mt List.mem_cons.2 hp)
      rw [List.foldl_cons, hothers q (Ne.symm hq)]
      exact ih s hl
  induction l with
  | nil => intro s _ hp; cases hp
  | cons q l ih =>
    intro s hnodup hp
    obtain ⟨hq, hl⟩ := List.nodup_cons.1 hnodup
    rw [List.foldl_cons]
    by_cases hqp : q = p
    · subst hqp
      rw [htaken]
      exact hnone l _ hq
    · rw [hothers q hqp]
      exact ih s hl ((List.mem_cons.1 hp).resolve_left (Ne.symm hqp))

/-- Turns that no position takes. -/
theorem foldl_of_none (act : State → Pos → State) (taken : Pos → Bool) (hnone : ∀ q, taken q = false)
    (l : List Pos) (s : State) : l.foldl (fun s q => if taken q then act s q else s) s = s := by
  induction l with
  | nil => rfl
  | cons q l ih =>
    rw [List.foldl_cons, hnone q]
    exact ih

theorem applySetting_fitted (s : State) (v : Nat) :
    applySetting (undefaulted s) .fitted v =
      Pos.all.foldl (fun t p => if !inSet s.cfg.fitted p && inSet v p then addPosition t p else t)
        (Pos.all.foldl (fun t p => if inSet s.cfg.fitted p && !inSet v p then removePosition t p else t)
          (valueSet s .fitted v)) := rfl

section
variable (s : State) (v : Nat) (p : Pos)
  (hothers : ∀ q : Pos, q ≠ p → v.testBit (q.num - 1) = s.cfg.fitted.testBit (q.num - 1))
include hothers

/-- The removal of one position. -/
theorem applySetting_fitted_of_removal (hfitted : s.cfg.fitted.testBit (p.num - 1) = true)
    (hremoved : v.testBit (p.num - 1) = false) :
    applySetting (undefaulted s) .fitted v = removePosition (valueSet s .fitted v) p := by
  rw [applySetting_fitted, foldl_of_single removePosition (fun q => inSet s.cfg.fitted q && !inSet v q) p
    (by simp [inSet, hfitted, hremoved]) (fun q hq => by simp [inSet, hothers q hq]) Pos.all _ (by decide)
    (pos_mem_all p)]
  refine foldl_of_none addPosition (fun q => !inSet s.cfg.fitted q && inSet v q) (fun q => ?_) Pos.all _
  by_cases hq : q = p
  · simp [inSet, hq, hfitted]
  · simp [inSet, hothers q hq]

/-- The addition of one position. -/
theorem applySetting_fitted_of_addition (hunfitted : s.cfg.fitted.testBit (p.num - 1) = false)
    (hadded : v.testBit (p.num - 1) = true) :
    applySetting (undefaulted s) .fitted v = addPosition (valueSet s .fitted v) p := by
  have hnone : ∀ q, (inSet s.cfg.fitted q && !inSet v q) = false := by
    intro q
    by_cases hq : q = p
    · simp [inSet, hq, hunfitted]
    · simp [inSet, hothers q hq]
  rw [applySetting_fitted, foldl_of_none removePosition (fun q => inSet s.cfg.fitted q && !inSet v q) hnone Pos.all]
  exact foldl_of_single addPosition (fun q => !inSet s.cfg.fitted q && inSet v q) p
    (by simp [inSet, hunfitted, hadded]) (fun q hq => by simp [inSet, hothers q hq]) Pos.all _ (by decide)
    (pos_mem_all p)

end

/-! ### The removal of a position and the addition of one (R67) -/

/-- What a change of a position's on-bus flag makes due (R60). -/
def dueWhen (b : Bool) (d : Due) : Due := if b then { reserve := true, admission := true } else d

theorem recomputeOnBus_due (s : State) (p : Pos) :
    (recomputeOnBus s p).due = dueWhen (onBusNow s p != (s.sit.get p).onBus) s.due := by
  unfold recomputeOnBus dueWhen
  dsimp only
  split
  next h => rw [h]; simp
  next h => rw [if_pos (by simpa using h)]; rfl

/-- An unfitted position is off the bus (R60). -/
theorem onBusNow_of_unfitted (s : State) (p : Pos) (h : fitted s p = false) : onBusNow s p = false := by
  simp [onBusNow, h]

/-- The reading table without a position's string, its measurement abandoned (R22). -/
def scanWithout (s : State) (p : Pos) : Scanner :=
  { s.scan with
    strings := s.scan.strings.set p .reset
    measuring := if s.scan.measuring = some p then none else s.scan.measuring }

/-- The removal of a position from a part with an empty queue (R67). -/
theorem removePosition_eq (s : State) (p : Pos) (hunfitted : fitted s p = false) (hqueue : s.queue.entries = [])
    (hgen : s.queue.gen < 256) :
    removePosition s p =
      { s with
        scan := scanWithout s p
        sit := s.sit.set p (.reset false)
        due := dueWhen (s.sit.get p).onBus s.due } := by
  have hentries : removeEntries s p = s := by
    have hq : ({ entries := [], gen := s.queue.gen % 256 } : RoundQueue) = s.queue := by
      rw [Nat.mod_eq_of_lt hgen, ← hqueue]
    unfold removeEntries
    rw [hqueue]
    exact congrArg (fun q => { s with queue := q }) hq
  have hflag : (false != (s.sit.get p).onBus) = (s.sit.get p).onBus := by simp
  obtain ⟨t, ht⟩ : ∃ t : State, t = { s with scan := scanWithout s p } := ⟨_, rfl⟩
  have hoff : onBusNow t p = false := onBusNow_of_unfitted t p (by rw [ht]; exact hunfitted)
  have hbus : recomputeOnBus t p =
      { t with sit := t.sit.set p { t.sit.get p with onBus := false }, due := dueWhen (s.sit.get p).onBus s.due } := by
    rw [← recomputeOnBus_frame, recomputeOnBus_sit, recomputeOnBus_due, hoff, ht]
    dsimp only
    rw [hflag]
  have hremove : removePosition s p = (recomputeOnBus t p).modSit p fun _ => .reset false := by
    unfold removePosition
    rw [hentries, ht]
    rfl
  rw [hremove, hbus, ht]
  simp [State.modSit]

/-- A SENSE fault that is recomputed without a reading fault makes no event (R59). -/
theorem recomputeSense_of_clear (s : State) (p : Pos) (hfitted : fitted s p = true)
    (hclear : readingFault
      { s.sit.get p with senseCell := senseCellNow s p, sensePilot := sensePilotNow s p } = false) :
    recomputeSense s p =
      s.modSit p fun t => { t with senseCell := senseCellNow s p, sensePilot := sensePilotNow s p } := by
  unfold recomputeSense
  dsimp only
  rw [if_pos hfitted, if_neg]
  simp [State.modSit, hclear]

/-- The situation of a position that is added with a VALID pilot and no scan (R67, R58, R59). -/
def addedSituation (s : State) (p : Pos) : StringSituation :=
  { role := .float, isolation := none, assigned := none, senseCell := .pending, sensePilot := .none
    due := false, levelLow := presents s (.level p) == .active, hourSec := 0, onBus := onBusNow s p }

/-- The addition of a position with a VALID pilot and no scan, whose string is not due (R67). -/
theorem addPosition_eq (s : State) (p : Pos) (hfitted : fitted s p = true)
    (hscan : (s.scan.strings.get p).stats = none) (hpilot : (s.temps.pilots.get p).state = .valid)
    (hundue : isDue s p = false) :
    addPosition s p =
      { s with sit := s.sit.set p (addedSituation s p), due := dueWhen (onBusNow s p) s.due } := by
  obtain ⟨t, ht⟩ : ∃ t : State, t = recomputeOnBus (s.modSit p fun _ => .reset true) p := ⟨_, rfl⟩
  have hbus : t = { s with
      sit := s.sit.set p { StringSituation.reset true with onBus := onBusNow s p }
      due := dueWhen (onBusNow s p) s.due } := by
    have hsame : onBusNow (s.modSit p fun _ => .reset true) p = onBusNow s p := rfl
    rw [ht, ← recomputeOnBus_frame, recomputeOnBus_sit, recomputeOnBus_due, hsame]
    simp [State.modSit, StringSituation.reset]
  have hsense : recomputeSense t p = t.modSit p fun x => { x with senseCell := .pending, sensePilot := .none } := by
    have hcell : senseCellNow t p = .pending := by rw [hbus, senseCellNow]; dsimp only; rw [hscan]
    have hpart : sensePilotNow t p = .none := by rw [hbus, sensePilotNow]; dsimp only; rw [hpilot]
    rw [recomputeSense_of_clear t p (by rw [hbus]; exact hfitted) (by rw [hcell, hpart]; rfl), hcell, hpart]
  have hadd : addPosition s p =
      dueEvaluate
        ((recomputeSense t p).modSit p fun x => { x with levelLow := presents s (.level p) == .active }) p := by
    have hlevel : presents (recomputeSense t p) (.level p) = presents s (.level p) := by rw [hsense, hbus]; rfl
    unfold addPosition
    dsimp only
    rw [← ht, hlevel]
  rw [hadd, hsense, dueEvaluate_of_not_due _ p (by rw [hbus]; exact hundue), hbus]
  simp [State.modSit, addedSituation, StringSituation.reset]

/-! ### Set Setting of FITTED (R67) -/

/-- Where a change of an on-bus flag may make the reserve test and an evaluation due, with both channels IDLE and no
candidate, they only clear the breach (R127). -/
theorem exec_sets_of_onBus {s : State} {f : Frame} {rest : List Frame} {i : SettingId} {v : Nat}
    (h : Sets s f rest i v) (hnotices : i ≠ .noticeEnables) (hallowed : settingRefusal s i v = none) (b : Bool)
    (t : State) (happly : applySetting (undefaulted (requestTaken s rest)) i v = { t with due := dueWhen b t.due })
    (ht : t.due = s.due) (hidle : ChannelsIdle t) (hnone : NoCandidates t) :
    exec .setSetting s =
      .next { writeAnswered t (replyTo f 0 0 (u32 v)) with
        perm := if b then { t.perm with breach := false } else t.perm } := by
  cases b with
  | false => exact exec_sets_of_settled h hnotices hallowed t happly ht
  | true => exact exec_sets_of_wantReserve h hnotices hallowed t happly ht hidle hnone

section
variable {s : State} {f : Frame} {rest : List Frame} {v : Nat}

/-- FITTED is refused RANGE for no position or an undefined bit, and ENGAGED for the removal of a position whose
string is not FLOAT (R67, R185). -/
theorem exec_sets_fitted_of_refusal (h : Sets s f rest .fitted v) (r : Reason)
    (hrefusal : settingRefusal s .fitted v = some r) :
    exec .setSetting s = .next { s with link := answered s rest (replyTo f 6 (BitVec.ofNat 8 r.code) []) } := by
  obtain ⟨htaking, hkind, hv, hbody, hfree, -, -⟩ := h
  exact exec_setSetting_of_refusal s f rest .fitted v htaking hkind hv hbody r hfree hrefusal

variable (h : Sets s f rest .fitted v) (p : Pos) (hpos : 0 < v) (hmax : v < 256)
  (hothers : ∀ q : Pos, q ≠ p → v.testBit (q.num - 1) = s.cfg.fitted.testBit (q.num - 1))
  (hidle : ChannelsIdle s) (hnone : NoCandidates s)
include h hpos hmax hothers hidle hnone

/-- The removal of a FLOAT position (R67). -/
theorem exec_sets_fitted_of_removal (hfitted : s.cfg.fitted.testBit (p.num - 1) = true)
    (hremoved : v.testBit (p.num - 1) = false) (hrole : (s.sit.get p).role = .float) (hgen : s.queue.gen < 256) :
    ∃ t, exec .setSetting s = .next t
      ∧ t.scan.strings = s.scan.strings.set p { stats := none, cells := [], scanNo := 0 }
      ∧ t.scan.measuring = (if s.scan.measuring = some p then none else s.scan.measuring)
      ∧ (∀ q : Pos, q ≠ p → t.sit.get q = s.sit.get q) ∧ SituationReset false (t.sit.get p)
      ∧ { nowSet s f rest .fitted v with
          scan := { s.scan with strings := t.scan.strings, measuring := t.scan.measuring }, sit := t.sit
          perm := (if (s.sit.get p).onBus then { s.perm with breach := false } else s.perm) } = t := by
  have hallowed : settingRefusal s .fitted v = none := by
    refine settingRefusal_fitted_of_float s v hpos hmax fun q hq hqremoved => ?_
    by_cases hqp : q = p
    · rw [hqp]; exact hrole
    · rw [hothers q hqp, hq] at hqremoved
      cases hqremoved
  have happly : applySetting (undefaulted (requestTaken s rest)) .fitted v =
      { valueSet (requestTaken s rest) .fitted v with
        scan := scanWithout s p, sit := s.sit.set p (.reset false), due := dueWhen (s.sit.get p).onBus s.due } :=
    (applySetting_fitted_of_removal (requestTaken s rest) v p hothers hfitted hremoved).trans
      (removePosition_eq (valueSet (requestTaken s rest) .fitted v) p hremoved hnone.1 hgen)
  refine ⟨_, exec_sets_of_onBus h (by decide) hallowed (s.sit.get p).onBus
    { valueSet (requestTaken s rest) .fitted v with scan := scanWithout s p, sit := s.sit.set p (.reset false) }
    happly rfl hidle hnone, rfl, rfl, fun q hq => ?_, ?_, rfl⟩
  · exact eight_get_set_other _ _ _ _ hq
  · exact eight_get_set_same _ _ _

/-- The addition of a position with a VALID pilot and no scan, whose string is not due (R67). -/
theorem exec_sets_fitted_of_addition (hunfitted : s.cfg.fitted.testBit (p.num - 1) = false)
    (hadded : v.testBit (p.num - 1) = true) (hscan : (s.scan.strings.get p).stats = none)
    (hpilot : (s.temps.pilots.get p).state = .valid) (hhours : (s.hist.get p).hours < s.cfg.dueDays * 24)
    (hthroughput : (s.hist.get p).throughput < s.cfg.dueAh * 36000) :
    ∃ t, exec .setSetting s = .next t
      ∧ (∀ q : Pos, q ≠ p → t.sit.get q = s.sit.get q)
      ∧ t.sit.get p =
          { role := .float, isolation := none, assigned := none, senseCell := .pending, sensePilot := .none
            due := false, levelLow := presents s (.level p) == .active, hourSec := 0
            onBus := (s.out.kf.get p == .closed) && (presents s (.kf p) == .active) }
      ∧ { nowSet s f rest .fitted v with
          sit := t.sit
          perm := (if (t.sit.get p).onBus then { s.perm with breach := false } else s.perm) } = t := by
  have hallowed : settingRefusal s .fitted v = none := by
    refine settingRefusal_fitted_of_float s v hpos hmax fun q hq hqremoved => ?_
    by_cases hqp : q = p
    · rw [hqp, hunfitted] at hq
      cases hq
    · rw [hothers q hqp, hq] at hqremoved
      cases hqremoved
  obtain ⟨w, hw⟩ : ∃ w, w = valueSet (requestTaken s rest) .fitted v := ⟨_, rfl⟩
  have hwfitted : fitted w p = true := by rw [hw]; exact hadded
  have hwbus : onBusNow w p = ((s.out.kf.get p == .closed) && (presents s (.kf p) == .active)) := by
    rw [onBusNow, hwfitted, Bool.true_and, hw]
    rfl
  have happly : applySetting (undefaulted (requestTaken s rest)) .fitted v =
      { w with sit := w.sit.set p (addedSituation w p), due := dueWhen (onBusNow w p) w.due } := by
    rw [applySetting_fitted_of_addition (requestTaken s rest) v p hothers hunfitted hadded, ← hw]
    exact addPosition_eq w p hwfitted (hw ▸ hscan) (hw ▸ hpilot)
      (isDue_of_below w p (by rw [hw]; exact ⟨hhours, hthroughput⟩))
  have hown : (w.sit.set p (addedSituation w p)).get p = addedSituation w p := eight_get_set_same _ _ _
  refine ⟨_, exec_sets_of_onBus h (by decide) hallowed (onBusNow w p)
    { w with sit := w.sit.set p (addedSituation w p) } happly (by rw [hw]; rfl) (hw ▸ hidle) (hw ▸ hnone),
    fun q hq => ?others, ?own, ?frame⟩
  case others =>
    rw [hw]
    exact eight_get_set_other _ _ _ _ hq
  case own =>
    refine hown.trans ?_
    rw [addedSituation, hwbus, hw]
    rfl
  case frame =>
    have hbus : ((w.sit.set p (addedSituation w p)).get p).onBus = onBusNow w p := by rw [hown]; rfl
    refine (congrArg
      (fun b : Bool =>
        ({ nowSet s f rest .fitted v with
          sit := w.sit.set p (addedSituation w p)
          perm := if b then { s.perm with breach := false } else s.perm } : State)) hbus).trans ?_
    rw [hw]
    rfl

end

/-- Settles O46: one rule for the request, and one for each block that acts at once. -/
theorem clockAndSettingsAreSet : Obligations.ClockAndSettingsAreSet := by
  refine ⟨?clock, ?later, ?unknown, exec_storeWriteEnd, ?atOnce, ?fan, ?due, ?notices⟩
  case clock =>
    intro s f rest n htaking hkind hn hbody
    exact exec_setClock s f rest n htaking hkind hn hbody
  case later =>
    intro s f rest i v w htaking hkind hlater hv hbody hw
    have hset := exec_setSetting_of_later s f rest i v w htaking hkind hlater hv hbody hw
    exact ⟨exec_setSetting_of_busy s f rest i v htaking hkind hv hbody, fun hfree => (hset hfree).1,
      fun hfree => (hset hfree).2⟩
  case unknown =>
    intro s f rest b v htaking hkind hunlisted hbody
    exact exec_setSetting_of_unknown s f rest b v htaking hkind hunlisted hbody
  case fan =>
    intro s f rest v h
    exact exec_sets_fanMinRpm h
  case due =>
    intro s u f rest i v h hi hu
    exact ⟨exec_sets_due_of_kept h hi hu, exec_sets_due_of_rise h hi hu⟩
  case notices =>
    intro s f rest v w htaking hkind hv hbody hw hfree hnew
    exact exec_setSetting_of_noticeEnables s f rest v w htaking hkind hv hbody hw hfree hnew
  case atOnce =>
    intro s f rest i v h
    refine ⟨?reserve, exec_sets_evaluated h, ?autoQueue, exec_sets_setpoint h, ?eqIlimit, ?flatCount, ?suspendMax,
      ?capacity, ?low, ?polarity, ?fitted⟩
    case reserve => rintro rfl; exact exec_sets_reserve h
    case autoQueue => rintro rfl; exact exec_sets_autoQueue h
    case eqIlimit => rintro rfl; exact exec_sets_eqIlimit h
    case flatCount => rintro rfl; exact exec_sets_flatCount h
    case suspendMax => rintro g rfl; exact exec_sets_suspendMax h g
    case capacity => rintro rfl; exact exec_sets_reservoirCapMl h
    case low => rintro rfl; exact exec_sets_reservoirLowMl h
    case polarity => rintro rfl; exact exec_sets_polarity h
    case fitted =>
      rintro rfl
      refine ⟨fun hv => ?_, fun p hpos hmax hfitted hremoved hrole => ?_,
        fun p hpos hmax hfitted hremoved hrole hothers hidle hnone hgen => ?_,
        fun p hpos hmax hunfitted hadded hothers hidle hnone hscan hpilot hhours hthroughput => ?_⟩
      · exact exec_sets_fitted_of_refusal h .range (settingRefusal_fitted_of_range s v hv)
      · exact exec_sets_fitted_of_refusal h .engaged
          (settingRefusal_fitted_of_engaged s v hpos hmax p hfitted hremoved hrole)
      · exact exec_sets_fitted_of_removal h p hpos hmax hothers hidle hnone hfitted hremoved hrole hgen
      · exact exec_sets_fitted_of_addition h p hpos hmax hothers hidle hnone hunfitted hadded hscan hpilot hhours
          hthroughput

end Sys2Proof.Machine
end
